-- ==== Sys2Proof/Word.lean ====
section
/-! DEFINITION. The few word types the part's serial frames and FETCH values are made of. Every other quantity of the
part is a whole number within a stated range and is held as a `Nat` or an `Int`. -/

namespace Sys2Proof

/-- One byte of a frame (R180). -/
abbrev Byte := BitVec 8

/-- One 16-bit value of a frame or of a FETCH (R192). -/
abbrev Half := BitVec 16

end Sys2Proof
end

