-- ==== Sys2Proof/Syntax.lean ====
section
/-! DEFINITION. The commands of the part: one constructor of `Instr` for each row of spec/opcode_table.json, with the
operands that the event, notice or request carries, and the types those operands are made of. -/

namespace Sys2Proof

/-! ## Galleries, channels and the four kinds (Introduction, Conventions) -/

/-- The six galleries, 0 to 5. -/
inductive Gallery where
  | g0 | g1 | g2 | g3 | g4 | g5
  deriving DecidableEq, Repr, Inhabited

/-- The kinds of channel, *k* = 0 to 3: illuminance L, UV content U, relative humidity H, temperature T. -/
inductive Kind where
  | lux | uv | rh | temp
  deriving DecidableEq, Repr, Inhabited

/-- Channel *c* = 4*g* + *k*. -/
structure Chan where
  g : Gallery
  k : Kind
  deriving DecidableEq, Repr, Inhabited

/-- The three serial ports, fixed to roles. -/
inductive Port where
  | climate | lighting | conservation
  deriving DecidableEq, Repr, Inhabited

/-- The blocks a notice or a request can be addressed to. The three port controllers count as three. -/
inductive Block where
  | timeBase | acquisition | filter | envelope | light | climate | history | log | darkening | sequencer
  | port (p : Port)
  deriving DecidableEq, Repr, Inhabited

/-! ## What the notices carry -/

/-- The cause of a FAULT (R4). -/
inductive FaultCause where
  | rail | check
  deriving DecidableEq, Repr, Inhabited

/-- The five channel states, FAULT with its cause (R4). -/
inductive ChanState where
  | ok | suspect | fault (cause : FaultCause) | checking | disabled
  deriving DecidableEq, Repr, Inhabited

/-- The channel state change notice (R9). -/
structure StateChange where
  chan : Chan
  old : ChanState
  new : ChanState
  recovery : Bool
  uninit : Bool
  deriving DecidableEq, Repr, Inhabited

/-- The two kinds of tracked update notice (R33). -/
inductive UpdateKind where
  | sample | state
  deriving DecidableEq, Repr, Inhabited

/-- The tracked update notice (R33). -/
structure TrackedUpdate where
  chan : Chan
  kind : UpdateKind
  code : Option Nat
  state : ChanState
  du : Nat
  deriving DecidableEq, Repr, Inhabited

/-- A stamp of day number and second-of-day (R37). -/
structure SecondStamp where
  day : Nat
  second : Nat
  deriving DecidableEq, Repr, Inhabited

/-- A stamp of day number, weekday and hour, as an hour mark carries it (R39). -/
structure HourStamp where
  day : Nat
  weekday : Nat
  hour : Nat
  deriving DecidableEq, Repr, Inhabited

/-- The hour mark (R39, R44). With `dayFlag` it is a day mark. -/
structure HourMark where
  ending : HourStamp
  beginning : HourStamp
  dayFlag : Bool
  clockChanged : Bool
  deriving DecidableEq, Repr, Inhabited

/-- The 19 fields of an envelope (R56), in the units of its table. -/
structure Envelope where
  lmax : Nat
  lmin : Nat
  lclosed : Nat
  lhard : Nat
  ldark : Nat
  uref : Nat
  budget : Nat
  period : Nat
  hset : Nat
  hband : Nat
  hswing : Nat
  tmin : Nat
  tmax : Nat
  tswing : Nat
  ostart : Nat
  oend : Nat
  weekdays : Nat
  delay : Nat
  policy : Nat
  deriving DecidableEq, Repr, Inhabited

/-- The fields of an envelope by name; `Machine.envFields` lists them by number (R56). -/
inductive EnvField where
  | lmax | lmin | lclosed | lhard | ldark | uref | budget | period | hset | hband | hswing
  | tmin | tmax | tswing | ostart | oend | weekdays | delay | policy
  deriving DecidableEq, Repr, Inhabited

/-- The envelope changed notice (R66): the new active envelope and the fields whose values differ from the old one's. -/
structure EnvelopeChange where
  g : Gallery
  env : Envelope
  changed : List EnvField
  deriving DecidableEq, Repr, Inhabited

/-- The six flags an hour close notice carries (R78). -/
structure HourFlags where
  openHour : Bool
  darkened : Bool
  lSubstituted : Bool
  clockChanged : Bool
  powerGap : Bool
  noPeriod : Bool
  deriving DecidableEq, Repr, Inhabited

/-- The hour close notice (R78). -/
structure HourClose where
  g : Gallery
  day : Nat
  hour : Nat
  dose : Nat
  flags : HourFlags
  deriving DecidableEq, Repr, Inhabited

/-- The aggregate change notice (R128): the four extremes of the hour so far, each present or absent. -/
structure AggregateChange where
  g : Gallery
  rhMin : Option Nat
  rhMax : Option Nat
  tMin : Option Nat
  tMax : Option Nat
  deriving DecidableEq, Repr, Inhabited

/-- What a verdict notice says of a channel (R8, R175). -/
inductive ChannelVerdict where
  | pass | warn | fail
  deriving DecidableEq, Repr, Inhabited

/-- The four steps of a self-check (R173). -/
inductive CheckStep where
  | openInput | shortInput | reference | response
  deriving DecidableEq, Repr, Inhabited

/-- A step reading: one raw code, or for RESPONSE the codes without and with the injection (R174). -/
inductive Reading where
  | single (raw : Half)
  | pair (plain injected : Half)
  deriving DecidableEq, Repr, Inhabited

/-- A port's judgement of its master (R185). -/
inductive Presence where
  | unknown | present | absent
  deriving DecidableEq, Repr, Inhabited

/-- The twelve excursion types, in the order of their numbers (R140). -/
inductive ExcType where
  | luxOver | luxHard | uvHigh | doseShort | doseExhausted | rhHigh | rhLow | rhSwing
  | tHigh | tLow | tSwing | sensorFault
  deriving DecidableEq, Repr, Inhabited

/-- The fifteen attention causes, in the order of their numbers 1 to 15 (R187). -/
inductive Cause where
  | partRestarted | darkeningStarted | darkeningOutcome | channelFault | masterPresence | allowanceChanged
  | bandChanged | envelopeCommitted | excursionOpened | excursionClosed | checkDone | calibrationDone
  | hourMark | historyOverrun | excursionOverflow
  deriving DecidableEq, Repr, Inhabited

/-- The two trigger inputs (R165). -/
inductive Trigger where
  | a | b
  deriving DecidableEq, Repr, Inhabited

/-- The result codes of replies (R192). -/
inductive Result where
  | none | ok | clamped | accepted | duplicate | frameError | panelMismatch | unknownRequest
  | notPermitted | busy | locked | pending | inconsistent | notFound | noSelection | range
  deriving DecidableEq, Repr, Inhabited

/-- A reply as a port holds it: result, echoed request code, data and echoed tag (R182). -/
structure Reply where
  result : Result
  code : BitVec 6
  data : Half
  tag : Byte
  deriving DecidableEq, Repr, Inhabited

/-- A request as it is taken from a valid frame: the port it came from and the fields of the frame (R192). -/
structure Req where
  port : Port
  gallery : BitVec 3
  sub : BitVec 5
  value : Half
  tag : Byte
  deriving DecidableEq, Repr, Inhabited

/-- The kind of a start (R52). -/
inductive StartKind where
  | cold | warm
  deriving DecidableEq, Repr, Inhabited

/-- The start notice (R52): its kind, the clock as it stands, and the last mark stamp of the retained domain. The clock's
second is carried so that the stamps of R151 and R169 are whole (log entry 8). -/
structure StartInfo where
  kind : StartKind
  day : Nat
  weekday : Nat
  minute : Nat
  second : Nat
  lastMarkDay : Nat
  lastMarkHour : Nat
  deriving DecidableEq, Repr, Inhabited

/-! ## The commands -/

/-- One constructor for each row of spec/opcode_table.json: an event, a notice taken by its recipient, or a request taken
by the block that owns it. The rows that name one outcome of another row's event (RAIL_FAULT of a sample arrival,
DELAY_EXPIRY of a second mark) carry that event's operands (log entry 2). -/
inductive Instr where
  -- acquisition unit
  | sampleArrival (c : Chan) (r : Half)
  | railFault (c : Chan) (r : Half)
  | railRecovery (c : Chan) (r : Half)
  | spanCompletion (c : Chan) (r : Half)
  | zeroCompletion (c : Chan) (r : Half)
  | galleryStartNotice (g : Gallery)
  | channelEnterNotice (c : Chan)
  | verdictNotice (c : Chan) (v : ChannelVerdict)
  | channelAbortNotice (c : Chan)
  -- channel notices at their recipients
  | correctedSampleNotice (c : Chan) (x : Nat)
  | stateChangeAtFilter (n : StateChange)
  | stateChangeAtLight (n : StateChange)
  | stateChangeAtClimate (n : StateChange)
  | trackedUpdateAtHistory (u : TrackedUpdate)
  | trackedUpdateAtLight (u : TrackedUpdate)
  | trackedUpdateAtClimate (u : TrackedUpdate)
  | trackedUpdateAtDarkening (u : TrackedUpdate)
  -- the clock and its marks
  | clockAdvance
  | hourMark
  | secondMarkAtLight (t : SecondStamp)
  | overCounterExpiry (g : Gallery) (t : SecondStamp)
  | secondMarkAtDarkening (t : SecondStamp)
  | delayExpiry (g : Gallery) (t : SecondStamp)
  | timeToDarkExpiry (g : Gallery) (t : SecondStamp)
  | heldMinute (g : Gallery) (t : SecondStamp)
  | hardLuxCountExpiry (g : Gallery) (t : SecondStamp)
  | secondMarkAtPort (p : Port) (t : SecondStamp)
  | silenceTimeout (p : Port) (t : SecondStamp)
  | secondMarkAtSequencer (t : SecondStamp)
  | dwellExpiry (t : SecondStamp)
  | hourMarkAtEnvelope (m : HourMark)
  | hourMarkAtLight (m : HourMark)
  | dayMarkAtHistory (m : HourMark)
  -- history, climate, envelope and darkening notices
  | hourCloseNotice (h : HourClose)
  | recordWrittenNotice (g : Gallery) (day hour : Nat)
  | aggregateChangeNotice (a : AggregateChange)
  | envelopeChangedAtLight (e : EnvelopeChange)
  | envelopeChangedAtClimate (e : EnvelopeChange)
  | envelopeChangedAtDarkening (e : EnvelopeChange)
  | exhaustionChangeNotice (g : Gallery) (exhausted : Bool)
  | darkeningStateAtLight (g : Gallery) (notIdle : Bool)
  | darkeningStateAtSequencer (g : Gallery) (notIdle : Bool)
  | presenceNoticeAtClimate (p : Presence)
  | presenceNoticeAtDarkening (p : Presence)
  -- the excursion log and attention
  | openNotice (g : Gallery) (t : ExcType) (limit value : Nat)
  | valueNotice (g : Gallery) (t : ExcType) (value : Nat)
  | closeNotice (g : Gallery) (t : ExcType)
  | attentionNotice (p : Port) (c : Cause) (g : Option Gallery)
  -- ports
  | frameEnd (p : Port) (bits : List Bool)
  | replyNotice (p : Port) (r : Reply)
  | nop (q : Req)
  | select (q : Req)
  | fetch (q : Req)
  | nextAttention (q : Req)
  | setAttention (q : Req)
  | attentionMode (q : Req)
  -- requests of the lighting and climate masters
  | queryAllowance (q : Req)
  | declareLevel (q : Req)
  | lightingDarken (q : Req)
  | lightingRelease (q : Req)
  | conservationDarken (q : Req)
  | conservationRelease (q : Req)
  | queryBand (q : Req)
  | declareSetpoint (q : Req)
  -- requests of the conservation master
  | writeStaged (q : Req)
  | commit (q : Req)
  | discard (q : Req)
  | loanLock (q : Req)
  | startPeriod (q : Req)
  | setDate (q : Req)
  | setTime (q : Req)
  | unsetClock (q : Req)
  | writeChannelEnable (q : Req)
  | writeChannelGain (q : Req)
  | writeChannelOffset (q : Req)
  | writeChannelCorrectionLimit (q : Req)
  | writeChannelDeviationUnit (q : Req)
  | writeChannelFilterMode (q : Req)
  | writeChannelFastLimit (q : Req)
  | writeChannelSlowLimit (q : Req)
  | writeChannelHold (q : Req)
  | calibrateZero (q : Req)
  | calibrateSpan (q : Req)
  | check (q : Req)
  | stepReading (c : Chan) (step : CheckStep) (r : Reading)
  | cancelCheck (q : Req)
  | checkSetup (q : Req)
  | partitionSet (q : Req)
  | partitionWithdraw (q : Req)
  | advanceMark (q : Req)
  | ackExcursionOne (q : Req)
  | ackExcursionAllClosed (q : Req)
  | triggerSetup (q : Req)
  | silenceSetup (q : Req)
  -- pins, supply and starts
  | triggerRise (x : Trigger)
  | triggerFall (x : Trigger)
  | powerUp
  | mainSupplyLoss
  | supplyLossLatch
  | resetnAssert
  | resetnRelease
  | startNotice (b : Block) (i : StartInfo)
  | frameBegin (p : Port)
  deriving DecidableEq, Repr, Inhabited

end Sys2Proof
end

