-- ==== Sys2Proof/Decode.lean ====
section
/-! DEFINITION. The decoder of opcode-table words. The table gives no row any bits: a command of this part is an event, a
notice or a request, and the request frames, whose bits R192 gives, are read by `Machine.execFrameEnd`. -/

namespace Sys2Proof

/-- The command that a word of the table spells: none, since the table gives no row a pattern of bits. -/
def decodeTableWord (_nbits _w : Nat) : Option Instr := none

end Sys2Proof
end

