-- ==== Sys2Proof/Machine/Tables.lean ====
section
/-! DEFINITION. Tables of like things indexed by a named set (one entry for each gallery, kind, port, step, trigger input,
excursion type or attention cause), as plain records with a `get`, a `set` and a constant filling. -/

namespace Sys2Proof.Machine

/-- One entry for each of the six galleries. -/
structure PerGallery (α : Type) where
  g0 : α
  g1 : α
  g2 : α
  g3 : α
  g4 : α
  g5 : α
  deriving DecidableEq, Repr, Inhabited

/-- The entry of `i`. -/
def PerGallery.get {α : Type} (t : PerGallery α) (i : Gallery) : α :=
  match i with
  | .g0 => t.g0
  | .g1 => t.g1
  | .g2 => t.g2
  | .g3 => t.g3
  | .g4 => t.g4
  | .g5 => t.g5

/-- The table with the entry of `i` replaced. -/
def PerGallery.set {α : Type} (t : PerGallery α) (i : Gallery) (a : α) : PerGallery α :=
  match i with
  | .g0 => { t with g0 := a }
  | .g1 => { t with g1 := a }
  | .g2 => { t with g2 := a }
  | .g3 => { t with g3 := a }
  | .g4 => { t with g4 := a }
  | .g5 => { t with g5 := a }

/-- The table with the same entry everywhere. -/
def PerGallery.all {α : Type} (a : α) : PerGallery α :=
  ⟨a, a, a, a, a, a⟩

/-- The table whose entry of `i` is `f i`. -/
def PerGallery.ofFn {α : Type} (f : Gallery → α) : PerGallery α :=
  ⟨f .g0, f .g1, f .g2, f .g3, f .g4, f .g5⟩

/-- One entry for each of the four kinds of channel. -/
structure PerKind (α : Type) where
  lux : α
  uv : α
  rh : α
  temp : α
  deriving DecidableEq, Repr, Inhabited

/-- The entry of `i`. -/
def PerKind.get {α : Type} (t : PerKind α) (i : Kind) : α :=
  match i with
  | .lux => t.lux
  | .uv => t.uv
  | .rh => t.rh
  | .temp => t.temp

/-- The table with the entry of `i` replaced. -/
def PerKind.set {α : Type} (t : PerKind α) (i : Kind) (a : α) : PerKind α :=
  match i with
  | .lux => { t with lux := a }
  | .uv => { t with uv := a }
  | .rh => { t with rh := a }
  | .temp => { t with temp := a }

/-- The table with the same entry everywhere. -/
def PerKind.all {α : Type} (a : α) : PerKind α :=
  ⟨a, a, a, a⟩

/-- The table whose entry of `i` is `f i`. -/
def PerKind.ofFn {α : Type} (f : Kind → α) : PerKind α :=
  ⟨f .lux, f .uv, f .rh, f .temp⟩

/-- One entry for each of the three ports. -/
structure PerPort (α : Type) where
  climate : α
  lighting : α
  conservation : α
  deriving DecidableEq, Repr, Inhabited

/-- The entry of `i`. -/
def PerPort.get {α : Type} (t : PerPort α) (i : Port) : α :=
  match i with
  | .climate => t.climate
  | .lighting => t.lighting
  | .conservation => t.conservation

/-- The table with the entry of `i` replaced. -/
def PerPort.set {α : Type} (t : PerPort α) (i : Port) (a : α) : PerPort α :=
  match i with
  | .climate => { t with climate := a }
  | .lighting => { t with lighting := a }
  | .conservation => { t with conservation := a }

/-- The table with the same entry everywhere. -/
def PerPort.all {α : Type} (a : α) : PerPort α :=
  ⟨a, a, a⟩

/-- The table whose entry of `i` is `f i`. -/
def PerPort.ofFn {α : Type} (f : Port → α) : PerPort α :=
  ⟨f .climate, f .lighting, f .conservation⟩

/-- One entry for each of the four self-check steps. -/
structure PerStep (α : Type) where
  openInput : α
  shortInput : α
  reference : α
  response : α
  deriving DecidableEq, Repr, Inhabited

/-- The entry of `i`. -/
def PerStep.get {α : Type} (t : PerStep α) (i : CheckStep) : α :=
  match i with
  | .openInput => t.openInput
  | .shortInput => t.shortInput
  | .reference => t.reference
  | .response => t.response

/-- The table with the entry of `i` replaced. -/
def PerStep.set {α : Type} (t : PerStep α) (i : CheckStep) (a : α) : PerStep α :=
  match i with
  | .openInput => { t with openInput := a }
  | .shortInput => { t with shortInput := a }
  | .reference => { t with reference := a }
  | .response => { t with response := a }

/-- The table with the same entry everywhere. -/
def PerStep.all {α : Type} (a : α) : PerStep α :=
  ⟨a, a, a, a⟩

/-- The table whose entry of `i` is `f i`. -/
def PerStep.ofFn {α : Type} (f : CheckStep → α) : PerStep α :=
  ⟨f .openInput, f .shortInput, f .reference, f .response⟩

/-- One entry for each of the two trigger inputs. -/
structure PerTrigger (α : Type) where
  a : α
  b : α
  deriving DecidableEq, Repr, Inhabited

/-- The entry of `i`. -/
def PerTrigger.get {α : Type} (t : PerTrigger α) (i : Trigger) : α :=
  match i with
  | .a => t.a
  | .b => t.b

/-- The table with the entry of `i` replaced. -/
def PerTrigger.set {α : Type} (t : PerTrigger α) (i : Trigger) (a : α) : PerTrigger α :=
  match i with
  | .a => { t with a := a }
  | .b => { t with b := a }

/-- The table with the same entry everywhere. -/
def PerTrigger.all {α : Type} (a : α) : PerTrigger α :=
  ⟨a, a⟩

/-- The table whose entry of `i` is `f i`. -/
def PerTrigger.ofFn {α : Type} (f : Trigger → α) : PerTrigger α :=
  ⟨f .a, f .b⟩

/-- One entry for each of the twelve excursion types. -/
structure PerType (α : Type) where
  luxOver : α
  luxHard : α
  uvHigh : α
  doseShort : α
  doseExhausted : α
  rhHigh : α
  rhLow : α
  rhSwing : α
  tHigh : α
  tLow : α
  tSwing : α
  sensorFault : α
  deriving DecidableEq, Repr, Inhabited

/-- The entry of `i`. -/
def PerType.get {α : Type} (t : PerType α) (i : ExcType) : α :=
  match i with
  | .luxOver => t.luxOver
  | .luxHard => t.luxHard
  | .uvHigh => t.uvHigh
  | .doseShort => t.doseShort
  | .doseExhausted => t.doseExhausted
  | .rhHigh => t.rhHigh
  | .rhLow => t.rhLow
  | .rhSwing => t.rhSwing
  | .tHigh => t.tHigh
  | .tLow => t.tLow
  | .tSwing => t.tSwing
  | .sensorFault => t.sensorFault

/-- The table with the entry of `i` replaced. -/
def PerType.set {α : Type} (t : PerType α) (i : ExcType) (a : α) : PerType α :=
  match i with
  | .luxOver => { t with luxOver := a }
  | .luxHard => { t with luxHard := a }
  | .uvHigh => { t with uvHigh := a }
  | .doseShort => { t with doseShort := a }
  | .doseExhausted => { t with doseExhausted := a }
  | .rhHigh => { t with rhHigh := a }
  | .rhLow => { t with rhLow := a }
  | .rhSwing => { t with rhSwing := a }
  | .tHigh => { t with tHigh := a }
  | .tLow => { t with tLow := a }
  | .tSwing => { t with tSwing := a }
  | .sensorFault => { t with sensorFault := a }

/-- The table with the same entry everywhere. -/
def PerType.all {α : Type} (a : α) : PerType α :=
  ⟨a, a, a, a, a, a, a, a, a, a, a, a⟩

/-- The table whose entry of `i` is `f i`. -/
def PerType.ofFn {α : Type} (f : ExcType → α) : PerType α :=
  ⟨f .luxOver, f .luxHard, f .uvHigh, f .doseShort, f .doseExhausted, f .rhHigh, f .rhLow, f .rhSwing, f .tHigh, f .tLow, f .tSwing, f .sensorFault⟩

/-- One entry for each of the fifteen attention causes. -/
structure PerCause (α : Type) where
  partRestarted : α
  darkeningStarted : α
  darkeningOutcome : α
  channelFault : α
  masterPresence : α
  allowanceChanged : α
  bandChanged : α
  envelopeCommitted : α
  excursionOpened : α
  excursionClosed : α
  checkDone : α
  calibrationDone : α
  hourMark : α
  historyOverrun : α
  excursionOverflow : α
  deriving DecidableEq, Repr, Inhabited

/-- The entry of `i`. -/
def PerCause.get {α : Type} (t : PerCause α) (i : Cause) : α :=
  match i with
  | .partRestarted => t.partRestarted
  | .darkeningStarted => t.darkeningStarted
  | .darkeningOutcome => t.darkeningOutcome
  | .channelFault => t.channelFault
  | .masterPresence => t.masterPresence
  | .allowanceChanged => t.allowanceChanged
  | .bandChanged => t.bandChanged
  | .envelopeCommitted => t.envelopeCommitted
  | .excursionOpened => t.excursionOpened
  | .excursionClosed => t.excursionClosed
  | .checkDone => t.checkDone
  | .calibrationDone => t.calibrationDone
  | .hourMark => t.hourMark
  | .historyOverrun => t.historyOverrun
  | .excursionOverflow => t.excursionOverflow

/-- The table with the entry of `i` replaced. -/
def PerCause.set {α : Type} (t : PerCause α) (i : Cause) (a : α) : PerCause α :=
  match i with
  | .partRestarted => { t with partRestarted := a }
  | .darkeningStarted => { t with darkeningStarted := a }
  | .darkeningOutcome => { t with darkeningOutcome := a }
  | .channelFault => { t with channelFault := a }
  | .masterPresence => { t with masterPresence := a }
  | .allowanceChanged => { t with allowanceChanged := a }
  | .bandChanged => { t with bandChanged := a }
  | .envelopeCommitted => { t with envelopeCommitted := a }
  | .excursionOpened => { t with excursionOpened := a }
  | .excursionClosed => { t with excursionClosed := a }
  | .checkDone => { t with checkDone := a }
  | .calibrationDone => { t with calibrationDone := a }
  | .hourMark => { t with hourMark := a }
  | .historyOverrun => { t with historyOverrun := a }
  | .excursionOverflow => { t with excursionOverflow := a }

/-- The table with the same entry everywhere. -/
def PerCause.all {α : Type} (a : α) : PerCause α :=
  ⟨a, a, a, a, a, a, a, a, a, a, a, a, a, a, a⟩

/-- The table whose entry of `i` is `f i`. -/
def PerCause.ofFn {α : Type} (f : Cause → α) : PerCause α :=
  ⟨f .partRestarted, f .darkeningStarted, f .darkeningOutcome, f .channelFault, f .masterPresence, f .allowanceChanged, f .bandChanged, f .envelopeCommitted, f .excursionOpened, f .excursionClosed, f .checkDone, f .calibrationDone, f .hourMark, f .historyOverrun, f .excursionOverflow⟩

/-- One entry for each of the 24 channels, by gallery and kind. -/
abbrev PerChan (α : Type) := PerGallery (PerKind α)

/-- The entry of channel `c`. -/
def getChan {α : Type} (t : PerChan α) (c : Chan) : α := (t.get c.g).get c.k

/-- The table with the entry of channel `c` replaced. -/
def setChan {α : Type} (t : PerChan α) (c : Chan) (a : α) : PerChan α :=
  t.set c.g ((t.get c.g).set c.k a)

end Sys2Proof.Machine
end

