-- ==== Sys2Proof/Machine/Records.lean ====
section
/-! DEFINITION. The records the blocks own, block by block, each split into what lies in the retained domain (R53) and
what is set afresh at every start, and the start values the spec gives them. -/

namespace Sys2Proof.Machine

/-! ## Acquisition unit and tracking filter bank -/

/-- The three filter modes (R23). -/
inductive FilterMode where
  | stepped | twoLevel | fixed
  deriving DecidableEq, Repr, Inhabited

/-- The configuration record of a channel, its filter fields included (R2, R23). Retained. -/
structure ChanCfg where
  enabled : Bool
  gain : Nat
  offset : Int
  corrLimit : Nat
  du : Nat
  mode : FilterMode
  fast : Nat
  slow : Nat
  hold : Bool
  deriving DecidableEq, Repr, Inhabited

/-- The state and cause held when CHECKING began (R4). -/
inductive SavedState where
  | ok | suspect | fault (cause : FaultCause)
  deriving DecidableEq, Repr, Inhabited

/-- The two calibration operations (R14). -/
inductive CalOp where
  | zero | span
  deriving DecidableEq, Repr, Inhabited

/-- The result of a channel's last calibration (R19). -/
inductive CalResult where
  | none | running | applied | clamped | failed | aborted
  deriving DecidableEq, Repr, Inhabited

/-- The calibration record of a channel (R19). -/
structure CalRecord where
  op : Option CalOp
  result : CalResult
  prev : Option Int
  new : Option Int
  deriving DecidableEq, Repr, Inhabited

/-- The channel state record (R4, less the retained check-fault flag) with the calibration record (R19). -/
structure ChanRec where
  state : ChanState
  railCount : Nat
  goodRun : Nat
  saved : Option SavedState
  lastRaw : Option Nat
  lastCorrected : Option Nat
  cal : CalRecord
  deriving DecidableEq, Repr, Inhabited

/-- The calibration context while it runs (R14, R15); an idle context is `none`. -/
structure CalContext where
  chan : Chan
  op : CalOp
  ref : Nat
  count : Nat
  sum : Nat
  deriving DecidableEq, Repr, Inhabited

/-- The acquisition unit's state outside the retained domain (R4, R10, R14). -/
structure Acquisition where
  chans : PerChan ChanRec
  cal : Option CalContext
  faulted : PerGallery Nat
  deriving DecidableEq, Repr, Inhabited

/-- The tracker record (R22). `x` is the tracked value in sixteenths of a code. -/
structure Tracker where
  tracking : Bool
  x : Nat
  shift : Nat
  settling : Bool
  readout : Option Int
  chanState : ChanState
  deriving DecidableEq, Repr, Inhabited

/-! ## Time base -/

/-- The kind of the most recent start (R37). -/
inductive LastStart where
  | cold | warmPower | warmReset
  deriving DecidableEq, Repr, Inhabited

/-- The clock record (R37). Retained. -/
structure Clock where
  day : Nat
  weekday : Nat
  minute : Nat
  second : Nat
  isSet : Bool
  dateReceived : Bool
  timeReceived : Bool
  lastMarkDay : Nat
  lastMarkHour : Nat
  lastStart : LastStart
  deriving DecidableEq, Repr, Inhabited

/-! ## Envelope table -/

/-- What the envelope table retains of a gallery (R55). -/
structure EnvRetained where
  active : Envelope
  loanLock : Bool
  deriving DecidableEq, Repr, Inhabited

/-- What it does not retain (R55). -/
structure EnvStaged where
  staged : Envelope
  commitPending : Bool
  deriving DecidableEq, Repr, Inhabited

/-! ## Light account unit -/

/-- The hour schedule: OSTART, OEND and WEEKDAYS in force for the hour in progress (R72). -/
structure Schedule where
  ostart : Nat
  oend : Nat
  weekdays : Nat
  deriving DecidableEq, Repr, Inhabited

/-- The account record of a gallery (R72) and the two retained excursion flags of R94. `period` is `none` in NO_PERIOD
and `some d` in RUNNING with day index `d`. Retained. -/
structure Account where
  period : Option Nat
  used : Nat
  carry : Nat
  hourAcc : Nat
  exhausted : Bool
  lastUsed : Option Nat
  stamp : HourStamp
  schedule : Schedule
  lSub : Bool
  darkened : Bool
  begunByChange : Bool
  uvHigh : Bool
  doseShort : Bool
  luxOver : Bool
  deriving DecidableEq, Repr, Inhabited

/-- The pace: which line of R96 decided the allowance. -/
inductive Pace where
  | darkened | exhausted | closed | unbudgeted | suspended | ample | onPace | short
  deriving DecidableEq, Repr, Inhabited

/-- What the light account unit keeps of a gallery outside the retained domain: start pending (R72), the kept copies
(R73) and the allowance fields (R94). -/
structure LightRec where
  startPending : Bool
  lCode : Option Nat
  lState : ChanState
  uCode : Option Nat
  uState : ChanState
  uDu : Nat
  dark : Bool
  env : Envelope
  allowance : Nat
  pace : Pace
  hrem : Option Nat
  quot : Option Nat
  declared : Option Nat
  overCount : Nat
  deriving DecidableEq, Repr, Inhabited

/-! ## Climate unit -/

/-- A band with its collapsed flag (R109). -/
structure Band where
  low : Nat
  high : Nat
  collapsed : Bool
  deriving DecidableEq, Repr, Inhabited

/-- The kept copy of an H or T channel (R110). -/
structure ChanCopy where
  code : Option Nat
  state : ChanState
  du : Nat
  deriving DecidableEq, Repr, Inhabited

/-- The four extremes of the aggregate copy (R110). -/
structure Extremes where
  rhMin : Option Nat
  rhMax : Option Nat
  tMin : Option Nat
  tMax : Option Nat
  deriving DecidableEq, Repr, Inhabited

/-- The climate record of a gallery (R109) with the kept copies of R110. -/
structure ClimateRec where
  rh : Band
  t : Band
  rhSpan : Option Nat
  tSpan : Option Nat
  rhSet : Option Nat
  tSet : Option Nat
  rhHigh : Bool
  rhLow : Bool
  rhSwing : Bool
  tHigh : Bool
  tLow : Bool
  tSwing : Bool
  h : ChanCopy
  tc : ChanCopy
  agg : Extremes
  env : Envelope
  deriving DecidableEq, Repr, Inhabited

/-! ## History store -/

/-- An hourly record (R125). -/
structure HourRecord where
  day : Nat
  hour : Nat
  flags : HourFlags
  hIncomplete : Bool
  tIncomplete : Bool
  dose : Nat
  peakL : Option Nat
  uvMax : Option Nat
  rhMin : Option Nat
  rhMax : Option Nat
  tMin : Option Nat
  tMax : Option Nat
  deriving DecidableEq, Repr, Inhabited

/-- What the store keeps of a ring (R130). -/
structure Ring where
  base : Nat
  length : Nat
  count : Nat
  newest : Option Nat
  unread : Nat
  overrun : Bool
  deriving DecidableEq, Repr, Inhabited

/-- The history store's retained state (R53, R130, R134): the 512 slots, the six rings and the pending partition. -/
structure History where
  slots : Vector (Option HourRecord) 512
  rings : PerGallery Ring
  pendingPartition : Option (PerGallery Nat)
  deriving DecidableEq, Repr

/-- The running aggregates of a gallery and the kept copies of its H and T channels (R126). -/
structure Aggregates where
  peakL : Option Nat
  uvMax : Option Nat
  rhMin : Option Nat
  rhMax : Option Nat
  tMin : Option Nat
  tMax : Option Nat
  hIncomplete : Bool
  tIncomplete : Bool
  hState : ChanState
  hCode : Option Nat
  tState : ChanState
  tCode : Option Nat
  deriving DecidableEq, Repr, Inhabited

/-! ## Excursion log -/

/-- An excursion entry (R138); it is OPEN while `closed` is absent. -/
structure Entry where
  id : Nat
  g : Gallery
  type : ExcType
  acked : Bool
  opened : SecondStamp
  closed : Option SecondStamp
  limit : Nat
  extreme : Nat
  deriving DecidableEq, Repr, Inhabited

/-- What the log retains (R53): the pool oldest first, the next id and the overflow flag. -/
structure LogRetained where
  pool : List Entry
  nextId : Nat
  overflow : Bool
  deriving DecidableEq, Repr, Inhabited

/-- What the log keeps outside the retained domain (R138). -/
structure LogRec where
  active : PerGallery (PerType Bool)
  sinceSelection : Bool
  deriving DecidableEq, Repr, Inhabited

/-! ## Darkening controller -/

/-- The darkening states (R152). -/
inductive DarkState where
  | idle | armed | darkening | dark
  deriving DecidableEq, Repr, Inhabited

/-- The seven sources of darkening, in the order of their bits (R152, R192). -/
inductive Source where
  | hardLux | inputA | inputB | lightReq | conservationReq | exhaust | lightSilence
  deriving DecidableEq, Repr, Inhabited

/-- A set of sources. -/
structure SourceSet where
  hardLux : Bool
  inputA : Bool
  inputB : Bool
  lightReq : Bool
  conservationReq : Bool
  exhaust : Bool
  lightSilence : Bool
  deriving DecidableEq, Repr, Inhabited

/-- How a darkening ended or stands (R153). -/
inductive DarkOutcome where
  | none | inProgress | reached | unverified | notReached | cancelled
  deriving DecidableEq, Repr, Inhabited

/-- The release that emptied a source set (R153). -/
inductive EndCause where
  | lightingRelease | conservationRelease | inputAFall | inputBFall | exhaustionCleared | lightingPresent
  deriving DecidableEq, Repr, Inhabited

/-- The outcome record (R153). -/
structure OutcomeRec where
  start : Option SecondStamp
  firstSource : Option Source
  joined : SourceSet
  delayApplied : Option Nat
  secondsToDark : Option Nat
  outcome : DarkOutcome
  heldMinutes : Nat
  endCause : Option EndCause
  deriving DecidableEq, Repr, Inhabited

/-- The darkening record of a gallery less its retained source set, with the kept copies (R152). `armedWith` is the delay
the gallery was armed with, which R155 names. -/
structure DarkRec where
  state : DarkState
  delayLeft : Option Nat
  armedWith : Nat
  timeToDark : Nat
  heldSub : Nat
  hardLux : Nat
  luxHardOpen : Bool
  outcome : OutcomeRec
  lCode : Option Nat
  lState : ChanState
  env : Envelope
  deriving DecidableEq, Repr, Inhabited

/-- The configuration of a trigger input (R165). Retained. -/
structure TriggerCfg where
  mask : BitVec 6
  disabled : Bool
  autoRelease : Bool
  deriving DecidableEq, Repr, Inhabited

/-! ## Self-check sequencer -/

/-- A channel verdict or a step verdict (R170). -/
inductive Verdict where
  | none | pass | warn | failOpen | failShort | failReference | failResponse | skipped | notRun
  deriving DecidableEq, Repr, Inhabited

/-- The summary of a gallery's check (R170). -/
inductive Summary where
  | none | queued | running | passed | warned | failed | abortedDarkening | cancelled
  deriving DecidableEq, Repr, Inhabited

/-- The check result of a gallery (R170). -/
structure CheckResult where
  summary : Summary
  chans : PerKind Verdict
  steps : PerKind (PerStep Verdict)
  deriving DecidableEq, Repr, Inhabited

/-- The phase of the current step (R170). -/
inductive StepPhase where
  | dwell (left : Nat) | awaiting
  deriving DecidableEq, Repr, Inhabited

/-- What the sequencer holds in RUNNING (R170); an IDLE sequencer holds `none`. -/
structure CheckRun where
  g : Gallery
  k : Kind
  step : CheckStep
  phase : StepPhase
  deriving DecidableEq, Repr, Inhabited

/-- The sequencer's state outside the retained domain (R170). `condition` is the channel and step whose condition the
front end applies (R173). -/
structure Sequencer where
  run : Option CheckRun
  queue : List Gallery
  dark : PerGallery Bool
  results : PerGallery CheckResult
  condition : Option (Chan × CheckStep)
  deriving DecidableEq, Repr, Inhabited

/-- The setup of the check (R170, R178): the step enables and the dwell index. Retained. -/
structure CheckSetup where
  enables : PerStep Bool
  dwellIdx : Nat
  deriving DecidableEq, Repr, Inhabited

/-! ## Port controllers -/

/-- The three attention levels (R187). -/
inductive Level where
  | low | mid | high
  deriving DecidableEq, Repr, Inhabited

/-- A cause's enable and level on a port (R187). -/
structure CauseCfg where
  enabled : Bool
  level : Level
  deriving DecidableEq, Repr, Inhabited

/-- The line modes (R187). -/
inductive LineMode where
  | level | pulse
  deriving DecidableEq, Repr, Inhabited

/-- An entry of a pending set: a cause with a gallery, or with none for a part-wide cause (R187). -/
structure Attention where
  cause : Cause
  g : Option Gallery
  deriving DecidableEq, Repr, Inhabited

/-- A snapshot: the item kind and the fields FETCH returns (R183, R192). -/
structure Snapshot where
  kind : Nat
  fields : List Half
  deriving DecidableEq, Repr, Inhabited

/-- A port controller's state outside the retained domain (R180 to R190). `line` is the attention line as LEVEL mode
drives it, and `pulses` counts the pulses given on it (log entry 7). -/
structure PortRec where
  reply : Reply
  selection : Option Snapshot
  presence : Presence
  silence : Nat
  causes : PerCause CauseCfg
  pending : List Attention
  mode : LineMode
  masterEnable : Bool
  line : Bool
  pulses : Nat
  deriving DecidableEq, Repr, Inhabited

/-- A frame in progress (R180): the pending reply that stood when it began, and whether it will be discarded because no
start had completed then or because a reset fell within it. -/
structure Frame where
  reply : Reply
  discard : Bool
  deriving DecidableEq, Repr, Inhabited

/-- A port's serial lines: the frame in progress while select is asserted, the bits shifted out on data out in the last
frame that was not discarded, absent when the line was left undriven, and how many frames of more than 48 clocks there have
been, which is the model's own (R180; log entry 12). -/
structure PortLines where
  frame : Option Frame
  dataOut : Option (List Bool)
  overruns : Nat
  deriving DecidableEq, Repr, Inhabited

/-! ## The retained domain -/

/-- What the retained domain holds, owner by owner (R53), less the latch and the check code that judge it (R49). -/
structure Retained where
  clock : Clock
  cfg : PerChan ChanCfg
  checkFault : PerChan Bool
  env : PerGallery EnvRetained
  accounts : PerGallery Account
  history : History
  log : LogRetained
  sources : PerGallery SourceSet
  triggers : PerTrigger TriggerCfg
  setup : CheckSetup
  timeouts : PerPort Nat
  deriving DecidableEq, Repr

/-! ## Start values -/

/-- The deviation unit's default by kind (R2). -/
def defaultDu : Kind → Nat
  | .lux => 50
  | .uv => 100
  | .rh => 50
  | .temp => 20

/-- The fast limit's default by kind (R23). -/
def defaultFast : Kind → Nat
  | .lux => 0
  | .uv => 1
  | .rh => 1
  | .temp => 2

/-- The slow limit's default by kind (R23). -/
def defaultSlow : Kind → Nat
  | .lux => 4
  | .uv => 5
  | .rh => 6
  | .temp => 6

/-- The default configuration of a channel (R2, R23). -/
def ChanCfg.default (k : Kind) : ChanCfg where
  enabled := true
  gain := 1024
  offset := 0
  corrLimit := 0
  du := defaultDu k
  mode := .stepped
  fast := defaultFast k
  slow := defaultSlow k
  hold := false

/-- The calibration record of both starts (R20, R21). -/
def CalRecord.start : CalRecord := ⟨none, .none, none, none⟩

/-- The channel state record a start gives a channel of state `st` (R20, R21). -/
def ChanRec.start (st : ChanState) : ChanRec := ⟨st, 0, 0, none, none, none, .start⟩

/-- The tracker record a start gives a channel of state `st` (R36). -/
def Tracker.start (st : ChanState) : Tracker := ⟨false, 0, 0, false, none, st⟩

/-- The default envelope (R56). -/
def defaultEnvelope : Envelope where
  lmax := 150
  lmin := 50
  lclosed := 0
  lhard := 400
  ldark := 5
  uref := 7500
  budget := 1500
  period := 365
  hset := 5000
  hband := 500
  hswing := 800
  tmin := 5800
  tmax := 6400
  tswing := 400
  ostart := 10
  oend := 18
  weekdays := 127
  delay := 2
  policy := 0

/-- The schedule an envelope gives (R72, R79). -/
def scheduleOf (e : Envelope) : Schedule := ⟨e.ostart, e.oend, e.weekdays⟩

/-- The clock record of a cold start (R54). -/
def Clock.cold : Clock where
  day := 0
  weekday := 0
  minute := 0
  second := 0
  isSet := false
  dateReceived := false
  timeReceived := false
  lastMarkDay := 0
  lastMarkHour := 0
  lastStart := .cold

/-- The account record of a cold start (R90), with the flags of R100. -/
def Account.cold : Account where
  period := none
  used := 0
  carry := 0
  hourAcc := 0
  exhausted := false
  lastUsed := none
  stamp := ⟨0, 0, 0⟩
  schedule := ⟨10, 18, 127⟩
  lSub := false
  darkened := false
  begunByChange := false
  uvHigh := false
  doseShort := false
  luxOver := false

/-- The default partition: 72 for every ring (R136). -/
def defaultLengths : PerGallery Nat := .all 72

/-- The base of ring `g` under the lengths `ls`: the sum of the lengths before it (R130). -/
def ringBase (ls : PerGallery Nat) : Gallery → Nat
  | .g0 => 0
  | .g1 => ls.g0
  | .g2 => ls.g0 + ls.g1
  | .g3 => ls.g0 + ls.g1 + ls.g2
  | .g4 => ls.g0 + ls.g1 + ls.g2 + ls.g3
  | .g5 => ls.g0 + ls.g1 + ls.g2 + ls.g3 + ls.g4

/-- The sum of six lengths. -/
def sumLengths (ls : PerGallery Nat) : Nat := ls.g0 + ls.g1 + ls.g2 + ls.g3 + ls.g4 + ls.g5

/-- An empty ring (R135, R136). -/
def Ring.empty (base length : Nat) : Ring := ⟨base, length, 0, none, 0, false⟩

/-- The history store's retained state at a cold start (R136). -/
def History.cold : History where
  slots := Vector.replicate 512 none
  rings := .ofFn fun g => .empty (ringBase defaultLengths g) (defaultLengths.get g)
  pendingPartition := none

/-- The empty set of sources. -/
def SourceSet.empty : SourceSet := ⟨false, false, false, false, false, false, false⟩

/-- The retained domain as a cold start writes it: R54, R20, R36, R71, R90, R136, R150, R167, R179 and R191. -/
def Retained.cold : Retained where
  clock := .cold
  cfg := .all (.ofFn ChanCfg.default)
  checkFault := .all (.all false)
  env := .all ⟨defaultEnvelope, false⟩
  accounts := .all .cold
  history := .cold
  log := ⟨[], 0, false⟩
  sources := .all .empty
  triggers := .all ⟨0, false, false⟩
  setup := ⟨.all true, 1⟩
  timeouts := .all 2

/-! ## Start values outside the retained domain -/

/-- The default level of a cause (R187). -/
def defaultLevel : Cause → Level
  | .partRestarted => .high
  | .darkeningStarted => .high
  | .darkeningOutcome => .mid
  | .channelFault => .high
  | .masterPresence => .mid
  | .allowanceChanged => .mid
  | .bandChanged => .mid
  | .envelopeCommitted => .mid
  | .excursionOpened => .mid
  | .excursionClosed => .low
  | .checkDone => .low
  | .calibrationDone => .low
  | .hourMark => .low
  | .historyOverrun => .mid
  | .excursionOverflow => .high

/-- The reply a port starts with: NONE with code, data and tag 0 (R191). -/
def replyStart : Reply := ⟨.none, 0, 0, 0⟩

/-- The port controller's state at both starts (R191). -/
def PortRec.start : PortRec where
  reply := replyStart
  selection := none
  presence := .unknown
  silence := 0
  causes := .ofFn fun c => ⟨true, defaultLevel c⟩
  pending := [⟨.partRestarted, none⟩]
  mode := .level
  masterEnable := true
  line := true
  pulses := 0

/-- The sequencer's state at both starts (R179). -/
def Sequencer.start : Sequencer where
  run := none
  queue := []
  dark := .all false
  results := .all ⟨.none, .all .none, .all (.all .none)⟩
  condition := none

/-- The outcome record of a start (R167). -/
def outcomeStart : OutcomeRec := ⟨none, none, .empty, none, none, .none, 0, none⟩

/-- The darkening record of an IDLE gallery after a start, with its L channel in state `st`, envelope `e`, and LUX_HARD
open as given (R167, R168). -/
def DarkRec.start (st : ChanState) (e : Envelope) (luxHard : Bool) : DarkRec where
  state := .idle
  delayLeft := none
  armedWith := 0
  timeToDark := 0
  heldSub := 0
  hardLux := 0
  luxHardOpen := luxHard
  outcome := outcomeStart
  lCode := none
  lState := st
  env := e

/-- The running aggregates a start gives a gallery whose H and T channels are in the states given (R136, R137). -/
def Aggregates.start (h t : ChanState) : Aggregates where
  peakL := none
  uvMax := none
  rhMin := none
  rhMax := none
  tMin := none
  tMax := none
  hIncomplete := true
  tIncomplete := true
  hState := h
  hCode := none
  tState := t
  tCode := none

/-- The light account unit's record of a gallery after a cold start: the copies of R73 and the allowance of R100. -/
def LightRec.cold : LightRec where
  startPending := false
  lCode := none
  lState := .ok
  uCode := none
  uState := .ok
  uDu := defaultDu .uv
  dark := false
  env := defaultEnvelope
  allowance := 0
  pace := .closed
  hrem := none
  quot := none
  declared := none
  overCount := 0

/-- The climate record of a gallery after a cold start (R123). -/
def ClimateRec.cold : ClimateRec where
  rh := ⟨4500, 5500, false⟩
  t := ⟨5800, 6400, false⟩
  rhSpan := none
  tSpan := none
  rhSet := none
  tSet := none
  rhHigh := false
  rhLow := false
  rhSwing := false
  tHigh := false
  tLow := false
  tSwing := false
  h := ⟨none, .ok, defaultDu .rh⟩
  tc := ⟨none, .ok, defaultDu .temp⟩
  agg := ⟨none, none, none, none⟩
  env := defaultEnvelope

end Sys2Proof.Machine
end

