-- ==== Sys2Proof/Config.lean ====
section
/-! DEFINITION. What the spec leaves open, as constants without a body: nothing can evaluate them, and a claim about the
machine holds whatever they are. -/

namespace Sys2Proof

/-- The check code over the retained contents (R49). The spec gives it neither a width nor an algorithm; it is used only
where a rule compares the code kept with the code of the contents (log entry 3). -/
opaque Config.checkCodeOf : Machine.Retained → Nat

/-- What an excursion entry holds as its extreme for a value `v` above 65535, which only a DOSE_EXHAUSTED notice carries.
R87 gives the notice *V* in full and R138 gives the extreme the range 0 to 65535; no rule says what becomes of the value
there (log entry 4). -/
opaque Config.overrangeExtreme : Nat → Half

/-- The bit a port drives at the `n`th clock after the 48th of its `k`th frame of more than 48 clocks. R180 has the panel
drive data out to the end of the frame and gives the reply 48 bits (log entry 12). -/
opaque Config.dataOutBeyond : Port → (k n : Nat) → Bool

/-- The level of a port's attention line while the part is held in reset or unpowered, of which the spec says nothing
(log entry 5). -/
opaque Config.heldAttentionLine : Port → Bool

end Sys2Proof
end

