-- ==== Sys2Proof/Machine/State.lean ====
section
/-! DEFINITION. The state of the part as plain data, the reasons a command could stop with, and the state after reset. -/

namespace Sys2Proof.Machine

/-- Whether the part runs: VDD absent (R49, R50), RESETN asserted with VDD present (R51), or running, a start in progress
included. -/
inductive Phase where
  | unpowered | heldReset | running
  deriving DecidableEq, Repr, Inhabited

/-- The state of the part. -/
structure State where
  /-- Supply and reset (R50, R51). -/
  phase : Phase
  /-- The blocks whose start notice of the present start is still to be taken (R52). -/
  awaiting : List Block
  /-- The retained domain (R53). -/
  ret : Retained
  /-- The supply-loss latch (R49). -/
  latch : Bool
  /-- The check code kept with the retained contents (R49). -/
  checkCode : Nat
  /-- Acquisition unit (R4, R10, R14, R19). -/
  acq : Acquisition
  /-- Tracking filter bank (R22). -/
  trackers : PerChan Tracker
  /-- Envelope table: staged envelopes and pending commits (R55). -/
  env : PerGallery EnvStaged
  /-- Light account unit (R72, R73, R94). -/
  light : PerGallery LightRec
  /-- Climate unit (R109, R110). -/
  climate : PerGallery ClimateRec
  /-- History store: running aggregates (R126). -/
  agg : PerGallery Aggregates
  /-- Excursion log: active-type sets and the overflow-since-selection marker (R138). -/
  log : LogRec
  /-- Darkening controller (R152). -/
  dark : PerGallery DarkRec
  /-- Self-check sequencer (R170). -/
  seq : Sequencer
  /-- Port controllers (R180 to R190). -/
  ports : PerPort PortRec
  /-- The serial lines of the ports (R180). -/
  lines : PerPort PortLines
  /-- The SHADE outputs (R159). -/
  shade : PerGallery Bool
  /-- The filtered levels of TRIGA and TRIGB (R165). -/
  trigger : PerTrigger Bool
  /-- The panel address straps, PADR1 in bit 1 (R180). -/
  straps : BitVec 2
  /-- The notices and requests sent and not yet taken, oldest first (log entry 1). -/
  inFlight : List Instr
  /-- The notices and requests that have reached a block whose start notice is still to come, in the order they arrived
  (R137, R151, R168). -/
  waiting : List Instr
  /-- The commands that are waiting, first in, first out. -/
  pending : List Instr
  deriving DecidableEq, Repr

/-- The faults: none. No rule of the spec stops the part, so no meaning raises one (safe: nothing is cut short). -/
inductive Fault where
  deriving DecidableEq, Repr

/-- The refusals. -/
inductive Refusal where
  /-- Raised by `exec` for a command that has no meaning yet, by its mnemonic (safe: the machine stops). No arm raises it
  now. -/
  | notModelled (mnemonic : String)
  deriving DecidableEq, Repr

/-- What a step answers. -/
abbrev Answer := Host.Outcome State Fault Refusal

/-- The part right after a cold start: every block has taken its start notice and every notice the start sent has been
taken (R54, R20, R36, R71, R90, R100, R123, R136, R150, R167, R179, R191). The straps, the trigger levels and the data-out
lines have no reset value in the spec (log entry 6). -/
def State.reset : State where
  phase := .running
  awaiting := []
  ret := .cold
  latch := false
  checkCode := Config.checkCodeOf .cold
  acq := ⟨.all (.all (.start .ok)), none, .all 0⟩
  trackers := .all (.all (.start .ok))
  env := .all ⟨defaultEnvelope, false⟩
  light := .all .cold
  climate := .all .cold
  agg := .all (.start .ok .ok)
  log := ⟨.all (.all false), false⟩
  dark := .all (.start .ok defaultEnvelope false)
  seq := .start
  ports := .all .start
  lines := .all ⟨none, none, 0⟩
  shade := .all false
  trigger := .all false
  straps := 0
  inFlight := []
  waiting := []
  pending := []

end Sys2Proof.Machine
end

