-- ==== Sys2Proof/Machine/Operands.lean ====
section
/-! DEFINITION. The operands of commands: gallery and kind numbers, the gallery field, sub-argument pieces, clamps, rail
codes, and the bits, bytes and CRC of a frame. -/

namespace Sys2Proof.Machine

/-- The galleries, 0 to 5 in turn. -/
def galleries : List Gallery := [.g0, .g1, .g2, .g3, .g4, .g5]

/-- The number of a gallery. -/
def galleryNum : Gallery → Nat
  | .g0 => 0
  | .g1 => 1
  | .g2 => 2
  | .g3 => 3
  | .g4 => 4
  | .g5 => 5

/-- The gallery a number names, 6 and above naming none. -/
def galleryOf : Nat → Option Gallery
  | 0 => some .g0
  | 1 => some .g1
  | 2 => some .g2
  | 3 => some .g3
  | 4 => some .g4
  | 5 => some .g5
  | _ => none

/-- The kinds in the order L, U, H, T. -/
def kinds : List Kind := [.lux, .uv, .rh, .temp]

/-- The number *k* of a kind. -/
def kindNum : Kind → Nat
  | .lux => 0
  | .uv => 1
  | .rh => 2
  | .temp => 3

/-- The kind a two-bit number names. -/
def kindOf (n : Nat) : Kind :=
  match n with
  | 0 => .lux
  | 1 => .uv
  | 2 => .rh
  | _ => .temp

/-- The ceiling of a kind's corrected and tracked codes (Introduction, Conventions). -/
def ceiling : Kind → Nat
  | .lux => 65535
  | .uv => 65535
  | .rh => 10000
  | .temp => 12000

/-- What the gallery field of a request names: one gallery, all galleries (7), or neither (6). -/
inductive GallerySel where
  | one (g : Gallery) | all | bad
  deriving DecidableEq, Repr

/-- The reading of a gallery field (Introduction, Conventions). -/
def gallerySel (b : BitVec 3) : GallerySel :=
  match galleryOf b.toNat with
  | some g => .one g
  | none => if b.toNat = 7 then .all else .bad

/-- A value clamped to `lo` … `hi`. -/
def clampNat (lo hi v : Nat) : Nat := max lo (min hi v)

/-- A signed value clamped to `lo` … `hi`. -/
def clampInt (lo hi v : Int) : Int := max lo (min hi v)

/-- A rail code: below 64 or above 65471 (R1). -/
def isRail (r : Nat) : Bool := r < 64 || 65471 < r

/-- The kind in bits 4 and 3 of the sub-argument of WRITE CHANNEL and CALIBRATE (R192). -/
def subKind (q : Req) : Kind := kindOf (q.sub.toNat / 8)

/-- The number the bits of a list spell, first bit most significant (R180). -/
def bitsToNat (l : List Bool) : Nat := l.foldl (fun a b => 2 * a + b.toNat) 0

/-- Byte `k` of the bits received in a frame, 0 when it did not arrive whole (R180, R181; log entry 12). -/
def frameByte (bits : List Bool) (k : Nat) : Byte :=
  if 8 * k + 8 ≤ bits.length then BitVec.ofNat 8 (bitsToNat ((bits.drop (8 * k)).take 8)) else 0

/-- The eight bits of a byte, most significant first (R180). -/
def byteBits (b : Byte) : List Bool :=
  [b.getLsbD 7, b.getLsbD 6, b.getLsbD 5, b.getLsbD 4, b.getLsbD 3, b.getLsbD 2, b.getLsbD 1, b.getLsbD 0]

/-- One bit of the CRC-8 with polynomial x⁸ + x² + x + 1 (R181). -/
def crcBit (c : Byte) (b : Bool) : Byte :=
  if xor (c.getLsbD 7) b then (c <<< 1) ^^^ 7 else c <<< 1

/-- The CRC-8 of a run of bytes, from FFh, most significant bit first, with no final inversion (R181). -/
def crc8 (bytes : List Byte) : Byte := (bytes.flatMap byteBits).foldl crcBit 255

/-- The six bytes of a reply frame. Bits 7 and 6 of byte 0 are undriven and read 1 (R180, R192); the CRC is taken over the
byte as it reads (log entry 12). -/
def replyBytes (resultCode : Nat) (r : Reply) : List Byte :=
  let b0 : Byte := BitVec.ofNat 8 (192 + resultCode)
  let b1 : Byte := r.code.zeroExtend 8
  let b2 : Byte := BitVec.ofNat 8 (r.data.toNat / 256)
  let b3 : Byte := BitVec.ofNat 8 r.data.toNat
  [b0, b1, b2, b3, r.tag, crc8 [b0, b1, b2, b3, r.tag]]

/-- The request a valid frame carries (R192). -/
def frameReq (p : Port) (bits : List Bool) : Req :=
  let b1 := frameByte bits 1
  ⟨p, BitVec.ofNat 3 (b1.toNat / 32), BitVec.ofNat 5 b1.toNat,
    BitVec.ofNat 16 ((frameByte bits 2).toNat * 256 + (frameByte bits 3).toNat), frameByte bits 4⟩

/-- The second-of-day of a clock (R37). -/
def secondOfDay (c : Clock) : Nat := c.minute * 60 + c.second

/-- The hour of the day of a clock (R37). -/
def hourOf (c : Clock) : Nat := c.minute / 60

/-- The stamp of day number and second-of-day a clock shows (R47). -/
def secondStamp (c : Clock) : SecondStamp := ⟨c.day, secondOfDay c⟩

/-- The stamp of day number, weekday and hour a clock shows (R39). -/
def hourStamp (c : Clock) : HourStamp := ⟨c.day, c.weekday, hourOf c⟩

end Sys2Proof.Machine
end

