-- ==== Sys2Proof/Machine/Flags.lean ====
section
/-! DEFINITION. The codes of R192: the number each enumerated quantity, set and flag word reads as in frames and FETCH
values, and the request codes with the ports that take them. -/

namespace Sys2Proof.Machine

/-- What an absent field reads as (R192). -/
def absentHalf : Half := 0xFFFF

/-- A whole number as a 16-bit value. -/
def half (n : Nat) : Half := BitVec.ofNat 16 n

/-- An optional number, FFFFh when absent. -/
def halfOpt : Option Nat → Half
  | some n => half n
  | none => absentHalf

/-- A signed number in 16-bit two's complement. -/
def halfInt (i : Int) : Half := BitVec.ofInt 16 i

/-- An optional signed number, FFFFh when absent. -/
def halfIntOpt : Option Int → Half
  | some i => halfInt i
  | none => absentHalf

/-- A flag as 0 or 1. -/
def halfBool (b : Bool) : Half := half b.toNat

/-- The number whose bit *i* is the *i*-th flag of a list. -/
def bitsLow : List Bool → Nat
  | [] => 0
  | b :: bs => b.toNat + 2 * bitsLow bs

/-- The set of the galleries for which a flag holds, bit *g* for gallery *g*. -/
def galleryMask (t : PerGallery Bool) : Nat := bitsLow [t.g0, t.g1, t.g2, t.g3, t.g4, t.g5]

/-- The codes of the results (R192). -/
def resultCode : Result → Nat
  | .none => 0
  | .ok => 1
  | .clamped => 2
  | .accepted => 3
  | .duplicate => 4
  | .frameError => 5
  | .panelMismatch => 6
  | .unknownRequest => 7
  | .notPermitted => 8
  | .busy => 9
  | .locked => 10
  | .pending => 11
  | .inconsistent => 12
  | .notFound => 13
  | .noSelection => 14
  | .range => 15

/-- Channel state codes (R192). -/
def chanStateCode : ChanState → Nat
  | .ok => 0
  | .suspect => 1
  | .fault _ => 2
  | .checking => 3
  | .disabled => 4

/-- Fault cause codes: 1 RAIL, 2 CHECK (R192). -/
def causeCode : FaultCause → Nat
  | .rail => 1
  | .check => 2

/-- The cause of a channel state, 0 when it is not FAULT (R192). -/
def chanCauseCode : ChanState → Nat
  | .fault c => causeCode c
  | _ => 0

/-- The saved state field: the state's code with its cause in bits 7 to 4, FFFFh when absent (R192). -/
def savedHalf : Option SavedState → Half
  | none => absentHalf
  | some .ok => 0
  | some .suspect => 1
  | some (.fault c) => half (2 + 16 * causeCode c)

/-- Filter mode codes (R34, R192). -/
def modeCode : FilterMode → Nat
  | .stepped => 0
  | .twoLevel => 1
  | .fixed => 2

/-- The filter mode a code of 0 to 2 names (R34). -/
def modeOf : Nat → FilterMode
  | 0 => .stepped
  | 1 => .twoLevel
  | _ => .fixed

/-- Calibration result codes (R192). -/
def calResultCode : CalResult → Nat
  | .none => 0
  | .running => 1
  | .applied => 2
  | .clamped => 3
  | .failed => 4
  | .aborted => 5

/-- Calibration operation codes (R192). -/
def calOpCode : CalOp → Nat
  | .zero => 0
  | .span => 1

/-- Pace codes (R192). -/
def paceCode : Pace → Nat
  | .darkened => 0
  | .exhausted => 1
  | .closed => 2
  | .unbudgeted => 3
  | .suspended => 4
  | .ample => 5
  | .onPace => 6
  | .short => 7

/-- History flags: bits 0 to 7 (R192). -/
def historyFlags (r : HourRecord) : Nat :=
  bitsLow [r.flags.openHour, r.flags.darkened, r.flags.lSubstituted, r.hIncomplete, r.tIncomplete,
    r.flags.clockChanged, r.flags.powerGap, r.flags.noPeriod]

/-- Excursion type numbers (R140). -/
def excNum : ExcType → Nat
  | .luxOver => 0
  | .luxHard => 1
  | .uvHigh => 2
  | .doseShort => 3
  | .doseExhausted => 4
  | .rhHigh => 5
  | .rhLow => 6
  | .rhSwing => 7
  | .tHigh => 8
  | .tLow => 9
  | .tSwing => 10
  | .sensorFault => 11

/-- Whether the log keeps the smallest value of a type as its extreme (R140). -/
def keepsSmallest : ExcType → Bool
  | .doseShort => true
  | .rhLow => true
  | .tLow => true
  | _ => false

/-- An active-type set as a number, bit *t* for type number *t* (R148). -/
def typeMask (t : PerType Bool) : Nat :=
  bitsLow [t.luxOver, t.luxHard, t.uvHigh, t.doseShort, t.doseExhausted, t.rhHigh, t.rhLow, t.rhSwing,
    t.tHigh, t.tLow, t.tSwing, t.sensorFault]

/-- Darkening state codes (R192). -/
def darkStateCode : DarkState → Nat
  | .idle => 0
  | .armed => 1
  | .darkening => 2
  | .dark => 3

/-- A source set as a number (R192). -/
def sourceMask (s : SourceSet) : Nat :=
  bitsLow [s.hardLux, s.inputA, s.inputB, s.lightReq, s.conservationReq, s.exhaust, s.lightSilence]

/-- A single source reads as its bit number (R192). -/
def sourceNum : Source → Nat
  | .hardLux => 0
  | .inputA => 1
  | .inputB => 2
  | .lightReq => 3
  | .conservationReq => 4
  | .exhaust => 5
  | .lightSilence => 6

/-- Outcome codes (R192). -/
def outcomeCode : DarkOutcome → Nat
  | .none => 0
  | .inProgress => 1
  | .reached => 2
  | .unverified => 3
  | .notReached => 4
  | .cancelled => 5

/-- End cause codes (R192). -/
def endCauseCode : EndCause → Nat
  | .lightingRelease => 0
  | .conservationRelease => 1
  | .inputAFall => 2
  | .inputBFall => 3
  | .exhaustionCleared => 4
  | .lightingPresent => 5

/-- Check summary codes (R192). -/
def summaryCode : Summary → Nat
  | .none => 0
  | .queued => 1
  | .running => 2
  | .passed => 3
  | .warned => 4
  | .failed => 5
  | .abortedDarkening => 6
  | .cancelled => 7

/-- Verdict codes (R192). -/
def verdictCode : Verdict → Nat
  | .none => 0
  | .pass => 1
  | .warn => 2
  | .failOpen => 3
  | .failShort => 4
  | .failReference => 5
  | .failResponse => 6
  | .skipped => 7
  | .notRun => 8

/-- Step codes (R192). -/
def stepCode : CheckStep → Nat
  | .openInput => 0
  | .shortInput => 1
  | .reference => 2
  | .response => 3

/-- Presence codes (R192). -/
def presenceCode : Presence → Nat
  | .unknown => 0
  | .present => 1
  | .absent => 2

/-- Last start codes (R192). -/
def lastStartCode : LastStart → Nat
  | .cold => 0
  | .warmPower => 1
  | .warmReset => 2

/-- Attention level codes (R190), in which a higher level has the higher code. -/
def levelCode : Level → Nat
  | .low => 0
  | .mid => 1
  | .high => 2

/-- Attention cause numbers (R187). -/
def causeNum : Cause → Nat
  | .partRestarted => 1
  | .darkeningStarted => 2
  | .darkeningOutcome => 3
  | .channelFault => 4
  | .masterPresence => 5
  | .allowanceChanged => 6
  | .bandChanged => 7
  | .envelopeCommitted => 8
  | .excursionOpened => 9
  | .excursionClosed => 10
  | .checkDone => 11
  | .calibrationDone => 12
  | .hourMark => 13
  | .historyOverrun => 14
  | .excursionOverflow => 15

/-- The cause a number names, 0 and above 15 naming none (R190). -/
def causeOf : Nat → Option Cause
  | 1 => some .partRestarted
  | 2 => some .darkeningStarted
  | 3 => some .darkeningOutcome
  | 4 => some .channelFault
  | 5 => some .masterPresence
  | 6 => some .allowanceChanged
  | 7 => some .bandChanged
  | 8 => some .envelopeCommitted
  | 9 => some .excursionOpened
  | 10 => some .excursionClosed
  | 11 => some .checkDone
  | 12 => some .calibrationDone
  | 13 => some .hourMark
  | 14 => some .historyOverrun
  | 15 => some .excursionOverflow
  | _ => none

/-- Whether a cause is routed to a port (R187). -/
def routed : Cause → Port → Bool
  | .partRestarted, _ => true
  | .darkeningStarted, _ => true
  | .darkeningOutcome, p => p != .climate
  | .channelFault, _ => true
  | .masterPresence, _ => true
  | .allowanceChanged, p => p != .climate
  | .bandChanged, p => p != .lighting
  | .envelopeCommitted, _ => true
  | .excursionOpened, p => p == .conservation
  | .excursionClosed, p => p == .conservation
  | .checkDone, p => p == .conservation
  | .calibrationDone, p => p == .conservation
  | .hourMark, _ => true
  | .historyOverrun, p => p == .conservation
  | .excursionOverflow, p => p == .conservation

/-- The check setup as the value of CHECK SETUP (R192). -/
def setupValue (c : CheckSetup) : Nat :=
  bitsLow [c.enables.openInput, c.enables.shortInput, c.enables.reference, c.enables.response] + 16 * c.dwellIdx

/-- A trigger configuration with the filtered level in bit 8, as the TRIGGER SETUP reply carries them (R166). -/
def triggerValue (c : TriggerCfg) (level : Bool) : Nat :=
  c.mask.toNat + 64 * c.disabled.toNat + 128 * c.autoRelease.toNat + 256 * level.toNat

/-- The seconds a dwell index selects (R178). -/
def dwellSeconds : Nat → Nat
  | 0 => 1
  | 1 => 2
  | 2 => 4
  | _ => 8

/-- The seconds a timeout index selects (R185). -/
def timeoutSeconds : Nat → Nat
  | 0 => 2
  | 1 => 10
  | 2 => 60
  | _ => 300

/-- The seconds the DELAY field selects (R154). -/
def delaySeconds : Nat → Nat
  | 0 => 0
  | 1 => 5
  | 2 => 15
  | 3 => 30
  | 4 => 60
  | 5 => 120
  | 6 => 300
  | _ => 600

/-- The ports that take a request code, or none when the code is absent from the request code table (R182, R192). -/
def requestPorts : Nat → Option (Port → Bool)
  | 0x00 => some fun _ => true
  | 0x01 => some fun _ => true
  | 0x02 => some fun _ => true
  | 0x03 => some fun _ => true
  | 0x04 => some fun _ => true
  | 0x05 => some fun _ => true
  | 0x08 => some (· == .lighting)
  | 0x09 => some (· == .lighting)
  | 0x0A => some (· != .climate)
  | 0x0B => some (· != .climate)
  | 0x0C => some (· == .climate)
  | 0x0D => some (· == .climate)
  | 0x10 => some (· == .conservation)
  | 0x11 => some (· == .conservation)
  | 0x12 => some (· == .conservation)
  | 0x13 => some (· == .conservation)
  | 0x14 => some (· == .conservation)
  | 0x15 => some (· == .conservation)
  | 0x16 => some (· == .conservation)
  | 0x17 => some (· == .conservation)
  | 0x18 => some (· == .conservation)
  | 0x19 => some (· == .conservation)
  | 0x1A => some (· == .conservation)
  | 0x1B => some (· == .conservation)
  | 0x1C => some (· == .conservation)
  | 0x1D => some (· == .conservation)
  | 0x1E => some (· == .conservation)
  | 0x1F => some (· == .conservation)
  | 0x20 => some (· == .conservation)
  | 0x21 => some (· == .conservation)
  | 0x22 => some (· == .conservation)
  | _ => none

end Sys2Proof.Machine
end

