-- ==== Sys2Proof/Machine/Ops.lean ====
section
/-! DEFINITION. The operations every block's rules are written over: reading and writing one record of one owner, sending
and taking notices, attention and replies, and the delivery of a command to its block. -/

namespace Sys2Proof.Machine

/-! ## One record of one owner -/

/-- The configuration record of a channel. -/
def State.cfg (s : State) (c : Chan) : ChanCfg := getChan s.ret.cfg c

/-- Writes the configuration record of a channel. -/
def State.setCfg (s : State) (c : Chan) (v : ChanCfg) : State :=
  { s with ret := { s.ret with cfg := setChan s.ret.cfg c v } }

/-- The check-fault flag of a channel. -/
def State.checkFault (s : State) (c : Chan) : Bool := getChan s.ret.checkFault c

/-- Writes the check-fault flag of a channel. -/
def State.setCheckFault (s : State) (c : Chan) (v : Bool) : State :=
  { s with ret := { s.ret with checkFault := setChan s.ret.checkFault c v } }

/-- The state record of a channel. -/
def State.chan (s : State) (c : Chan) : ChanRec := getChan s.acq.chans c

/-- Writes the state record of a channel. -/
def State.setChan (s : State) (c : Chan) (v : ChanRec) : State :=
  { s with acq := { s.acq with chans := Machine.setChan s.acq.chans c v } }

/-- Writes the calibration context. -/
def State.setCal (s : State) (v : Option CalContext) : State := { s with acq := { s.acq with cal := v } }

/-- Writes the faulted count of a gallery. -/
def State.setFaulted (s : State) (g : Gallery) (n : Nat) : State :=
  { s with acq := { s.acq with faulted := s.acq.faulted.set g n } }

/-- The tracker of a channel. -/
def State.tracker (s : State) (c : Chan) : Tracker := getChan s.trackers c

/-- Writes the tracker of a channel. -/
def State.setTracker (s : State) (c : Chan) (v : Tracker) : State :=
  { s with trackers := Machine.setChan s.trackers c v }

/-- The clock record. -/
def State.clock (s : State) : Clock := s.ret.clock

/-- Writes the clock record. -/
def State.setClock (s : State) (v : Clock) : State := { s with ret := { s.ret with clock := v } }

/-- The active envelope of a gallery. -/
def State.active (s : State) (g : Gallery) : Envelope := (s.ret.env.get g).active

/-- The loan lock of a gallery. -/
def State.loanLock (s : State) (g : Gallery) : Bool := (s.ret.env.get g).loanLock

/-- Writes the active envelope and the loan lock of a gallery. -/
def State.setEnvRet (s : State) (g : Gallery) (v : EnvRetained) : State :=
  { s with ret := { s.ret with env := s.ret.env.set g v } }

/-- The staged envelope and the commit pending flag of a gallery. -/
def State.envStaged (s : State) (g : Gallery) : EnvStaged := s.env.get g

/-- Writes them. -/
def State.setEnvStaged (s : State) (g : Gallery) (v : EnvStaged) : State := { s with env := s.env.set g v }

/-- The account record of a gallery. -/
def State.account (s : State) (g : Gallery) : Account := s.ret.accounts.get g

/-- Writes the account record of a gallery. -/
def State.setAccount (s : State) (g : Gallery) (v : Account) : State :=
  { s with ret := { s.ret with accounts := s.ret.accounts.set g v } }

/-- The light account unit's unretained record of a gallery. -/
def State.lightRec (s : State) (g : Gallery) : LightRec := s.light.get g

/-- Writes it. -/
def State.setLight (s : State) (g : Gallery) (v : LightRec) : State := { s with light := s.light.set g v }

/-- The climate record of a gallery. -/
def State.climateRec (s : State) (g : Gallery) : ClimateRec := s.climate.get g

/-- Writes the climate record of a gallery. -/
def State.setClimate (s : State) (g : Gallery) (v : ClimateRec) : State := { s with climate := s.climate.set g v }

/-- The ring of a gallery. -/
def State.ring (s : State) (g : Gallery) : Ring := s.ret.history.rings.get g

/-- Writes the history store's retained state. -/
def State.setHistory (s : State) (v : History) : State := { s with ret := { s.ret with history := v } }

/-- Writes the ring of a gallery. -/
def State.setRing (s : State) (g : Gallery) (v : Ring) : State :=
  s.setHistory { s.ret.history with rings := s.ret.history.rings.set g v }

/-- The running aggregates of a gallery. -/
def State.aggregates (s : State) (g : Gallery) : Aggregates := s.agg.get g

/-- Writes the running aggregates of a gallery. -/
def State.setAggregates (s : State) (g : Gallery) (v : Aggregates) : State := { s with agg := s.agg.set g v }

/-- Writes the log's retained state. -/
def State.setLogRet (s : State) (v : LogRetained) : State := { s with ret := { s.ret with log := v } }

/-- Whether a type is in the active-type set of a gallery. -/
def State.isActive (s : State) (g : Gallery) (t : ExcType) : Bool := (s.log.active.get g).get t

/-- Puts a type into the active-type set of a gallery or takes it out. -/
def State.setActiveType (s : State) (g : Gallery) (t : ExcType) (v : Bool) : State :=
  { s with log := { s.log with active := s.log.active.set g ((s.log.active.get g).set t v) } }

/-- Writes the overflow-since-selection marker. -/
def State.setMarker (s : State) (v : Bool) : State := { s with log := { s.log with sinceSelection := v } }

/-- The darkening record of a gallery. -/
def State.darkRec (s : State) (g : Gallery) : DarkRec := s.dark.get g

/-- Writes the darkening record of a gallery. -/
def State.setDark (s : State) (g : Gallery) (v : DarkRec) : State := { s with dark := s.dark.set g v }

/-- The source set of a gallery. -/
def State.sources (s : State) (g : Gallery) : SourceSet := s.ret.sources.get g

/-- Writes the source set of a gallery. -/
def State.setSources (s : State) (g : Gallery) (v : SourceSet) : State :=
  { s with ret := { s.ret with sources := s.ret.sources.set g v } }

/-- Drives the SHADE output of a gallery. -/
def State.setShade (s : State) (g : Gallery) (v : Bool) : State := { s with shade := s.shade.set g v }

/-- Writes the configuration of a trigger input. -/
def State.setTriggerCfg (s : State) (x : Trigger) (v : TriggerCfg) : State :=
  { s with ret := { s.ret with triggers := s.ret.triggers.set x v } }

/-- Writes the filtered level of a trigger input. -/
def State.setTriggerLevel (s : State) (x : Trigger) (v : Bool) : State := { s with trigger := s.trigger.set x v }

/-- Writes the sequencer's unretained state. -/
def State.setSeq (s : State) (v : Sequencer) : State := { s with seq := v }

/-- The check result of a gallery. -/
def State.checkResult (s : State) (g : Gallery) : CheckResult := s.seq.results.get g

/-- Writes the check result of a gallery. -/
def State.setCheckResult (s : State) (g : Gallery) (v : CheckResult) : State :=
  s.setSeq { s.seq with results := s.seq.results.set g v }

/-- Writes the check setup. -/
def State.setSetup (s : State) (v : CheckSetup) : State := { s with ret := { s.ret with setup := v } }

/-- The port controller's record of a port. -/
def State.port (s : State) (p : Port) : PortRec := s.ports.get p

/-- Writes the port controller's record of a port. -/
def State.setPort (s : State) (p : Port) (v : PortRec) : State := { s with ports := s.ports.set p v }

/-- Writes the serial lines of a port. -/
def State.setLines (s : State) (p : Port) (v : PortLines) : State := { s with lines := s.lines.set p v }

/-- Writes the silence timeout index of a port. -/
def State.setTimeout (s : State) (p : Port) (n : Nat) : State :=
  { s with ret := { s.ret with timeouts := s.ret.timeouts.set p n } }

/-! ## Notices -/

/-- A start has completed: the part runs and every block has taken its start notice (R52, R180). -/
def State.startComplete (s : State) : Bool := s.phase == .running && s.awaiting.isEmpty

/-- A notice or a request is sent: it joins the newest end of what is in flight (log entry 1). -/
def State.send (s : State) (c : Instr) : State := { s with inFlight := s.inFlight ++ [c] }

/-- A notice in flight is taken by its recipient. A command that is not in flight comes from outside. -/
def State.take (s : State) (c : Instr) : State := { s with inFlight := s.inFlight.erase c }

/-- A command that reaches a block whose start notice is still to come waits, after those that reached a block before it
(R137, R151, R168). -/
def State.wait (s : State) (c : Instr) : State := { s.take c with waiting := s.waiting ++ [c] }

/-- The check code is brought up to date with the retained contents (R49). -/
def State.seal (s : State) : State := { s with checkCode := Config.checkCodeOf s.ret }

/-- The delivery of command `c` to block `b`: a part that is held or unpowered takes nothing (R50, R51), a block whose
start notice is still to come lets it wait, and otherwise the block takes it and acts, and the check code follows. -/
def deliver (b : Block) (c : Instr) (s : State) (act : State → State) : Answer :=
  if s.phase = .running then
    if b ∈ s.awaiting then .next (s.wait c) else .next (act (s.take c)).seal
  else .next s

/-- An attention notice to the three port controllers. Attention sent while a start is still under way does not reach the
pending sets (R191). -/
def State.attend (s : State) (c : Cause) (g : Option Gallery) : State :=
  if s.startComplete then
    ((s.send (.attentionNotice .climate c g)).send (.attentionNotice .lighting c g)).send
      (.attentionNotice .conservation c g)
  else s

/-- The channel state change notice to its three recipients (R9). -/
def State.sendStateChange (s : State) (n : StateChange) : State :=
  ((s.send (.stateChangeAtFilter n)).send (.stateChangeAtLight n)).send (.stateChangeAtClimate n)

/-- The tracked update notice to the recipients of the channel's kind (R33). -/
def State.sendTracked (s : State) (u : TrackedUpdate) : State :=
  match u.chan.k with
  | .lux => ((s.send (.trackedUpdateAtHistory u)).send (.trackedUpdateAtLight u)).send (.trackedUpdateAtDarkening u)
  | .uv => (s.send (.trackedUpdateAtHistory u)).send (.trackedUpdateAtLight u)
  | .rh => (s.send (.trackedUpdateAtHistory u)).send (.trackedUpdateAtClimate u)
  | .temp => (s.send (.trackedUpdateAtHistory u)).send (.trackedUpdateAtClimate u)

/-- The darkening state notice to its two recipients (R154, R158). -/
def State.sendDarkState (s : State) (g : Gallery) (notIdle : Bool) : State :=
  (s.send (.darkeningStateAtLight g notIdle)).send (.darkeningStateAtSequencer g notIdle)

/-- The hour mark to its recipients, the history store among them at a day mark (R39). -/
def State.sendHourMark (s : State) (m : HourMark) : State :=
  let s := (s.send (.hourMarkAtLight m)).send (.hourMarkAtEnvelope m)
  if m.dayFlag then s.send (.dayMarkAtHistory m) else s

/-! ## All galleries -/

/-- An action on the six galleries, 0 to 5 in turn; the spec gives the galleries no order, and this one is the model's (log
entry 35). -/
def forGalleries (f : Gallery → State → State) (s : State) : State :=
  f .g5 (f .g4 (f .g3 (f .g2 (f .g1 (f .g0 s)))))

/-- An action on the six galleries, 0 to 5 in turn (log entry 35), that says of each whether it was changed, with the set of
those that were. -/
def forMask (f : Gallery → State → State × Bool) (s : State) : State × Nat :=
  let r0 := f .g0 s
  let r1 := f .g1 r0.1
  let r2 := f .g2 r1.1
  let r3 := f .g3 r2.1
  let r4 := f .g4 r3.1
  let r5 := f .g5 r4.1
  (r5.1, bitsLow [r0.2, r1.2, r2.2, r3.2, r4.2, r5.2])

/-- The first gallery, 0 to 5 in turn, for which `f` gives a value, with that value. -/
def firstGallery {α : Type} (f : Gallery → Option α) : Option (Gallery × α) :=
  galleries.findSome? fun g => (f g).map fun a => (g, a)

/-! ## Requests and replies -/

/-- What a request comes to: the state after it, the result and the data of the reply. -/
abbrev Taken := State × Result × Nat

/-- A refusal with data 0 that changes nothing (R182). -/
def refuse (s : State) (r : Result) : Taken := (s, r, 0)

/-- The reply to a request, with the echoed code and tag (R182). -/
def replyTo (q : Req) (code : Nat) (r : Result) (data : Nat) : Reply :=
  ⟨r, BitVec.ofNat 6 code, half data, q.tag⟩

/-- A request taken by an owner outside the port: from a port that may not send it, it is refused with NOT_PERMITTED, and
the owner's answer goes back to the port as a reply notice (R182). -/
def request (b : Block) (c : Instr) (code : Nat) (permitted : Port → Bool) (q : Req) (s : State)
    (act : State → Taken) : Answer :=
  deliver b c s fun s =>
    if permitted q.port then
      let r := act s
      r.1.send (.replyNotice q.port (replyTo q code r.2.1 r.2.2))
    else s.send (.replyNotice q.port (replyTo q code .notPermitted 0))

/-- Requests of the conservation master alone. -/
def conservationOnly (p : Port) : Bool := p == .conservation

/-- A gallery-7 request that judges all six galleries before it changes any: refused whole with the refusal of the
lowest-numbered gallery that refuses, its number in bits 15 to 8 and what it names in bits 7 to 0, and otherwise applied
to all six (R11, R60, R64, R69, R192). -/
def judgeAll (s : State) (judge : Gallery → Option (Result × Nat)) (apply : Gallery → State → State)
    (r : Result) (data : Nat) : Taken :=
  match firstGallery judge with
  | some (g, res, d) => (s, res, 256 * galleryNum g + d)
  | none => (forGalleries apply s, r, data)

/-- A command that names one outcome of another command's event happens only when that outcome does (log entry 2). -/
def onlyWhen (p : Bool) (s : State) (a : Answer) : Answer := if p then a else .next s

end Sys2Proof.Machine
end

