-- ==== Sys2Proof/Machine/History.lean ====
section
/-! DEFINITION. The history store: running aggregates, the hour close, the six rings with their append, reading and marks,
and the partition with its pending changes (R125 to R135). -/

namespace Sys2Proof.Machine

/-! ## Reading a ring -/

/-- The slot of ring `r` at recency `k`, 0 being the newest, when the ring holds that many records (R130, R132). -/
def Ring.slotAt (r : Ring) (k : Nat) : Option Nat :=
  match r.newest with
  | some p => if k < r.count then some (r.base + (p + r.length - k) % r.length) else none
  | none => none

/-- The record of ring `r` at recency `k` (R132). -/
def History.recordAt (h : History) (r : Ring) (k : Nat) : Option HourRecord :=
  match r.slotAt k with
  | some i => (h.slots[i]?).join
  | none => none

/-- The record of a gallery's ring at recency `k` (R132). -/
def State.record (s : State) (g : Gallery) (k : Nat) : Option HourRecord := s.ret.history.recordAt (s.ring g) k

/-! ## Running aggregates -/

/-- The smaller of a running minimum and `x` (R126). -/
def lowerTo (m : Option Nat) (x : Nat) : Option Nat := some (match m with | some v => min v x | none => x)

/-- The larger of a running maximum and `x` (R126). -/
def raiseTo (m : Option Nat) (x : Nat) : Option Nat := some (match m with | some v => max v x | none => x)

/-- The four extremes as the aggregate change notice carries them (R128). -/
def Aggregates.change (a : Aggregates) (g : Gallery) : AggregateChange := ⟨g, a.rhMin, a.rhMax, a.tMin, a.tMax⟩

/-- A SAMPLE notice with code `x` of a channel of kind `k` moves the extremes (R126). -/
def Aggregates.sample (a : Aggregates) (k : Kind) (x : Nat) : Aggregates :=
  match k with
  | .lux => { a with peakL := raiseTo a.peakL x }
  | .uv => { a with uvMax := raiseTo a.uvMax x }
  | .rh => { a with rhMin := lowerTo a.rhMin x, rhMax := raiseTo a.rhMax x }
  | .temp => { a with tMin := lowerTo a.tMin x, tMax := raiseTo a.tMax x }

/-- The channel measures: state OK with a tracked code present (R127). -/
def measures (st : ChanState) (code : Option Nat) : Bool := st == .ok && code.isSome

/-- The kept copy of an H or T channel follows a tracked update notice (R126). -/
def Aggregates.keep (a : Aggregates) (u : TrackedUpdate) : Aggregates :=
  match u.chan.k with
  | .rh => { a with hState := u.state, hCode := u.code }
  | .temp => { a with tState := u.state, tCode := u.code }
  | _ => a

/-- A STATE notice of an H or T channel that does not measure marks the hour incomplete (R127). -/
def Aggregates.spoil (a : Aggregates) (u : TrackedUpdate) : Aggregates :=
  if measures u.state u.code then a
  else
    match u.chan.k with
    | .rh => { a with hIncomplete := true }
    | .temp => { a with tIncomplete := true }
    | _ => a

/-- The running aggregates after a tracked update notice (R126, R127). -/
def Aggregates.take (a : Aggregates) (u : TrackedUpdate) : Aggregates :=
  match u.kind, u.code with
  | .sample, some x => (a.keep u).sample u.chan.k x
  | .sample, none => a.keep u
  | .state, _ => (a.keep u).spoil u

/-- TRACKED_UPDATE_AT_HISTORY (R126 to R128). -/
def execTrackedUpdateAtHistory (u : TrackedUpdate) (s : State) : Answer :=
  deliver .history (.trackedUpdateAtHistory u) s fun s =>
    let g := u.chan.g
    let old := s.aggregates g
    let new := old.take u
    let s := s.setAggregates g new
    if new.change g = old.change g then s else s.send (.aggregateChangeNotice (new.change g))

/-- The restart of the running aggregates, from the kept channel copies (R127, R129). -/
def Aggregates.restart (a : Aggregates) : Aggregates :=
  { a with
    peakL := none, uvMax := none, rhMin := none, rhMax := none, tMin := none, tMax := none,
    hIncomplete := !measures a.hState a.hCode, tIncomplete := !measures a.tState a.tCode }

/-! ## Closing an hour -/

/-- The record of an hour close notice (R129, step 1). -/
def assemble (h : HourClose) (a : Aggregates) : HourRecord where
  day := h.day
  hour := h.hour
  flags := h.flags
  hIncomplete := a.hIncomplete
  tIncomplete := a.tIncomplete
  dose := h.dose
  peakL := a.peakL
  uvMax := a.uvMax
  rhMin := a.rhMin
  rhMax := a.rhMax
  tMin := a.tMin
  tMax := a.tMax

/-- The position after the newest, wrapping at the ring's length; in an empty ring, which has no newest, position 0 (R131; log
entry 36). -/
def Ring.nextPos (r : Ring) : Nat :=
  match r.newest with
  | some p => if p + 1 < r.length then p + 1 else 0
  | none => 0

/-- An append overwrites an unread record: the ring is full and every record in it is unread (R131). -/
def Ring.losesUnread (r : Ring) : Bool := r.length ≤ r.count && r.count ≤ r.unread

/-- The ring after an append (R131). -/
def Ring.append (r : Ring) : Ring :=
  if r.count < r.length then { r with newest := some r.nextPos, count := r.count + 1, unread := r.unread + 1 }
  else if r.unread < r.count then { r with newest := some r.nextPos, unread := r.unread + 1 }
  else { r with newest := some r.nextPos, overrun := true }

/-- A record is appended to a gallery's ring (R131). -/
def History.append (h : History) (g : Gallery) (x : HourRecord) : History :=
  let r := h.rings.get g
  { h with slots := h.slots.setIfInBounds (r.base + r.nextPos) (some x), rings := h.rings.set g r.append }

/-- A record is appended, with HISTORY_OVERRUN when an unread record is lost (R131). -/
def State.appendRecord (s : State) (g : Gallery) (x : HourRecord) : State :=
  let lost := (s.ring g).losesUnread
  let s := s.setHistory (s.ret.history.append g x)
  if lost then s.attend .historyOverrun (some g) else s

/-- HOUR_CLOSE_NOTICE (R129). -/
def execHourCloseNotice (h : HourClose) (s : State) : Answer :=
  deliver .history (.hourCloseNotice h) s fun s =>
    let a := s.aggregates h.g
    let s := (s.appendRecord h.g (assemble h a)).send (.recordWrittenNotice h.g h.day h.hour)
    (s.setAggregates h.g a.restart).send (.aggregateChangeNotice (a.restart.change h.g))

/-! ## ADVANCE MARK -/

/-- The ring after `n` records are marked read (R133). -/
def Ring.advance (r : Ring) (n : Nat) : Ring := { r with unread := r.unread - min n r.unread, overrun := false }

/-- A gallery's ring is advanced; says whether it was clamped (R133). -/
def State.advanceRing (n : Nat) (g : Gallery) (s : State) : State × Bool :=
  (s.setRing g ((s.ring g).advance n), decide ((s.ring g).unread < n))

/-- ADVANCE_MARK (R133). -/
def execAdvanceMark (q : Req) (s : State) : Answer :=
  request .history (.advanceMark q) 0x1F conservationOnly q s fun s =>
    let n := q.value.toNat
    match gallerySel q.gallery with
    | .bad => refuse s .range
    | .one g =>
      let r := s.advanceRing n g
      (r.1, if r.2 then .clamped else .ok, min n (s.ring g).unread + 32768 * (s.ring g).overrun.toNat)
    | .all =>
      let r := forMask (State.advanceRing n) s
      (r.1, if r.2 = 0 then .ok else .clamped, r.2)

/-! ## PARTITION -/

/-- The ring lengths in force (R130). -/
def History.lengths (h : History) : PerGallery Nat := .ofFn fun g => (h.rings.get g).length

/-- The lengths a PARTITION starts from: the pending ones when there are any (R134). -/
def History.proposalBase (h : History) : PerGallery Nat := h.pendingPartition.getD h.lengths

/-- A proposed partition is judged and becomes the pending one (R134). -/
def State.propose (s : State) (ls : PerGallery Nat) (r : Result) : Taken :=
  if 512 < sumLengths ls then (s, .inconsistent, sumLengths ls)
  else (s.setHistory { s.ret.history with pendingPartition := some ls }, r, sumLengths ls)

/-- PARTITION_SET (R134). -/
def execPartitionSet (q : Req) (s : State) : Answer :=
  request .history (.partitionSet q) 0x1E conservationOnly q s fun s =>
    let v := clampNat 24 168 q.value.toNat
    let r : Result := if v = q.value.toNat then .ok else .clamped
    match gallerySel q.gallery with
    | .bad => refuse s .range
    | .one g => s.propose (s.ret.history.proposalBase.set g v) r
    | .all => s.propose (.all v) r

/-- PARTITION_WITHDRAW (R134). -/
def execPartitionWithdraw (q : Req) (s : State) : Answer :=
  request .history (.partitionWithdraw q) 0x1E conservationOnly q s fun s =>
    (s.setHistory { s.ret.history with pendingPartition := none }, .ok, 0)

/-- The record a changed ring keeps at a day mark that ends the day `day` and hour `hour`: its newest, when that carries
the ending stamp (R135, step 2). At a start no day mark ends and nothing is kept (R137). -/
def keptRecord (h : History) (r : Ring) (ending : Option (Nat × Nat)) : Option HourRecord :=
  match ending, h.recordAt r 0 with
  | some e, some x => if x.day = e.1 ∧ x.hour = e.2 then some x else none
  | _, _ => none

/-- A ring's place or size changes: it is emptied, but for the record it keeps (R135, step 2). -/
def Ring.relay (r : Ring) (base length : Nat) (kept : Bool) : Ring :=
  if kept then ⟨base, length, 1, some 0, if r.unread = 0 then 0 else 1, false⟩ else .empty base length

/-- One gallery's part of the application of the lengths `ls`, on `h`, reading the records of the rings as they stood in
`old` (R135, steps 1 to 3). -/
def History.relayRing (old : History) (ls : PerGallery Nat) (ending : Option (Nat × Nat)) (h : History) (g : Gallery) :
    History :=
  let r := old.rings.get g
  let base := ringBase ls g
  let length := ls.get g
  if r.base = base ∧ r.length = length then h
  else
    match keptRecord old r ending with
    | some x =>
      { h with rings := h.rings.set g (r.relay base length true), slots := h.slots.setIfInBounds base (some x) }
    | none => { h with rings := h.rings.set g (r.relay base length false) }

/-- The pending partition is applied (R135). -/
def History.applyPartition (h : History) (ending : Option (Nat × Nat)) : History :=
  match h.pendingPartition with
  | none => h
  | some ls => { galleries.foldl (h.relayRing ls ending) h with pendingPartition := none }

/-- DAY_MARK_AT_HISTORY (R135): the store is a recipient of hour marks with the day flag alone (R39). -/
def execDayMarkAtHistory (m : HourMark) (s : State) : Answer :=
  deliver .history (.dayMarkAtHistory m) s fun s =>
    if m.dayFlag then s.setHistory (s.ret.history.applyPartition (some (m.ending.day, m.ending.hour))) else s

end Sys2Proof.Machine
end

