-- ==== Sys2Proof/Machine/Climate.lean ====
section
/-! DEFINITION. The climate unit: the window, the RH and temperature bands and when they are computed, the climate master's
queries and declarations, and the six climate excursions (R109 to R122). -/

namespace Sys2Proof.Machine

/-! ## The window -/

/-- The window of one quantity: *W*min and *W*max, absent when it is empty (R111). -/
structure Window where
  low : Option Nat
  high : Option Nat
  deriving DecidableEq, Repr, Inhabited

/-- A pair of extremes joins a window when both are present (R111, steps 2 and 3). -/
def Window.add (w : Window) (lo hi : Option Nat) : Window :=
  match lo, hi with
  | some a, some b => ⟨lowerTo w.low a, raiseTo w.high b⟩
  | _, _ => w

/-- *W*max − *W*min, absent with an empty window (R111). -/
def Window.span (w : Window) : Option Nat :=
  match w.low, w.high with
  | some a, some b => some (b - a)
  | _, _ => none

/-- The 23 most recent records of a gallery's ring (R111, step 1). -/
def State.recent (s : State) (g : Gallery) : List HourRecord := (List.range 23).filterMap (s.record g)

/-- The RH window of a gallery (R111). -/
def State.rhWindow (s : State) (g : Gallery) : Window :=
  let a := (s.climateRec g).agg
  ((s.recent g).foldl (fun (w : Window) x => w.add x.rhMin x.rhMax) ⟨none, none⟩).add a.rhMin a.rhMax

/-- The T window of a gallery (R111). -/
def State.tWindow (s : State) (g : Gallery) : Window :=
  let a := (s.climateRec g).agg
  ((s.recent g).foldl (fun (w : Window) x => w.add x.tMin x.tMax) ⟨none, none⟩).add a.tMin a.tMax

/-! ## The bands -/

/-- A band from a window, the nominal ends `lo` and `hi`, the permitted swing, the kept tracked code and the point `mid`
that stands for an absent one (R112, R113). -/
def bandOf (w : Window) (lo hi swing : Nat) (kept : Option Nat) (mid : Nat) : Band :=
  match w.low, w.high with
  | some a, some b =>
    let low := max lo (b - swing)
    let high := min hi (a + swing)
    if low ≤ high then ⟨low, high, false⟩
    else
      let c := match kept with
        | some x => clampNat lo hi x
        | none => mid
      ⟨c, c, true⟩
  | _, _ => ⟨lo, hi, false⟩

/-- The RH band of a window (R112). -/
def rhBandOf (w : Window) (e : Envelope) (kept : Option Nat) : Band :=
  bandOf w (e.hset - e.hband) (e.hset + e.hband) e.hswing kept e.hset

/-- The T band of a window (R113). -/
def tBandOf (w : Window) (e : Envelope) (kept : Option Nat) : Band :=
  bandOf w e.tmin e.tmax e.tswing kept ((e.tmin + e.tmax) / 2)

/-- A present declared setpoint is moved into a band (R114, step 3). -/
def moveInto (b : Band) (v : Option Nat) : Option Nat := v.map (clampNat b.low b.high)

/-! ## The six excursions -/

/-- The six types the climate unit owns (R109). -/
inductive ClimateType where
  | rhHigh | rhLow | rhSwing | tHigh | tLow | tSwing
  deriving DecidableEq, Repr, Inhabited

/-- A climate type among the excursion types (R140). -/
def climateExc : ClimateType → ExcType
  | .rhHigh => .rhHigh
  | .rhLow => .rhLow
  | .rhSwing => .rhSwing
  | .tHigh => .tHigh
  | .tLow => .tLow
  | .tSwing => .tSwing

/-- The open flag of a type. -/
def ClimateRec.flag (r : ClimateRec) : ClimateType → Bool
  | .rhHigh => r.rhHigh
  | .rhLow => r.rhLow
  | .rhSwing => r.rhSwing
  | .tHigh => r.tHigh
  | .tLow => r.tLow
  | .tSwing => r.tSwing

/-- The record with the open flag of a type written. -/
def ClimateRec.setFlag (r : ClimateRec) (t : ClimateType) (v : Bool) : ClimateRec :=
  match t with
  | .rhHigh => { r with rhHigh := v }
  | .rhLow => { r with rhLow := v }
  | .rhSwing => { r with rhSwing := v }
  | .tHigh => { r with tHigh := v }
  | .tLow => { r with tLow := v }
  | .tSwing => { r with tSwing := v }

/-- One judgement of a type: an open notice with its limit and value when the flag is no and `opens` holds; with the flag
yes a close notice when `closes` holds, and otherwise a value notice (R119, R120, R122). -/
def State.judge (s : State) (g : Gallery) (t : ClimateType) (opens closes : Bool) (limit value : Nat) : State :=
  let r := s.climateRec g
  if r.flag t then
    if closes then (s.setClimate g (r.setFlag t false)).send (.closeNotice g (climateExc t))
    else s.send (.valueNotice g (climateExc t) value)
  else if opens then (s.setClimate g (r.setFlag t true)).send (.openNotice g (climateExc t) limit value)
  else s

/-- A high and a low limit judged on the code `x`, high first, with the closing thresholds taken within 0 … `top`
(R119, R120). -/
def State.judgePair (s : State) (g : Gallery) (hiT loT : ClimateType) (hi lo top du x : Nat) : State :=
  (s.judge g hiT (hi < x) (x ≤ min top (hi - du)) hi x).judge g loT (x < lo) (min top (lo + du) ≤ x) lo x

/-- The limit excursions of the H channel, on the kept code (R119). -/
def State.judgeRh (s : State) (g : Gallery) : State :=
  let r := s.climateRec g
  match r.h.code with
  | some x =>
    if r.h.state = .disabled then s
    else s.judgePair g .rhHigh .rhLow (r.env.hset + r.env.hband) (r.env.hset - r.env.hband) 10000 r.h.du x
  | none => s

/-- The limit excursions of the T channel, on the kept code (R120). -/
def State.judgeT (s : State) (g : Gallery) : State :=
  let r := s.climateRec g
  match r.tc.code with
  | some x =>
    if r.tc.state = .disabled then s
    else s.judgePair g .tHigh .tLow r.env.tmax r.env.tmin 12000 r.tc.du x
  | none => s

/-- One swing excursion, on its span (R122). -/
def State.judgeSpan (s : State) (g : Gallery) (t : ClimateType) (span : Option Nat) (swing du : Nat) : State :=
  match span with
  | some v => s.judge g t (swing < v) (v ≤ swing - du) swing v
  | none => s

/-- The two swing excursions, on the spans of the record, that of H first, an order the spec does not give (R122; log entry
35). -/
def State.judgeSwing (s : State) (g : Gallery) : State :=
  let r := s.climateRec g
  (s.judgeSpan g .rhSwing r.rhSpan r.env.hswing r.h.du).judgeSpan g .tSwing r.tSpan r.env.tswing r.tc.du

/-- An open excursion of a type is closed (R121). -/
def State.closeFlag (s : State) (g : Gallery) (t : ClimateType) : State :=
  let r := s.climateRec g
  if r.flag t then (s.setClimate g (r.setFlag t false)).send (.closeNotice g (climateExc t)) else s

/-! ## The computation -/

/-- The spans are set from the windows (R114, step 1). -/
def State.setSpans (s : State) (g : Gallery) : State :=
  s.setClimate g { s.climateRec g with rhSpan := (s.rhWindow g).span, tSpan := (s.tWindow g).span }

/-- The climate record with its bands computed and its setpoints moved into them (R114, steps 1 to 3). -/
def ClimateRec.computed (r : ClimateRec) (rhW tW : Window) : ClimateRec :=
  let rh := rhBandOf rhW r.env r.h.code
  let t := tBandOf tW r.env r.tc.code
  { r with
    rhSpan := rhW.span, tSpan := tW.span, rh := rh, t := t, rhSet := moveInto rh r.rhSet, tSet := moveInto t r.tSet }

/-- The bands of a gallery are computed and the swings judged (R114, steps 1 to 4). -/
def State.computeBands (s : State) (g : Gallery) : State :=
  (s.setClimate g ((s.climateRec g).computed (s.rhWindow g) (s.tWindow g))).judgeSwing g

/-- A computation with its BAND_CHANGED when a band or a collapsed flag moved (R114). -/
def State.computeAndTell (s : State) (g : Gallery) : State :=
  let r := s.climateRec g
  let s := s.computeBands g
  if (s.climateRec g).rh = r.rh ∧ (s.climateRec g).t = r.t then s else s.attend .bandChanged (some g)

/-- RECORD_WRITTEN_NOTICE (R114). -/
def execRecordWrittenNotice (g : Gallery) (day hour : Nat) (s : State) : Answer :=
  deliver .climate (.recordWrittenNotice g day hour) s fun s => s.computeAndTell g

/-- AGGREGATE_CHANGE_NOTICE (R110, R122). -/
def execAggregateChangeNotice (a : AggregateChange) (s : State) : Answer :=
  deliver .climate (.aggregateChangeNotice a) s fun s =>
    ((s.setClimate a.g { s.climateRec a.g with agg := ⟨a.rhMin, a.rhMax, a.tMin, a.tMax⟩ }).setSpans a.g).judgeSwing a.g

/-- ENVELOPE_CHANGED_AT_CLIMATE (R114, R119, R120): the computation first, and then the limit excursions
(log entry 9). -/
def execEnvelopeChangedAtClimate (e : EnvelopeChange) (s : State) : Answer :=
  deliver .climate (.envelopeChangedAtClimate e) s fun s =>
    (((s.setClimate e.g { s.climateRec e.g with env := e.env }).computeAndTell e.g).judgeRh e.g).judgeT e.g

/-! ## Channel copies -/

/-- The kept state of the H channel takes a state; a change into DISABLED closes its limit excursions (R121), the
high one first (log entry 35). -/
def State.keepH (s : State) (g : Gallery) (st : ChanState) : State :=
  let r := s.climateRec g
  let s := s.setClimate g { r with h := { r.h with state := st } }
  if st = .disabled ∧ r.h.state ≠ .disabled then (s.closeFlag g .rhHigh).closeFlag g .rhLow else s

/-- The same for the T channel (R121). -/
def State.keepT (s : State) (g : Gallery) (st : ChanState) : State :=
  let r := s.climateRec g
  let s := s.setClimate g { r with tc := { r.tc with state := st } }
  if st = .disabled ∧ r.tc.state ≠ .disabled then (s.closeFlag g .tHigh).closeFlag g .tLow else s

/-- STATE_CHANGE_AT_CLIMATE (R110, R121): the unit keeps the states of H and T channels. -/
def execStateChangeAtClimate (n : StateChange) (s : State) : Answer :=
  deliver .climate (.stateChangeAtClimate n) s fun s =>
    match n.chan.k with
    | .rh => s.keepH n.chan.g n.new
    | .temp => s.keepT n.chan.g n.new
    | _ => s

/-- The code and deviation unit of an H channel are kept (R110). -/
def State.keepHCode (s : State) (u : TrackedUpdate) : State :=
  let r := s.climateRec u.chan.g
  s.setClimate u.chan.g { r with h := { r.h with code := u.code, du := u.du } }

/-- The code and deviation unit of a T channel are kept (R110). -/
def State.keepTCode (s : State) (u : TrackedUpdate) : State :=
  let r := s.climateRec u.chan.g
  s.setClimate u.chan.g { r with tc := { r.tc with code := u.code, du := u.du } }

/-- TRACKED_UPDATE_AT_CLIMATE (R110, R119 to R121): the unit is a recipient for H and T channels (R33). -/
def execTrackedUpdateAtClimate (u : TrackedUpdate) (s : State) : Answer :=
  deliver .climate (.trackedUpdateAtClimate u) s fun s =>
    match u.chan.k with
    | .rh => ((s.keepHCode u).keepH u.chan.g u.state).judgeRh u.chan.g
    | .temp => ((s.keepTCode u).keepT u.chan.g u.state).judgeT u.chan.g
    | _ => s

/-! ## Presence and requests -/

/-- PRESENCE_NOTICE_AT_CLIMATE (R118). -/
def execPresenceNoticeAtClimate (p : Presence) (s : State) : Answer :=
  deliver .climate (.presenceNoticeAtClimate p) s fun s =>
    if p = .absent then
      forGalleries (fun g s => s.setClimate g { s.climateRec g with rhSet := none, tSet := none }) s
    else s

/-- Requests of the climate master alone. -/
def climateOnly (p : Port) : Bool := p == .climate

/-- The collapse state of a gallery (R116). -/
def collapseCode (r : ClimateRec) : Nat := r.rh.collapsed.toNat + 2 * r.t.collapsed.toNat

/-- QUERY_BAND (R116). -/
def execQueryBand (q : Req) (s : State) : Answer :=
  request .climate (.queryBand q) 0x0C climateOnly q s fun s =>
    match gallerySel q.gallery with
    | .one g =>
      let r := s.climateRec g
      match q.sub.toNat with
      | 0 => (s, .ok, r.rh.low)
      | 1 => (s, .ok, r.rh.high)
      | 2 => (s, .ok, r.t.low)
      | 3 => (s, .ok, r.t.high)
      | 4 => (s, .ok, r.rhSet.getD 65535)
      | 5 => (s, .ok, r.tSet.getD 65535)
      | 6 => (s, .ok, collapseCode r)
      | _ => refuse s .range
    | _ => refuse s .range

/-- The quantity of a declaration: RH or temperature (R117). -/
inductive Quantity where
  | rh | temp
  deriving DecidableEq, Repr, Inhabited

/-- The quantity a sub-argument names (R117). -/
def quantityOf : Nat → Option Quantity
  | 0 => some .rh
  | 1 => some .temp
  | _ => none

/-- The band of a quantity. -/
def ClimateRec.band (r : ClimateRec) : Quantity → Band
  | .rh => r.rh
  | .temp => r.t

/-- The record with the declared setpoint of a quantity written. -/
def ClimateRec.declare (r : ClimateRec) (x : Quantity) (v : Option Nat) : ClimateRec :=
  match x with
  | .rh => { r with rhSet := v }
  | .temp => { r with tSet := v }

/-- A value clamped to a band (R117). -/
def Band.grant (b : Band) (v : Nat) : Nat := clampNat b.low b.high v

/-- A gallery's setpoint is declared; says whether it was clamped (R117). -/
def State.declareSetpoint (x : Quantity) (v : Nat) (g : Gallery) (s : State) : State × Bool :=
  let r := s.climateRec g
  let n := (r.band x).grant v
  (s.setClimate g (r.declare x (some n)), n != v)

/-- A gallery's setpoint is withdrawn (R117). -/
def State.withdrawSetpoint (x : Quantity) (g : Gallery) (s : State) : State :=
  s.setClimate g ((s.climateRec g).declare x none)

/-- DECLARE_SETPOINT (R117). -/
def execDeclareSetpoint (q : Req) (s : State) : Answer :=
  request .climate (.declareSetpoint q) 0x0D climateOnly q s fun s =>
    match quantityOf q.sub.toNat with
    | none => refuse s .range
    | some x =>
      let v := q.value.toNat
      match gallerySel q.gallery with
      | .bad => refuse s .range
      | .one g =>
        if v = 65535 then (s.withdrawSetpoint x g, .ok, 65535)
        else
          let r := s.declareSetpoint x v g
          (r.1, if r.2 then .clamped else .ok, ((s.climateRec g).band x).grant v)
      | .all =>
        if v = 65535 then (forGalleries (State.withdrawSetpoint x) s, .ok, 65535)
        else
          let r := forMask (State.declareSetpoint x v) s
          (r.1, if r.2 = 0 then .ok else .clamped, r.2)

end Sys2Proof.Machine
end

