-- ==== Sys2Proof/Machine/Darkening.lean ====
section
/-! DEFINITION. The darkening controller: sources joining and leaving, the course from ARMED to DARK, SHADE, the hard
illuminance limit, the masters' DARKEN and RELEASE, the part's own sources, and the trigger inputs (R152 to R166). -/

namespace Sys2Proof.Machine

/-! ## Source sets -/

/-- Whether a source is in a set. -/
def SourceSet.has (x : SourceSet) : Source → Bool
  | .hardLux => x.hardLux
  | .inputA => x.inputA
  | .inputB => x.inputB
  | .lightReq => x.lightReq
  | .conservationReq => x.conservationReq
  | .exhaust => x.exhaust
  | .lightSilence => x.lightSilence

/-- The set with a source put in or taken out. -/
def SourceSet.put (x : SourceSet) (i : Source) (v : Bool) : SourceSet :=
  match i with
  | .hardLux => { x with hardLux := v }
  | .inputA => { x with inputA := v }
  | .inputB => { x with inputB := v }
  | .lightReq => { x with lightReq := v }
  | .conservationReq => { x with conservationReq := v }
  | .exhaust => { x with exhaust := v }
  | .lightSilence => { x with lightSilence := v }

/-- The set is empty. -/
def SourceSet.isEmpty (x : SourceSet) : Bool := x == .empty

/-- The INPUT source of a trigger input (R165). -/
def inputSource : Trigger → Source
  | .a => .inputA
  | .b => .inputB

/-- The end cause of a trigger input's fall (R165). -/
def fallCause : Trigger → EndCause
  | .a => .inputAFall
  | .b => .inputBFall

/-- DARK_ON_EXHAUST: POLICY bit 0 (R56). -/
def darkOnExhaust (e : Envelope) : Bool := e.policy.testBit 0

/-- DARK_ON_LIGHT_SILENCE: POLICY bit 1 (R56). -/
def darkOnLightSilence (e : Envelope) : Bool := e.policy.testBit 1

/-! ## From ARMED to DARK -/

/-- A record enters DARK with an outcome (R156). -/
def DarkRec.toDark (r : DarkRec) (o : DarkOutcome) : DarkRec :=
  { r with state := .dark, heldSub := 0, outcome := { r.outcome with outcome := o } }

/-- The gallery enters DARK and DARKENING_OUTCOME is sent (R153, R156). -/
def State.enterDark (s : State) (g : Gallery) (o : DarkOutcome) : State :=
  (s.setDark g ((s.darkRec g).toDark o)).attend .darkeningOutcome (some g)

/-- The gallery enters DARKENING after `applied` seconds of delay, with SHADE asserted; it passes at once to DARK when its
L channel is not OK (R155, R156). -/
def State.enterDarkening (s : State) (g : Gallery) (applied : Nat) : State :=
  let r := s.darkRec g
  let s := (s.setDark g { r with
    state := .darkening, delayLeft := none, timeToDark := 0, outcome := { r.outcome with delayApplied := some applied }
    }).setShade g true
  if r.lState = .ok then s else s.enterDark g .unverified

/-- The seconds a gallery has spent ARMED (R155). -/
def DarkRec.armedSeconds (r : DarkRec) : Nat := r.armedWith - r.delayLeft.getD 0

/-! ## Sources joining and leaving -/

/-- The outcome record that replaces the old one when a gallery leaves IDLE (R154). -/
def outcomeOf (at_ : SecondStamp) (i : Source) : OutcomeRec :=
  ⟨some at_, some i, SourceSet.empty.put i true, none, none, .inProgress, 0, none⟩

/-- A gallery leaves IDLE for a source, with an arming delay of `t` seconds (R154). -/
def State.leaveIdle (s : State) (g : Gallery) (i : Source) (t : Nat) : State :=
  let s := s.setSources g (SourceSet.empty.put i true)
  let r := { s.darkRec g with outcome := outcomeOf (secondStamp s.clock) i, armedWith := t }
  let s :=
    if t = 0 then (s.setDark g r).enterDarkening g 0
    else s.setDark g { r with state := .armed, delayLeft := some t }
  (s.attend .darkeningStarted (some g)).sendDarkState g true

/-- A source joins a gallery's set (R154), with the delay of the envelope, or with none when `immediate`. -/
def State.join (s : State) (g : Gallery) (i : Source) (immediate : Bool) : State :=
  let x := s.sources g
  if x.isEmpty then s.leaveIdle g i (if immediate then 0 else delaySeconds (s.darkRec g).env.delay)
  else
    let r := s.darkRec g
    (s.setSources g (x.put i true)).setDark g { r with outcome := { r.outcome with joined := r.outcome.joined.put i true } }

/-- The record of a gallery whose set has emptied (R158). -/
def DarkRec.toIdle (r : DarkRec) (cause : EndCause) : DarkRec :=
  let o := match r.state with
    | .armed => { r.outcome with outcome := .cancelled, delayApplied := some r.armedSeconds }
    | .darkening => { r.outcome with outcome := .cancelled, secondsToDark := none }
    | _ => r.outcome
  { r with
    state := .idle, delayLeft := none, timeToDark := 0, heldSub := 0, hardLux := 0, outcome := { o with endCause := some cause } }

/-- A gallery's source set has emptied (R158). -/
def State.returnToIdle (s : State) (g : Gallery) (cause : EndCause) : State :=
  let r := s.darkRec g
  let s := (s.setDark g (r.toIdle cause)).setShade g false
  let s := if r.state = .armed ∨ r.state = .darkening then s.attend .darkeningOutcome (some g) else s
  s.sendDarkState g false

/-- A gallery's set becomes the smaller set `x` by a release (R158). -/
def State.release (s : State) (g : Gallery) (x : SourceSet) (cause : EndCause) : State :=
  let s := s.setSources g x
  if x.isEmpty then s.returnToIdle g cause else s

/-- A source leaves a gallery's set; a source that is absent from it changes nothing (R158). -/
def State.leave (s : State) (g : Gallery) (i : Source) (cause : EndCause) : State :=
  if (s.sources g).has i then s.release g ((s.sources g).put i false) cause else s

/-! ## The second mark -/

/-- A second of ARMED (R155). -/
def State.armedSecond (s : State) (g : Gallery) : State :=
  let r := s.darkRec g
  let n := r.delayLeft.getD 0 - 1
  if n = 0 then s.enterDarkening g r.armedWith else s.setDark g { r with delayLeft := some n }

/-- The kept L code is present and at or below 10 × LDARK (R156). -/
def DarkRec.isDark (r : DarkRec) : Bool :=
  match r.lCode with
  | some x => x ≤ 10 * r.env.ldark
  | none => false

/-- A second of DARKENING (R156). -/
def State.darkeningSecond (s : State) (g : Gallery) : State :=
  let r := s.darkRec g
  let r := { r with timeToDark := r.timeToDark + 1 }
  let s := s.setDark g r
  if r.lState ≠ .ok then s.enterDark g .unverified
  else if r.isDark then
    (s.setDark g { r with outcome := { r.outcome with secondsToDark := some r.timeToDark } }).enterDark g .reached
  else if 600 ≤ r.timeToDark then s.enterDark g .notReached
  else s

/-- A record after a second of DARK (R157). -/
def DarkRec.held (r : DarkRec) : DarkRec :=
  if r.heldSub + 1 < 60 then { r with heldSub := r.heldSub + 1 }
  else { r with heldSub := 0, outcome := { r.outcome with heldMinutes := min 65535 (r.outcome.heldMinutes + 1) } }

/-- The judgement of a gallery's state at a second mark (R155 to R157). -/
def State.courseSecond (s : State) (g : Gallery) : State :=
  match (s.darkRec g).state with
  | .idle => s
  | .armed => s.armedSecond g
  | .darkening => s.darkeningSecond g
  | .dark => s.setDark g (s.darkRec g).held

/-- The kept L code is present and at or above 10 × LHARD (R160). -/
def DarkRec.tooBright (r : DarkRec) : Bool :=
  match r.lCode with
  | some x => 10 * r.env.lhard ≤ x
  | none => false

/-- The hard-lux counter rises at this mark (R160). -/
def DarkRec.countsHard (r : DarkRec) : Bool := r.lState == .ok && r.tooBright

/-- The hard-lux counter reaches 60 at this mark (R160). -/
def DarkRec.reachesHard (r : DarkRec) : Bool := r.countsHard && decide (60 ≤ r.hardLux + 1)

/-- The hard-lux counter is stepped, and HARD_LUX joins when it reaches 60 (R160). -/
def State.stepHardLux (s : State) (g : Gallery) : State :=
  let r := s.darkRec g
  if r.reachesHard then (s.setDark g { r with hardLux := 0 }).join g .hardLux false
  else s.setDark g { r with hardLux := if r.countsHard then r.hardLux + 1 else 0 }

/-- LUX_HARD is judged, `reached` saying whether the counter reached 60 at this mark (R161). -/
def State.judgeLuxHard (s : State) (g : Gallery) (reached : Bool) : State :=
  let r := s.darkRec g
  if r.luxHardOpen then
    if r.lState = .disabled then (s.setDark g { r with luxHardOpen := false }).send (.closeNotice g .luxHard)
    else
      match r.lCode with
      | some x =>
        if x < 10 * r.env.lhard then (s.setDark g { r with luxHardOpen := false }).send (.closeNotice g .luxHard)
        else s.send (.valueNotice g .luxHard x)
      | none => s
  else if reached then
    (s.setDark g { r with luxHardOpen := true }).send (.openNotice g .luxHard (10 * r.env.lhard) (r.lCode.getD 0))
  else s

/-- A second mark at one gallery (R155 to R157, R160, R161). -/
def State.darkSecond (g : Gallery) (s : State) : State :=
  let s := s.courseSecond g
  (s.stepHardLux g).judgeLuxHard g (s.darkRec g).reachesHard

/-- The delivery of a second mark to the darkening controller. -/
def darkMark (t : SecondStamp) (s : State) : Answer :=
  deliver .darkening (.secondMarkAtDarkening t) s (forGalleries State.darkSecond)

/-- SECOND_MARK_AT_DARKENING (R155 to R157, R160, R161). -/
def execSecondMarkAtDarkening (t : SecondStamp) (s : State) : Answer := darkMark t s

/-- The second mark ends the gallery's arming delay (R155). -/
def delayEnds (r : DarkRec) : Bool := r.state == .armed && decide (r.delayLeft.getD 0 ≤ 1)

/-- DELAY_EXPIRY (R155): the second mark that ends the gallery's delay. -/
def execDelayExpiry (g : Gallery) (t : SecondStamp) (s : State) : Answer :=
  onlyWhen (delayEnds (s.darkRec g)) s (darkMark t s)

/-- The second mark ends the wait of a DARKENING gallery as NOT_REACHED (R156). -/
def timeRunsOut (r : DarkRec) : Bool :=
  r.state == .darkening && r.lState == .ok && !r.isDark && decide (600 ≤ r.timeToDark + 1)

/-- TIME_TO_DARK_EXPIRY (R156): the second mark at which the gallery's time-to-dark counter reaches 600. -/
def execTimeToDarkExpiry (g : Gallery) (t : SecondStamp) (s : State) : Answer :=
  onlyWhen (timeRunsOut (s.darkRec g)) s (darkMark t s)

/-- The second mark completes a minute of DARK (R157). -/
def minuteHeld (r : DarkRec) : Bool := r.state == .dark && decide (60 ≤ r.heldSub + 1)

/-- HELD_MINUTE (R157): the second mark that completes a minute of the gallery in DARK. -/
def execHeldMinute (g : Gallery) (t : SecondStamp) (s : State) : Answer :=
  onlyWhen (minuteHeld (s.darkRec g)) s (darkMark t s)

/-- HARD_LUX_COUNT_EXPIRY (R160): the second mark at which the gallery's hard-lux counter reaches 60. -/
def execHardLuxCountExpiry (g : Gallery) (t : SecondStamp) (s : State) : Answer :=
  onlyWhen (s.darkRec g).reachesHard s (darkMark t s)

/-! ## Copies -/

/-- TRACKED_UPDATE_AT_DARKENING (R152): the controller is a recipient for L channels (R33). -/
def execTrackedUpdateAtDarkening (u : TrackedUpdate) (s : State) : Answer :=
  deliver .darkening (.trackedUpdateAtDarkening u) s fun s =>
    match u.chan.k with
    | .lux => s.setDark u.chan.g { s.darkRec u.chan.g with lCode := u.code, lState := u.state }
    | _ => s

/-- ENVELOPE_CHANGED_AT_DARKENING (R152). -/
def execEnvelopeChangedAtDarkening (e : EnvelopeChange) (s : State) : Answer :=
  deliver .darkening (.envelopeChangedAtDarkening e) s fun s => s.setDark e.g { s.darkRec e.g with env := e.env }

/-! ## Requests of the masters -/

/-- DARKEN and RELEASE from a master for one gallery or all six: `act` says whether the gallery was changed; the data of a
single gallery is its state afterwards (R162, R163). -/
def darkRequest (q : Req) (s : State) (act : Gallery → State → State × Bool) (unchanged : Result) (keepData : Bool) : Taken :=
  match gallerySel q.gallery with
  | .bad => refuse s .range
  | .one g =>
    let r := act g s
    if r.2 then (r.1, .ok, darkStateCode (r.1.darkRec g).state)
    else (r.1, unchanged, if keepData then darkStateCode (r.1.darkRec g).state else 0)
  | .all =>
    let r := forMask act s
    (r.1, if r.2 = 0 then unchanged else .ok, r.2)

/-- A Lighting DARKEN of one gallery (R162). -/
def State.lightDarken (g : Gallery) (s : State) : State × Bool :=
  if (s.sources g).lightReq then (s, false) else (s.join g .lightReq false, true)

/-- LIGHTING_DARKEN (R162). -/
def execLightingDarken (q : Req) (s : State) : Answer :=
  request .darkening (.lightingDarken q) 0x0A (· == .lighting) q s fun s =>
    darkRequest q s State.lightDarken .duplicate true

/-- A Lighting RELEASE of one gallery (R162). -/
def State.lightRelease (g : Gallery) (s : State) : State × Bool :=
  if (s.sources g).lightReq then (s.leave g .lightReq .lightingRelease, true) else (s, false)

/-- LIGHTING_RELEASE (R162). -/
def execLightingRelease (q : Req) (s : State) : Answer :=
  request .darkening (.lightingRelease q) 0x0B (· == .lighting) q s fun s =>
    darkRequest q s State.lightRelease .notFound false

/-- The running delay of an ARMED gallery ends at the request (R155). -/
def State.endDelay (s : State) (g : Gallery) : State := s.enterDarkening g (s.darkRec g).armedSeconds

/-- A Conservation DARKEN of one gallery (R163). -/
def State.consDarken (immediate : Bool) (g : Gallery) (s : State) : State × Bool :=
  let joins := !(s.sources g).conservationReq
  let ends := immediate && (s.darkRec g).state == .armed
  let s := if joins then s.join g .conservationReq immediate else s
  (if ends then s.endDelay g else s, joins || ends)

/-- CONSERVATION_DARKEN (R163). -/
def execConservationDarken (q : Req) (s : State) : Answer :=
  request .darkening (.conservationDarken q) 0x0A conservationOnly q s fun s =>
    if 2 ≤ q.sub.toNat then refuse s .range
    else darkRequest q s (State.consDarken (q.sub.toNat = 1)) .duplicate true

/-- A Conservation RELEASE of one gallery (R163). -/
def State.consRelease (g : Gallery) (s : State) : State × Bool :=
  if (s.sources g).isEmpty then (s, false)
  else
    let s := s.release g .empty .conservationRelease
    (s.setDark g { s.darkRec g with hardLux := 0 }, true)

/-- CONSERVATION_RELEASE (R163). -/
def execConservationRelease (q : Req) (s : State) : Answer :=
  request .darkening (.conservationRelease q) 0x0B conservationOnly q s fun s =>
    match gallerySel q.gallery with
    | .bad => refuse s .range
    | .one g =>
      let r := s.consRelease g
      (r.1, .ok, r.2.toNat)
    | .all =>
      let r := forMask State.consRelease s
      (r.1, .ok, r.2)

/-! ## Sources the part adds by itself -/

/-- EXHAUSTION_CHANGE_NOTICE (R164). -/
def execExhaustionChangeNotice (g : Gallery) (exhausted : Bool) (s : State) : Answer :=
  deliver .darkening (.exhaustionChangeNotice g exhausted) s fun s =>
    if exhausted then (if darkOnExhaust (s.darkRec g).env then s.join g .exhaust false else s)
    else s.leave g .exhaust .exhaustionCleared

/-- A Lighting presence notice reporting ABSENT at one gallery (R164). -/
def State.silenceJoins (g : Gallery) (s : State) : State :=
  if darkOnLightSilence (s.darkRec g).env then s.join g .lightSilence false else s

/-- PRESENCE_NOTICE_AT_DARKENING (R164). -/
def execPresenceNoticeAtDarkening (p : Presence) (s : State) : Answer :=
  deliver .darkening (.presenceNoticeAtDarkening p) s fun s =>
    match p with
    | .absent => forGalleries State.silenceJoins s
    | .present => forGalleries (fun g s => s.leave g .lightSilence .lightingPresent) s
    | .unknown => s

/-! ## Trigger inputs -/

/-- Whether a mask holds a gallery (R165). -/
def inMask (m : BitVec 6) (g : Gallery) : Bool := m.getLsbD (galleryNum g)

/-- The controller takes pin events: the part runs and the controller has taken its start notice, at which it takes the
levels as they stand (R168). -/
def State.takesTriggers (s : State) : Bool := s.phase == .running && !(s.awaiting.contains .darkening)

/-- A rise of a trigger input that the controller takes (R165). -/
def State.rise (s : State) (x : Trigger) : State :=
  let c := s.ret.triggers.get x
  if c.disabled then s
  else forGalleries (fun g s => if inMask c.mask g then s.join g (inputSource x) false else s) s

/-- TRIGGER_RISE (R165): the filtered level of an inactive input becomes active. -/
def execTriggerRise (x : Trigger) (s : State) : Answer :=
  if s.trigger.get x then .next s
  else if s.takesTriggers then .next ((s.setTriggerLevel x true).rise x).seal
  else .next (s.setTriggerLevel x true)

/-- A fall of a trigger input that the controller takes (R165). -/
def State.fall (s : State) (x : Trigger) : State :=
  if (s.ret.triggers.get x).autoRelease then forGalleries (fun g s => s.leave g (inputSource x) (fallCause x)) s else s

/-- TRIGGER_FALL (R165): the filtered level of an active input becomes inactive. -/
def execTriggerFall (x : Trigger) (s : State) : Answer :=
  if s.trigger.get x then
    if s.takesTriggers then .next ((s.setTriggerLevel x false).fall x).seal
    else .next (s.setTriggerLevel x false)
  else .next s

/-- The trigger input a sub-argument names (R166). -/
def triggerOf : Nat → Option Trigger
  | 0 => some .a
  | 1 => some .b
  | _ => none

/-- The configuration a TRIGGER SETUP value carries (R166). -/
def triggerCfgOf (v : Half) : TriggerCfg := ⟨v.truncate 6, v.getLsbD 6, v.getLsbD 7⟩

/-- TRIGGER_SETUP (R166). -/
def execTriggerSetup (q : Req) (s : State) : Answer :=
  request .darkening (.triggerSetup q) 0x21 conservationOnly q s fun s =>
    match triggerOf q.sub.toNat with
    | none => refuse s .range
    | some x =>
      if 256 ≤ q.value.toNat then refuse s .range
      else (s.setTriggerCfg x (triggerCfgOf q.value), .ok, triggerValue (triggerCfgOf q.value) (s.trigger.get x))

end Sys2Proof.Machine
end

