-- ==== Sys2Proof/Machine/Envelopes.lean ====
section
/-! DEFINITION. The envelope table: the 19 fields with their ranges and loan directions, staged writes, DISCARD, COMMIT with
its checks, LOAN LOCK, and the application of commits at the hour mark (R55 to R69). -/

namespace Sys2Proof.Machine

/-- The fields by number (R56). -/
def envFields : List EnvField :=
  [.lmax, .lmin, .lclosed, .lhard, .ldark, .uref, .budget, .period, .hset, .hband, .hswing, .tmin, .tmax, .tswing,
    .ostart, .oend, .weekdays, .delay, .policy]

/-- The number of a field (R56). -/
def envFieldNum : EnvField → Nat
  | .lmax => 0
  | .lmin => 1
  | .lclosed => 2
  | .lhard => 3
  | .ldark => 4
  | .uref => 5
  | .budget => 6
  | .period => 7
  | .hset => 8
  | .hband => 9
  | .hswing => 10
  | .tmin => 11
  | .tmax => 12
  | .tswing => 13
  | .ostart => 14
  | .oend => 15
  | .weekdays => 16
  | .delay => 17
  | .policy => 18

/-- A field's value. -/
def envGet (e : Envelope) : EnvField → Nat
  | .lmax => e.lmax
  | .lmin => e.lmin
  | .lclosed => e.lclosed
  | .lhard => e.lhard
  | .ldark => e.ldark
  | .uref => e.uref
  | .budget => e.budget
  | .period => e.period
  | .hset => e.hset
  | .hband => e.hband
  | .hswing => e.hswing
  | .tmin => e.tmin
  | .tmax => e.tmax
  | .tswing => e.tswing
  | .ostart => e.ostart
  | .oend => e.oend
  | .weekdays => e.weekdays
  | .delay => e.delay
  | .policy => e.policy

/-- An envelope with one field written. -/
def envSet (e : Envelope) (f : EnvField) (v : Nat) : Envelope :=
  match f with
  | .lmax => { e with lmax := v }
  | .lmin => { e with lmin := v }
  | .lclosed => { e with lclosed := v }
  | .lhard => { e with lhard := v }
  | .ldark => { e with ldark := v }
  | .uref => { e with uref := v }
  | .budget => { e with budget := v }
  | .period => { e with period := v }
  | .hset => { e with hset := v }
  | .hband => { e with hband := v }
  | .hswing => { e with hswing := v }
  | .tmin => { e with tmin := v }
  | .tmax => { e with tmax := v }
  | .tswing => { e with tswing := v }
  | .ostart => { e with ostart := v }
  | .oend => { e with oend := v }
  | .weekdays => { e with weekdays := v }
  | .delay => { e with delay := v }
  | .policy => { e with policy := v }

/-- A field's range (R56). -/
def envRange : EnvField → Nat × Nat
  | .lmax => (0, 1000)
  | .lmin => (0, 1000)
  | .lclosed => (0, 1000)
  | .lhard => (1, 6000)
  | .ldark => (0, 1000)
  | .uref => (100, 20000)
  | .budget => (1, 40000)
  | .period => (28, 400)
  | .hset => (2000, 8000)
  | .hband => (100, 2000)
  | .hswing => (100, 3000)
  | .tmin => (4000, 7000)
  | .tmax => (5000, 8000)
  | .tswing => (50, 1500)
  | .ostart => (0, 23)
  | .oend => (1, 24)
  | .weekdays => (0, 127)
  | .delay => (0, 7)
  | .policy => (0, 3)

/-- A value clamped to a field's range (R58). -/
def envClamp (f : EnvField) (v : Nat) : Nat := clampNat (envRange f).1 (envRange f).2 v

/-- The loan directions (R56). -/
inductive LoanDirection where
  | decreaseOnly | increaseOnly | noChange | free | bitsMayBeSet
  deriving DecidableEq, Repr

/-- A field's loan direction (R56). -/
def loanDirection : EnvField → LoanDirection
  | .lmax => .decreaseOnly
  | .lmin => .decreaseOnly
  | .lclosed => .decreaseOnly
  | .lhard => .decreaseOnly
  | .ldark => .decreaseOnly
  | .uref => .decreaseOnly
  | .budget => .decreaseOnly
  | .period => .increaseOnly
  | .hset => .noChange
  | .hband => .decreaseOnly
  | .hswing => .decreaseOnly
  | .tmin => .increaseOnly
  | .tmax => .decreaseOnly
  | .tswing => .decreaseOnly
  | .ostart => .free
  | .oend => .free
  | .weekdays => .free
  | .delay => .free
  | .policy => .bitsMayBeSet

/-- Whether a loan permits value `v` against the active value `a` (R59). -/
def loanPermits (d : LoanDirection) (a v : Nat) : Bool :=
  match d with
  | .decreaseOnly => v ≤ a
  | .increaseOnly => a ≤ v
  | .noChange => v = a
  | .free => true
  | .bitsMayBeSet => a &&& v = a

/-- The number of the first consistency check that fails, 1 to 6 (R63). -/
def firstFailedCheck (e : Envelope) : Option Nat :=
  if ¬ e.lmin ≤ e.lmax then some 1
  else if ¬ e.lclosed ≤ e.lmax then some 2
  else if ¬ e.lmax < e.lhard then some 3
  else if ¬ e.ldark < e.lhard then some 4
  else if ¬ e.tmin < e.tmax then some 5
  else if ¬ e.ostart < e.oend then some 6
  else none

/-- The first field, 0 to 18 in turn, that violates its loan direction against the active envelope (R62, step 2). -/
def firstLoanViolation (active staged : Envelope) : Option EnvField :=
  envFields.find? fun f => !loanPermits (loanDirection f) (envGet active f) (envGet staged f)

/-! ## Requests -/

/-- How WRITE STAGED judges one gallery, with the data of its refusal (R57, steps 1 to 3). -/
def judgeStaged (s : State) (f : EnvField) (v : Nat) (g : Gallery) : Option (Result × Nat) :=
  if (s.envStaged g).commitPending then some (.pending, 0)
  else if s.loanLock g && !loanPermits (loanDirection f) (envGet (s.active g) f) v then
    some (.locked, envGet (s.active g) f)
  else none

/-- A field of a gallery's staged envelope is written (R57, step 4). -/
def State.writeStaged (s : State) (f : EnvField) (v : Nat) (g : Gallery) : State :=
  s.setEnvStaged g { s.envStaged g with staged := envSet (s.envStaged g).staged f v }

/-- WRITE_STAGED (R57 to R60). -/
def execWriteStaged (q : Req) (s : State) : Answer :=
  request .envelope (.writeStaged q) 0x10 conservationOnly q s fun s =>
    match envFields[q.sub.toNat]? with
    | none => refuse s .range
    | some f =>
      let v := envClamp f q.value.toNat
      let r : Result := if v = q.value.toNat then .ok else .clamped
      match gallerySel q.gallery with
      | .bad => refuse s .range
      | .one g =>
        match judgeStaged s f v g with
        | some (res, d) => (s, res, d)
        | none => (s.writeStaged f v g, r, v)
      | .all =>
        judgeAll s (fun g => (judgeStaged s f v g).map fun p => (p.1, 0)) (fun g s => s.writeStaged f v g) r v

/-- The active envelope becomes the staged one and a pending commit is cancelled (R61). -/
def State.discardStaged (s : State) (g : Gallery) : State := s.setEnvStaged g ⟨s.active g, false⟩

/-- DISCARD (R61). -/
def execDiscard (q : Req) (s : State) : Answer :=
  request .envelope (.discard q) 0x12 conservationOnly q s fun s =>
    match gallerySel q.gallery with
    | .bad => refuse s .range
    | .one g => (s.discardStaged g, .ok, 0)
    | .all => (forGalleries (fun g s => s.discardStaged g) s, .ok, 0)

/-- How COMMIT judges one gallery, with the field or check its refusal names (R62, R63). -/
def judgeCommit (s : State) (g : Gallery) : Option (Result × Nat) :=
  let e := s.envStaged g
  if e.commitPending then some (.pending, 0)
  else
    match (if s.loanLock g then firstLoanViolation (s.active g) e.staged else none) with
    | some f => some (.locked, envFieldNum f)
    | none =>
      match firstFailedCheck e.staged with
      | some n => some (.inconsistent, n)
      | none => none

/-- Commit pending is set (R62, step 4). -/
def State.setCommit (s : State) (g : Gallery) : State :=
  s.setEnvStaged g { s.envStaged g with commitPending := true }

/-- COMMIT (R62 to R64). The data of the OK reply for gallery 7 is 0, which R64 does not name (log entry 34). -/
def execCommit (q : Req) (s : State) : Answer :=
  request .envelope (.commit q) 0x11 conservationOnly q s fun s =>
    match gallerySel q.gallery with
    | .bad => refuse s .range
    | .one g =>
      match judgeCommit s g with
      | some (res, d) => (s, res, d)
      | none => (s.setCommit g, .ok, 0)
    | .all => judgeAll s (judgeCommit s) (fun g s => s.setCommit g) .ok 0

/-- The loan lock takes a setting (R69). -/
def State.setLoan (s : State) (g : Gallery) (on : Bool) : State :=
  s.setEnvRet g { s.ret.env.get g with loanLock := on }

/-- LOAN_LOCK (R69). The OK reply for gallery 7 carries the data of a single gallery, which the rule does not name there (log
entry 34). -/
def execLoanLock (q : Req) (s : State) : Answer :=
  request .envelope (.loanLock q) 0x13 conservationOnly q s fun s =>
    let on := q.value != 0
    let judge := fun g => if (s.envStaged g).commitPending then some (Result.pending, 0) else none
    match gallerySel q.gallery with
    | .bad => refuse s .range
    | .one g =>
      match judge g with
      | some (res, d) => (s, res, d)
      | none => (s.setLoan g on, .ok, on.toNat)
    | .all => judgeAll s judge (fun g s => s.setLoan g on) .ok on.toNat

/-! ## The hour mark -/

/-- The fields whose values differ (R66). -/
def changedFields (old new : Envelope) : List EnvField := envFields.filter fun f => envGet old f != envGet new f

/-- The envelope changed notice to its three recipients (R66). -/
def State.sendEnvelopeChange (s : State) (e : EnvelopeChange) : State :=
  ((s.send (.envelopeChangedAtLight e)).send (.envelopeChangedAtClimate e)).send (.envelopeChangedAtDarkening e)

/-- A pending commit is applied; a gallery with nothing pending is not touched (R65). -/
def State.applyCommit (s : State) (g : Gallery) : State :=
  let e := s.envStaged g
  if e.commitPending then
    let old := s.active g
    (((s.setEnvRet g { s.ret.env.get g with active := e.staged }).setEnvStaged g { e with commitPending := false
      }).sendEnvelopeChange ⟨g, e.staged, changedFields old e.staged⟩).attend .envelopeCommitted (some g)
  else s

/-- HOUR_MARK_AT_ENVELOPE (R65, R66). -/
def execHourMarkAtEnvelope (m : HourMark) (s : State) : Answer :=
  deliver .envelope (.hourMarkAtEnvelope m) s fun s => forGalleries (fun g s => s.applyCommit g) s

end Sys2Proof.Machine
end

