-- ==== Sys2Proof/Machine/Acquisition.lean ====
section
/-! DEFINITION. The acquisition unit: sample arrivals, correction, channel states, rail faults, ZERO and SPAN calibration,
the self-check sequencer's notices, and WRITE CHANNEL for the correction fields (R1 to R19). -/

namespace Sys2Proof.Machine

/-! ## Correction -/

/-- The offset-subtracted code *d*, clamped to 0 … 65535 (R3, step 1). -/
def offsetCode (cfg : ChanCfg) (r : Nat) : Nat := (clampInt 0 65535 (r - cfg.offset)).toNat

/-- The corrected code (R3). -/
def correct (cfg : ChanCfg) (k : Kind) (r : Nat) : Nat :=
  min (ceiling k) (min 65535 ((offsetCode cfg r * cfg.gain + 512) / 1024))

/-! ## Channel states -/

/-- A channel counts as faulted while it is in FAULT, or in CHECKING with a FAULT saved (R10). -/
def isFaulted (r : ChanRec) : Bool :=
  match r.state, r.saved with
  | .fault _, _ => true
  | .checking, some (.fault _) => true
  | _, _ => false

/-- How many channels of a gallery count as faulted (R10). -/
def countFaulted (t : PerKind ChanRec) : Nat :=
  (isFaulted t.lux).toNat + (isFaulted t.uv).toNat + (isFaulted t.rh).toNat + (isFaulted t.temp).toNat

/-- The faulted count of a gallery is counted again, and the excursion log is told when it rises from 0, rises further or
falls to 0 (R10). -/
def State.recountFaulted (s : State) (g : Gallery) : State :=
  let old := s.acq.faulted.get g
  let n := countFaulted (s.acq.chans.get g)
  let s := s.setFaulted g n
  if old = 0 ∧ 0 < n then s.send (.openNotice g .sensorFault 0 n)
  else if old < n then s.send (.valueNotice g .sensorFault n)
  else if 0 < old ∧ n = 0 then s.send (.closeNotice g .sensorFault)
  else s

/-- The check-fault flag after a channel enters a state: set in FAULT with cause CHECK, cleared in OK and DISABLED (R4). -/
def checkFaultAfter (st : ChanState) (flag : Bool) : Bool :=
  match st with
  | .fault .check => true
  | .ok => false
  | .disabled => false
  | _ => flag

/-- A channel changes state: its record becomes `r`, the check-fault flag follows (R4), the channel state change notice is
sent (R9) and the faulted count is kept (R10). -/
def State.enterState (s : State) (c : Chan) (r : ChanRec) (recovery uninit : Bool) : State :=
  let old := (s.chan c).state
  let s := (s.setChan c r).setCheckFault c (checkFaultAfter r.state (s.checkFault c))
  (s.sendStateChange ⟨c, old, r.state, recovery, uninit⟩).recountFaulted c.g

/-- The record of a channel that enters `st` with counters 0 and no saved state (R4). -/
def ChanRec.moved (r : ChanRec) (st : ChanState) : ChanRec :=
  { r with state := st, railCount := 0, goodRun := 0, saved := none }

/-! ## Calibration -/

/-- The calibration of a channel ends: the context becomes idle, the record takes the result and the new value, and
CALIBRATION_DONE is sent (R18, R19). -/
def State.endCal (s : State) (c : Chan) (res : CalResult) (new : Option Int) : State :=
  let r := s.chan c
  ((s.setChan c { r with cal := { r.cal with result := res, new := new } }).setCal none).attend .calibrationDone (some c.g)

/-- A running calibration that `hit` names ends ABORTED (R18). -/
def State.abortCal (s : State) (hit : Chan → Bool) : State :=
  match s.acq.cal with
  | some x => if hit x.chan then s.endCal x.chan .aborted none else s
  | none => s

/-- The deviation of the gain from 1024 that a SPAN may set (R2). -/
def corrDeviation : Nat → Nat
  | 0 => 205
  | 1 => 102
  | 2 => 410
  | _ => 0

/-- A calibration that computed `raw` and writes `v`: APPLIED when the clamps left it, CLAMPED otherwise; then the re-settle
notice with old and new state OK and the recovery flag (R16, R17, R19). -/
def State.applyCal (s : State) (c : Chan) (cfg : ChanCfg) (v : Int) (unclamped : Bool) : State :=
  ((s.setCfg c cfg).endCal c (if unclamped then .applied else .clamped) (some v)).sendStateChange ⟨c, .ok, .ok, true, false⟩

/-- A SPAN completes (R16). -/
def State.completeSpan (s : State) (x : CalContext) : State :=
  let cfg := s.cfg x.chan
  let avg := x.sum / 16
  if avg = 0 then s.endCal x.chan .failed none
  else
    let g := (x.ref * 1024 + avg / 2) / avg
    let dev := corrDeviation cfg.corrLimit
    let g1 := clampNat (1024 - dev) (1024 + dev) g
    let g2 := clampNat 512 2047 g1
    s.applyCal x.chan { cfg with gain := g2 } g2 (g1 = g && g2 = g1)

/-- A ZERO completes (R17). -/
def State.completeZero (s : State) (x : CalContext) : State :=
  let cfg := s.cfg x.chan
  let avg := x.sum / 16
  let o : Int := avg - ((x.ref * 1024 + cfg.gain / 2) / cfg.gain : Nat)
  let o1 := clampInt (-512) 511 o
  s.applyCal x.chan { cfg with offset := o1 } o1 (o1 = o)

/-- The context takes a sample arrival of its channel: a good sample adds to the sum and the sixteenth completes the
calibration; a rail sample aborts it (R15, R18). -/
def State.calSample (s : State) (c : Chan) (r : Nat) : State :=
  match s.acq.cal with
  | none => s
  | some x =>
    if x.chan ≠ c then s
    else if isRail r then s.endCal c .aborted none
    else
      let add := match x.op with
        | .zero => r
        | .span => offsetCode (s.cfg c) r
      let x := { x with count := x.count + 1, sum := x.sum + add }
      if x.count < 16 then s.setCal (some x)
      else match x.op with
        | .span => s.completeSpan x
        | .zero => s.completeZero x

/-! ## Sample arrivals -/

/-- A good sample is corrected and passed on to the tracking filter bank (R3). -/
def State.passOn (s : State) (c : Chan) (r : Nat) : State :=
  let x := correct (s.cfg c) c.k r
  (s.setChan c { s.chan c with lastCorrected := some x }).send (.correctedSampleNotice c x)

/-- What the channel's state machine makes of a sample arrival that is not discarded (R5, R6). -/
def State.chanSample (s : State) (c : Chan) (r : Nat) : State :=
  let rec0 := s.chan c
  let rec1 := { rec0 with lastRaw := some r }
  match rec0.state with
  | .ok =>
    if isRail r then s.enterState c { rec1.moved .suspect with railCount := 1 } false false
    else (s.setChan c { rec1 with railCount := 0 }).passOn c r
  | .suspect =>
    if isRail r then
      if rec0.railCount + 1 < 3 then s.setChan c { rec1 with railCount := rec0.railCount + 1 }
      else (s.enterState c (rec1.moved (.fault .rail)) false false).attend .channelFault (some c.g)
    else (s.enterState c (rec1.moved .ok) false false).passOn c r
  | .fault .rail =>
    if isRail r then s.setChan c { rec1 with goodRun := 0 }
    else if rec0.goodRun + 1 < 8 then s.setChan c { rec1 with goodRun := rec0.goodRun + 1 }
    else (s.enterState c (rec1.moved .ok) true false).passOn c r
  | _ => s

/-- Whether R1 discards the arrivals of a channel in this state. -/
def discards : ChanState → Bool
  | .ok => false
  | .suspect => false
  | .fault .rail => false
  | .fault .check => true
  | .checking => true
  | .disabled => true

/-- A sample arrival (R1, R5, R6, R15): the channel's state machine takes it, and then the calibration context. -/
def State.arrive (s : State) (c : Chan) (r : Nat) : State :=
  if discards (s.chan c).state then s else (s.chanSample c r).calSample c r

/-- The delivery of a sample arrival to the acquisition unit. -/
def arrival (c : Chan) (r : Half) (s : State) : Answer :=
  deliver .acquisition (.sampleArrival c r) s fun s => s.arrive c r.toNat

/-- SAMPLE_ARRIVAL (R1). -/
def execSampleArrival (c : Chan) (r : Half) (s : State) : Answer := arrival c r s

/-- The arrival is the third rail code in a row of a SUSPECT channel (R5). -/
def isRailFault (s : State) (c : Chan) (r : Nat) : Bool :=
  (s.chan c).state == .suspect && isRail r && 3 ≤ (s.chan c).railCount + 1

/-- RAIL_FAULT (R5): the sample arrival that brings a SUSPECT channel's rail count to 3. -/
def execRailFault (c : Chan) (r : Half) (s : State) : Answer :=
  onlyWhen (isRailFault s c r.toNat) s (arrival c r s)

/-- The arrival is the eighth good code in a row of a channel in FAULT with cause RAIL (R6). -/
def isRailRecovery (s : State) (c : Chan) (r : Nat) : Bool :=
  (s.chan c).state == .fault .rail && !isRail r && 8 ≤ (s.chan c).goodRun + 1

/-- RAIL_RECOVERY (R6): the sample arrival that brings the good-run count to 8. -/
def execRailRecovery (c : Chan) (r : Half) (s : State) : Answer :=
  onlyWhen (isRailRecovery s c r.toNat) s (arrival c r s)

/-- The arrival is the sixteenth good sample of a running calibration of the channel by `op` (R15). -/
def completesCal (s : State) (op : CalOp) (c : Chan) (r : Nat) : Bool :=
  match s.acq.cal with
  | some x => x.chan = c && x.op == op && 16 ≤ x.count + 1 && !discards (s.chan c).state && !isRail r
  | none => false

/-- SPAN_COMPLETION (R16): the sample arrival that completes a SPAN. -/
def execSpanCompletion (c : Chan) (r : Half) (s : State) : Answer :=
  onlyWhen (completesCal s .span c r.toNat) s (arrival c r s)

/-- ZERO_COMPLETION (R17): the sample arrival that completes a ZERO. -/
def execZeroCompletion (c : Chan) (r : Half) (s : State) : Answer :=
  onlyWhen (completesCal s .zero c r.toNat) s (arrival c r s)

/-! ## The self-check sequencer's notices -/

/-- GALLERY_START_NOTICE (R8). -/
def execGalleryStartNotice (g : Gallery) (s : State) : Answer :=
  deliver .acquisition (.galleryStartNotice g) s fun s => s.abortCal fun c => c.g = g

/-- The saved state of a channel that a check takes from this state; none when the notice is ignored (R8). -/
def savedOf : ChanState → Option SavedState
  | .ok => some .ok
  | .suspect => some .suspect
  | .fault c => some (.fault c)
  | .checking => none
  | .disabled => none

/-- The state a saved state names (R8). -/
def stateOf : SavedState → ChanState
  | .ok => .ok
  | .suspect => .suspect
  | .fault c => .fault c

/-- CHANNEL_ENTER_NOTICE (R8). -/
def execChannelEnterNotice (c : Chan) (s : State) : Answer :=
  deliver .acquisition (.channelEnterNotice c) s fun s =>
    let r := s.chan c
    match savedOf r.state with
    | some sv => (s.abortCal fun d => d = c).enterState c { (s.abortCal fun d => d = c).chan c with
        state := .checking, railCount := 0, goodRun := 0, saved := some sv } false false
    | none => s

/-- The saved state of a CHECKING channel was FAULT of either cause (R8). -/
def savedFault : Option SavedState → Bool
  | some (.fault _) => true
  | _ => false

/-- VERDICT_NOTICE (R8). -/
def execVerdictNotice (c : Chan) (v : ChannelVerdict) (s : State) : Answer :=
  deliver .acquisition (.verdictNotice c v) s fun s =>
    let r := s.chan c
    if r.state = .checking then
      match v with
      | .fail => (s.enterState c (r.moved (.fault .check)) false false).attend .channelFault (some c.g)
      | _ => s.enterState c (r.moved .ok) (savedFault r.saved) false
    else s

/-- CHANNEL_ABORT_NOTICE (R8). -/
def execChannelAbortNotice (c : Chan) (s : State) : Answer :=
  deliver .acquisition (.channelAbortNotice c) s fun s =>
    let r := s.chan c
    if r.state = .checking then
      s.enterState c (r.moved (match r.saved with | some sv => stateOf sv | none => .ok)) false false
    else s

/-! ## WRITE CHANNEL -/

/-- OK when a clamp left the value, CLAMPED when it did not (R11). -/
def clampResult (same : Bool) : Result := if same then .ok else .clamped

/-- WRITE CHANNEL's addressing (R11): one channel, or the channels of the kind in all six galleries, judged first as a
whole. -/
def writeChannel (i : Instr) (code : Nat) (q : Req) (s : State) (judge : State → Chan → Option Result)
    (apply : Chan → State → State) (r : Result) (data : Nat) : Answer :=
  request .acquisition i code conservationOnly q s fun s =>
    match gallerySel q.gallery with
    | .bad => refuse s .range
    | .one g =>
      match judge s ⟨g, subKind q⟩ with
      | some res => refuse s res
      | none => (apply ⟨g, subKind q⟩ s, r, data)
    | .all =>
      judgeAll s (fun g => (judge s ⟨g, subKind q⟩).map fun res => (res, 0)) (fun g => apply ⟨g, subKind q⟩) r data

/-- A field that is never refused (R13, R34). -/
def neverRefused (_ : State) (_ : Chan) : Option Result := none

/-- A GAIN or OFFSET write is refused while a calibration runs on the channel or it is CHECKING (R12). -/
def busyChannel (s : State) (c : Chan) : Option Result :=
  if (match s.acq.cal with | some x => x.chan = c | none => false) || (s.chan c).state == .checking then some .busy
  else none

/-- A channel is disabled (R11). -/
def State.disableChan (s : State) (c : Chan) : State :=
  if (s.chan c).state = .disabled then s
  else
    let s := s.abortCal fun d => d = c
    (s.setCfg c { s.cfg c with enabled := false }).enterState c ((s.chan c).moved .disabled) false false

/-- A DISABLED channel is enabled (R11). -/
def State.enableChan (s : State) (c : Chan) : State :=
  if (s.chan c).state = .disabled then
    (s.setCfg c { s.cfg c with enabled := true }).enterState c
      { (s.chan c).moved .ok with lastRaw := none, lastCorrected := none } false true
  else s

/-- WRITE_CHANNEL_ENABLE (R11). -/
def execWriteChannelEnable (q : Req) (s : State) : Answer :=
  writeChannel (.writeChannelEnable q) 0x18 q s neverRefused
    (fun c s => if q.value = 0 then s.disableChan c else s.enableChan c) .ok (if q.value = 0 then 0 else 1)

/-- WRITE_CHANNEL_GAIN (R12). -/
def execWriteChannelGain (q : Req) (s : State) : Answer :=
  let v := clampNat 512 2047 q.value.toNat
  writeChannel (.writeChannelGain q) 0x18 q s busyChannel (fun c s => s.setCfg c { s.cfg c with gain := v })
    (clampResult (v = q.value.toNat)) v

/-- WRITE_CHANNEL_OFFSET (R12): the value is taken as a signed 16-bit number. -/
def execWriteChannelOffset (q : Req) (s : State) : Answer :=
  let v := clampInt (-512) 511 q.value.toInt
  writeChannel (.writeChannelOffset q) 0x18 q s busyChannel (fun c s => s.setCfg c { s.cfg c with offset := v })
    (clampResult (v = q.value.toInt)) (halfInt v).toNat

/-- WRITE_CHANNEL_CORRECTION_LIMIT (R12). -/
def execWriteChannelCorrectionLimit (q : Req) (s : State) : Answer :=
  let v := clampNat 0 3 q.value.toNat
  writeChannel (.writeChannelCorrectionLimit q) 0x18 q s neverRefused
    (fun c s => s.setCfg c { s.cfg c with corrLimit := v }) (clampResult (v = q.value.toNat)) v

/-- WRITE_CHANNEL_DEVIATION_UNIT (R13). -/
def execWriteChannelDeviationUnit (q : Req) (s : State) : Answer :=
  let v := clampNat 1 4096 q.value.toNat
  writeChannel (.writeChannelDeviationUnit q) 0x18 q s neverRefused
    (fun c s => s.setCfg c { s.cfg c with du := v }) (clampResult (v = q.value.toNat)) v

/-! ## CALIBRATE -/

/-- CALIBRATE (R14). The data of the ACCEPTED reply is 0, which the rule does not name (log entry 34). -/
def calibrate (i : Instr) (op : CalOp) (q : Req) (s : State) : Answer :=
  request .acquisition i 0x1A conservationOnly q s fun s =>
    match gallerySel q.gallery with
    | .one g =>
      let c : Chan := ⟨g, subKind q⟩
      if s.acq.cal.isSome then refuse s .busy
      else if (s.chan c).state ≠ .ok then refuse s .busy
      else
        let prev : Int := match op with
          | .zero => (s.cfg c).offset
          | .span => ((s.cfg c).gain : Int)
        ((s.setCal (some ⟨c, op, q.value.toNat, 0, 0⟩)).setChan c
          { s.chan c with cal := ⟨some op, .running, some prev, none⟩ }, .accepted, 0)
    | _ => refuse s .range

/-- CALIBRATE_ZERO (R14). -/
def execCalibrateZero (q : Req) (s : State) : Answer := calibrate (.calibrateZero q) .zero q s

/-- CALIBRATE_SPAN (R14). -/
def execCalibrateSpan (q : Req) (s : State) : Answer := calibrate (.calibrateSpan q) .span q s

end Sys2Proof.Machine
end

