-- ==== Sys2Proof/Machine/Filter.lean ====
section
/-! DEFINITION. The tracking filter bank: initialisation, the deviation and its readout, the three gain modes, the step,
holding and re-settling, the tracked update notice, and WRITE CHANNEL for the filter fields (R22 to R35). -/

namespace Sys2Proof.Machine

/-- The tracked code floor((*X* + 8) / 16), absent in UNINITIALISED (R22, R29). -/
def trackedCode (t : Tracker) : Option Nat := if t.tracking then some ((t.x + 8) / 16) else none

/-- The deviation *D* of a corrected code, in sixteenths (R25, step 1). -/
def deviation (t : Tracker) (x : Nat) : Int := (x * 16 : Nat) - (t.x : Int)

/-- The deviation readout: *D* in quarters of a deviation unit, truncated toward zero and saturated (R30). -/
def readoutOf (d : Int) (du : Nat) : Int := clampInt (-127) 127 (d.tdiv (4 * du : Nat))

/-- The target shift of STEPPED mode for a deviation of magnitude `m` sixteenths (R26). -/
def targetShift (m du : Nat) : Nat :=
  let u := 16 * du
  if 32 * u ≤ m then 0
  else if 16 * u ≤ m then 1
  else if 8 * u ≤ m then 2
  else if 4 * u ≤ m then 3
  else if 2 * u ≤ m then 4
  else if u ≤ m then 5
  else 6

/-- The gain shift and the settling flag a mode chooses for a deviation of magnitude `m` sixteenths (R26, R27, R28). -/
def chooseShift (cfg : ChanCfg) (shift : Nat) (settling : Bool) (m : Nat) : Nat × Bool :=
  let u := 16 * cfg.du
  match cfg.mode with
  | .stepped =>
    let target := targetShift m cfg.du
    let moved := if target < shift then target else if shift < target then shift + 1 else shift
    if settling then
      let v := clampNat 0 cfg.slow moved
      (v, decide (v < cfg.fast))
    else (clampNat cfg.fast cfg.slow moved, false)
  | .twoLevel =>
    if settling then (if 8 * u ≤ m then (0, true) else (cfg.slow, false))
    else if 24 * u ≤ m then (cfg.fast, false)
    else if m < 8 * u then (cfg.slow, false)
    else (shift, false)
  | .fixed => if settling && decide (8 * u ≤ m) then (0, true) else (cfg.slow, false)

/-- The step: *D* divided by 2 to the gain shift, truncated toward zero, and at least one sixteenth in magnitude when *D*
is not 0 (R29). -/
def stepOf (d : Int) (shift : Nat) : Int :=
  let q := d.tdiv (2 ^ shift : Nat)
  if q = 0 then d.sign else q

/-- The tracker after a corrected code (R24, R25). -/
def Tracker.take (t : Tracker) (cfg : ChanCfg) (x : Nat) : Tracker :=
  if t.tracking then
    let d := deviation t x
    let c := chooseShift cfg t.shift t.settling d.natAbs
    { t with readout := some (readoutOf d cfg.du), shift := c.1, settling := c.2, x := (t.x + stepOf d c.1).toNat }
  else { t with tracking := true, x := x * 16, shift := 0, settling := true, readout := none }

/-- CORRECTED_SAMPLE_NOTICE (R24, R25, R33). -/
def execCorrectedSampleNotice (c : Chan) (x : Nat) (s : State) : Answer :=
  deliver .filter (.correctedSampleNotice c x) s fun s =>
    let t := (s.tracker c).take (s.cfg c) x
    (s.setTracker c t).sendTracked ⟨c, .sample, trackedCode t, .ok, (s.cfg c).du⟩

/-- The tracker after a channel state change notice (R31, R32). -/
def Tracker.change (t : Tracker) (cfg : ChanCfg) (n : StateChange) : Tracker :=
  if n.uninit then { t with tracking := false, shift := 0, settling := false, readout := none, chanState := .ok }
  else if n.new = .ok ∧ n.recovery = true ∧ cfg.hold = false ∧ t.tracking = true then
    { t with chanState := n.new, shift := 0, settling := true }
  else { t with chanState := n.new }

/-- STATE_CHANGE_AT_FILTER (R31, R32, R33). -/
def execStateChangeAtFilter (n : StateChange) (s : State) : Answer :=
  deliver .filter (.stateChangeAtFilter n) s fun s =>
    let t := (s.tracker n.chan).change (s.cfg n.chan) n
    (s.setTracker n.chan t).sendTracked ⟨n.chan, .state, trackedCode t, t.chanState, (s.cfg n.chan).du⟩

/-! ## WRITE CHANNEL, the filter fields -/

/-- WRITE_CHANNEL_FILTER_MODE (R34). -/
def execWriteChannelFilterMode (q : Req) (s : State) : Answer :=
  let v := clampNat 0 2 q.value.toNat
  writeChannel (.writeChannelFilterMode q) 0x18 q s neverRefused
    (fun c s => s.setCfg c { s.cfg c with mode := modeOf v }) (clampResult (v = q.value.toNat)) v

/-- WRITE_CHANNEL_HOLD (R34). -/
def execWriteChannelHold (q : Req) (s : State) : Answer :=
  writeChannel (.writeChannelHold q) 0x19 q s neverRefused
    (fun c s => s.setCfg c { s.cfg c with hold := q.value != 0 }) .ok (if q.value = 0 then 0 else 1)

/-- An accepted limit write acts at once on the shift of a TRACKING tracker (R35). -/
def Tracker.reclamp (t : Tracker) (fast slow : Nat) : Tracker :=
  if t.tracking then { t with shift := clampNat (if t.settling then 0 else fast) slow t.shift } else t

/-- The channel's limits take their new values and its shift is clamped to them (R35). -/
def State.setLimits (s : State) (c : Chan) (fast slow : Nat) : State :=
  (s.setCfg c { s.cfg c with fast := fast, slow := slow }).setTracker c ((s.tracker c).reclamp fast slow)

/-- WRITE_CHANNEL_FAST_LIMIT (R35). -/
def execWriteChannelFastLimit (q : Req) (s : State) : Answer :=
  let v := clampNat 0 6 q.value.toNat
  writeChannel (.writeChannelFastLimit q) 0x18 q s
    (fun s c => if (s.cfg c).slow < v then some .inconsistent else none)
    (fun c s => s.setLimits c v (s.cfg c).slow) (clampResult (v = q.value.toNat)) v

/-- WRITE_CHANNEL_SLOW_LIMIT (R35). -/
def execWriteChannelSlowLimit (q : Req) (s : State) : Answer :=
  let v := clampNat 0 6 q.value.toNat
  writeChannel (.writeChannelSlowLimit q) 0x18 q s
    (fun s c => if v < (s.cfg c).fast then some .inconsistent else none)
    (fun c s => s.setLimits c (s.cfg c).fast v) (clampResult (v = q.value.toNat)) v

end Sys2Proof.Machine
end

