-- ==== Sys2Proof/Machine/Light.lean ====
section
/-! DEFINITION. The light account unit: accrual, the hour fold, budget periods, exhaustion, UV_HIGH, the allowance and its
recomputation, the lighting master's queries and declarations, LUX_OVER and DOSE_SHORT (R72 to R89, R94 to R108). -/

namespace Sys2Proof.Machine

/-! ## Inputs of a second -/

/-- The illuminance input *l* in L codes, and whether it sets the hour's L substituted flag (R74). -/
def illuminanceInput (st : ChanState) (code : Option Nat) (a : Nat) : Nat × Bool :=
  match st, code with
  | .disabled, _ => (0, false)
  | .fault _, some x => (max x (10 * a), true)
  | _, some x => (x, false)
  | _, none => (10 * a, true)

/-- The UV factor *F* (R75). -/
def uvFactor (st : ChanState) (code : Option Nat) (uref : Nat) : Nat :=
  match st, code with
  | .disabled, _ => 256
  | _, none => 256
  | _, some u => 256 + min 768 (256 * (u - uref) / uref)

/-- The top of the hour accumulator (R72, R76). -/
def maxHourAcc : Nat := 943704000

/-- The top of the used dose (R72). -/
def maxUsed : Nat := 4294967295

/-- The open-hour test (R48). -/
def isOpen (sc : Schedule) (w h : Nat) : Bool := sc.weekdays.testBit w && sc.ostart ≤ h && h < sc.oend

/-! ## Exhaustion -/

/-- The dose of the period in 0.1 lux-seconds: *U* × 36000 + carry + hour accumulator (R84). -/
def doseSum (a : Account) : Nat := a.used * 36000 + a.carry + a.hourAcc

/-- The condition of exhaustion (R84). -/
def isExhausted (a : Account) (e : Envelope) : Bool :=
  a.period.isSome && e.budget * 100 * 36000 ≤ doseSum a

/-- The dose *V* a DOSE_EXHAUSTED notice carries, in hundreds of lux-hours (R87). -/
def doseValue (a : Account) : Nat := doseSum a / 3600000

/-- Exhaustion is re-evaluated: a flag that changes sends the excursion log and the darkening controller their notices
(R84; steps 1 and 2 of R85 and R86). -/
def State.reevalExhausted (s : State) (g : Gallery) : State :=
  let a := s.account g
  let e := (s.lightRec g).env
  let x := isExhausted a e
  if x = a.exhausted then s
  else
    let s := s.setAccount g { a with exhausted := x }
    if x then
      (s.send (.openNotice g .doseExhausted e.budget (doseValue a))).send (.exhaustionChangeNotice g true)
    else (s.send (.closeNotice g .doseExhausted)).send (.exhaustionChangeNotice g false)

/-! ## The allowance -/

/-- The open days among the `n` days after one of weekday `w` (R95, step 3). -/
def openDays (weekdays w n : Nat) : Nat :=
  n / 7 * ((List.range 7).filter fun i => weekdays.testBit i).length +
    ((List.range (n % 7)).filter fun i => weekdays.testBit ((w + 1 + i) % 7)).length

/-- The open hours that remain in the budget period of a RUNNING account with day index `d`, at hour `h` of weekday `w`
(R95). -/
def remainingHours (e : Envelope) (d h w : Nat) : Nat :=
  let today := if e.weekdays.testBit w then e.oend - max h e.ostart else 0
  today + openDays e.weekdays w (e.period - 1 - d) * (e.oend - e.ostart)

/-- *H*rem, absent in NO_PERIOD (R95). -/
def hremOf (a : Account) (e : Envelope) (h w : Nat) : Option Nat :=
  a.period.map fun d => remainingHours e d h w

/-- The quotient *Q*, absent in NO_PERIOD, when exhausted, and when *H*rem is 0 (R95). -/
def quotOf (a : Account) (e : Envelope) (hrem : Option Nat) : Option Nat :=
  match hrem with
  | none => none
  | some n => if a.exhausted || n = 0 then none else some ((e.budget * 100 - a.used) / n)

/-- The allowance and the pace: the first line whose condition holds (R96). -/
def allowanceOf (dark exhausted openNow : Bool) (running : Bool) (lState : ChanState) (q : Option Nat) (e : Envelope) :
    Nat × Pace :=
  if dark then (0, .darkened)
  else if exhausted then (0, .exhausted)
  else if !openNow then (e.lclosed, .closed)
  else if !running then (e.lmax, .unbudgeted)
  else if lState = .disabled then (e.lmax, .suspended)
  else
    match q with
    | none => (e.lmin, .short)
    | some n =>
      if e.lmax ≤ n then (e.lmax, .ample) else if e.lmin ≤ n then (n, .onPace) else (e.lmin, .short)

/-- DOSE_SHORT is judged (R106). -/
def State.judgeDoseShort (s : State) (g : Gallery) (q : Option Nat) : State :=
  let a := s.account g
  let lmin := (s.lightRec g).env.lmin
  let close := (s.setAccount g { a with doseShort := false }).send (.closeNotice g .doseShort)
  match q with
  | some n =>
    if n < lmin then
      if a.doseShort then s.send (.valueNotice g .doseShort n)
      else (s.setAccount g { a with doseShort := true }).send (.openNotice g .doseShort lmin n)
    else if a.doseShort then close else s
  | none => if a.exhausted && a.doseShort then close else s

/-- A present declared level above the allowance is lowered to it (R98, step 3). -/
def lowerDeclared (d : Option Nat) (a : Nat) : Option Nat := d.map fun v => min v a

/-- The recomputation of a gallery's allowance (R98). -/
def State.recompute (s : State) (g : Gallery) : State :=
  let a := s.account g
  let r := s.lightRec g
  let h := hourOf s.clock
  let w := s.clock.weekday
  let hrem := hremOf a r.env h w
  let q := quotOf a r.env hrem
  let ap := allowanceOf r.dark a.exhausted (isOpen (scheduleOf r.env) w h) a.period.isSome r.lState q r.env
  let s := s.setLight g { r with
    hrem := hrem, quot := q, allowance := ap.1, pace := ap.2, declared := lowerDeclared r.declared ap.1 }
  let s := s.judgeDoseShort g q
  if ap.1 = r.allowance ∧ ap.2 = r.pace then s else s.attend .allowanceChanged (some g)

/-! ## The second mark -/

/-- The accrual of a second from input `l`, factor `f` and the L substituted flag of the second (R74, R76). -/
def Account.accrue (a : Account) (l f : Nat) (sub : Bool) : Account :=
  { a with hourAcc := min (a.hourAcc + l * f / 256) maxHourAcc, lSub := a.lSub || sub }

/-- The threshold *T* of the over-counter, in L codes (R103). -/
def overThreshold (r : LightRec) : Nat := 10 * (r.allowance + r.env.lmax / 8)

/-- The over-counter is stepped and LUX_OVER judged, with the input `l` of the second (R103, R104). -/
def State.judgeOver (s : State) (g : Gallery) (l : Nat) : State :=
  let r := s.lightRec g
  let a := s.account g
  let n := if r.dark then 0 else if overThreshold r < l then min (r.overCount + 1) 120 else 0
  let s := s.setLight g { r with overCount := n }
  if a.luxOver then
    if l ≤ 10 * r.allowance then (s.setAccount g { a with luxOver := false }).send (.closeNotice g .luxOver)
    else s.send (.valueNotice g .luxOver l)
  else if n = 120 ∧ r.overCount < 120 then
    (s.setAccount g { a with luxOver := true }).send (.openNotice g .luxOver (overThreshold r) l)
  else s

/-- The hour stamp is rebased after a SET DATE, and the allowance recomputed (R76, R108). -/
def State.rebase (s : State) (g : Gallery) : State :=
  let a := s.account g
  if hourOf s.clock = a.stamp.hour ∧ s.clock.day ≠ a.stamp.day then
    (s.setAccount g { a with stamp := { a.stamp with day := s.clock.day, weekday := s.clock.weekday } }).recompute g
  else s

/-- The re-evaluation of exhaustion outside an hour mark and an envelope changed notice: a change recomputes the allowance
(R84, R85, R86). -/
def State.reevalAndRecompute (s : State) (g : Gallery) : State :=
  let s' := s.reevalExhausted g
  if (s'.account g).exhausted = (s.account g).exhausted then s' else s'.recompute g

/-- A second mark at one gallery (R74 to R76, R84, R103, R104, R108). -/
def State.lightSecond (g : Gallery) (s : State) : State :=
  let r := s.lightRec g
  let li := illuminanceInput r.lState r.lCode r.allowance
  let f := uvFactor r.uState r.uCode r.env.uref
  let s := s.setAccount g ((s.account g).accrue li.1 f li.2)
  ((s.reevalAndRecompute g).rebase g).judgeOver g li.1

/-- The delivery of a second mark to the light account unit. -/
def lightMark (t : SecondStamp) (s : State) : Answer :=
  deliver .light (.secondMarkAtLight t) s (forGalleries State.lightSecond)

/-- SECOND_MARK_AT_LIGHT (R76). -/
def execSecondMarkAtLight (t : SecondStamp) (s : State) : Answer := lightMark t s

/-- The second mark opens LUX_OVER for the gallery, its over-counter having risen to 120 (R104). -/
def overExpires (s : State) (g : Gallery) : Bool :=
  !(s.account g).luxOver && ((s.lightSecond g).account g).luxOver

/-- OVER_COUNTER_EXPIRY (R104): the second mark at which the gallery's over-counter reaches 120. -/
def execOverCounterExpiry (g : Gallery) (t : SecondStamp) (s : State) : Answer :=
  onlyWhen (overExpires s g) s (lightMark t s)

/-! ## The hour mark -/

/-- What the fold of an hour makes of the dose fields of an account (R77). -/
def Account.fold (a : Account) : Account :=
  let total := a.carry + a.hourAcc
  let lxh := total / 36000
  { a with
    carry := total - lxh * 36000, hourAcc := 0,
    used := if a.period.isSome then min (a.used + lxh) maxUsed else a.used }

/-- The whole lux-hours a fold reports (R77). -/
def Account.folded (a : Account) : Nat := (a.carry + a.hourAcc) / 36000

/-- The flags of the hour close notice (R78). -/
def closeFlags (a : Account) (st : HourStamp) (markChanged gap : Bool) : HourFlags where
  openHour := isOpen a.schedule st.weekday st.hour
  darkened := a.darkened
  lSubstituted := a.lSub
  clockChanged := a.begunByChange || markChanged
  powerGap := gap
  noPeriod := a.period.isNone

/-- The fold of a gallery's hour with its hour close notice, and the value notice of an exhausted account (R77, R78, R87). The
fold of a catch-up sends that value notice too, R87 naming each fold and R93 a start that sends nothing (log entry 37). -/
def State.foldHour (s : State) (g : Gallery) (st : HourStamp) (markChanged gap : Bool) : State :=
  let a := s.account g
  let s := (s.setAccount g a.fold).send (.hourCloseNotice ⟨g, st.day, st.hour, a.folded, closeFlags a st markChanged gap⟩)
  if a.exhausted then s.send (.valueNotice g .doseExhausted (doseValue a.fold)) else s

/-- A pending start begins a budget period (R82). -/
def State.beginPeriod (s : State) (g : Gallery) : State :=
  let a := s.account g
  let s := s.setAccount g { a with
    lastUsed := if a.period.isSome then some a.used else a.lastUsed, used := 0, carry := 0, period := some 0 }
  (s.setLight g { s.lightRec g with startPending := false }).reevalExhausted g

/-- A day step of a RUNNING account, with the rollover when the day index reaches PERIOD (R83). -/
def State.dayStep (g : Gallery) (s : State) : State :=
  let a := s.account g
  match a.period with
  | none => s
  | some d =>
    if d + 1 < (s.lightRec g).env.period then s.setAccount g { a with period := some (d + 1) }
    else
      (s.setAccount g { a with lastUsed := some a.used, used := 0, carry := 0, period := some 0 }).reevalExhausted g

/-- The hour state is renewed (R79, step 3). -/
def State.renewHour (s : State) (g : Gallery) (st : HourStamp) (dark changed : Bool) : State :=
  s.setAccount g { s.account g with
    stamp := st, schedule := scheduleOf (s.lightRec g).env, lSub := false, darkened := dark, begunByChange := changed }

/-- The hour mark at one gallery (R79). -/
def State.lightHour (m : HourMark) (g : Gallery) (s : State) : State :=
  let s := s.foldHour g m.ending m.clockChanged false
  let s := if (s.lightRec g).startPending then s.beginPeriod g else if m.dayFlag then s.dayStep g else s
  (s.renewHour g m.beginning (s.lightRec g).dark m.clockChanged).recompute g

/-- HOUR_MARK_AT_LIGHT (R79). -/
def execHourMarkAtLight (m : HourMark) (s : State) : Answer :=
  deliver .light (.hourMarkAtLight m) s (forGalleries (State.lightHour m))

/-! ## Notices -/

/-- UV_HIGH is judged from the kept U code, when one is present (R88). -/
def State.judgeUv (s : State) (g : Gallery) : State :=
  let a := s.account g
  let r := s.lightRec g
  match r.uCode with
  | none => s
  | some u =>
    if a.uvHigh then
      if u ≤ r.env.uref - r.uDu then (s.setAccount g { a with uvHigh := false }).send (.closeNotice g .uvHigh)
      else s.send (.valueNotice g .uvHigh u)
    else if r.env.uref < u then
      (s.setAccount g { a with uvHigh := true }).send (.openNotice g .uvHigh r.env.uref u)
    else s

/-- The kept state of an L channel takes a state; a change into or out of DISABLED recomputes the allowance (R107). -/
def State.keepL (s : State) (g : Gallery) (st : ChanState) : State :=
  let r := s.lightRec g
  let s := s.setLight g { r with lState := st }
  if (r.lState = .disabled) = (st = .disabled) then s else s.recompute g

/-- STATE_CHANGE_AT_LIGHT (R73, R107): the unit keeps the states of L and U channels. -/
def execStateChangeAtLight (n : StateChange) (s : State) : Answer :=
  deliver .light (.stateChangeAtLight n) s fun s =>
    match n.chan.k with
    | .lux => s.keepL n.chan.g n.new
    | .uv => s.setLight n.chan.g { s.lightRec n.chan.g with uState := n.new }
    | _ => s

/-- TRACKED_UPDATE_AT_LIGHT (R73, R88, R107): the unit is a recipient for L and U channels (R33). -/
def execTrackedUpdateAtLight (u : TrackedUpdate) (s : State) : Answer :=
  deliver .light (.trackedUpdateAtLight u) s fun s =>
    let g := u.chan.g
    match u.chan.k with
    | .lux => (s.setLight g { s.lightRec g with lCode := u.code }).keepL g u.state
    | .uv => (s.setLight g { s.lightRec g with uCode := u.code, uState := u.state, uDu := u.du }).judgeUv g
    | _ => s

/-- The hour schedule is renewed at an envelope changed notice when the unit has folded at that mark (R80). -/
def State.renewSchedule (s : State) (g : Gallery) : State :=
  let a := s.account g
  if a.stamp.day = s.clock.day ∧ a.stamp.hour = hourOf s.clock then
    s.setAccount g { a with schedule := scheduleOf (s.lightRec g).env }
  else s

/-- ENVELOPE_CHANGED_AT_LIGHT (R80, R88): exhaustion, the allowance and the hour schedule, and then UV_HIGH, an order the
spec does not give (log entry 35). -/
def execEnvelopeChangedAtLight (e : EnvelopeChange) (s : State) : Answer :=
  deliver .light (.envelopeChangedAtLight e) s fun s =>
    let s := s.setLight e.g { s.lightRec e.g with env := e.env }
    (((s.reevalExhausted e.g).recompute e.g).renewSchedule e.g).judgeUv e.g

/-- DARKENING_STATE_AT_LIGHT (R105, R78). -/
def execDarkeningStateAtLight (g : Gallery) (notIdle : Bool) (s : State) : Answer :=
  deliver .light (.darkeningStateAtLight g notIdle) s fun s =>
    let r := s.lightRec g
    let s := if notIdle then s.setAccount g { s.account g with darkened := true } else s
    if r.dark = notIdle then s
    else
      let s := s.setLight g { r with dark := notIdle, overCount := if notIdle then 0 else r.overCount }
      s.recompute g

/-! ## Requests -/

/-- START_PERIOD (R81). -/
def execStartPeriod (q : Req) (s : State) : Answer :=
  request .light (.startPeriod q) 0x14 conservationOnly q s fun s =>
    let set := fun (g : Gallery) (s : State) =>
      if (s.lightRec g).startPending then (s, false)
      else (s.setLight g { s.lightRec g with startPending := true }, true)
    match gallerySel q.gallery with
    | .bad => refuse s .range
    | .one g =>
      let r := set g s
      (r.1, if r.2 then .accepted else .duplicate, 0)
    | .all =>
      let r := forMask set s
      (r.1, if r.2 = 0 then .duplicate else .accepted, r.2)

/-- Requests of the lighting master alone. -/
def lightingOnly (p : Port) : Bool := p == .lighting

/-- The number an optional field reads as in reply data (R192). -/
def optData (v : Option Nat) : Nat := v.getD 65535

/-- QUERY_ALLOWANCE (R101). -/
def execQueryAllowance (q : Req) (s : State) : Answer :=
  request .light (.queryAllowance q) 0x08 lightingOnly q s fun s =>
    match gallerySel q.gallery with
    | .one g =>
      let r := s.lightRec g
      match q.sub.toNat with
      | 0 => (s, .ok, r.allowance)
      | 1 => (s, .ok, paceCode r.pace)
      | 2 => (s, .ok, optData r.declared)
      | 3 => (s, .ok, optData r.hrem)
      | _ => refuse s .range
    | _ => refuse s .range

/-- The declared level of a gallery takes the smaller of `v` and the allowance; says whether it was clamped (R102). -/
def State.declareLevel (v : Nat) (g : Gallery) (s : State) : State × Bool :=
  let r := s.lightRec g
  (s.setLight g { r with declared := some (min v r.allowance) }, decide (r.allowance < v))

/-- The declared level of a gallery is withdrawn (R102). -/
def State.withdrawLevel (g : Gallery) (s : State) : State :=
  s.setLight g { s.lightRec g with declared := none }

/-- DECLARE_LEVEL (R102). -/
def execDeclareLevel (q : Req) (s : State) : Answer :=
  request .light (.declareLevel q) 0x09 lightingOnly q s fun s =>
    let v := q.value.toNat
    match gallerySel q.gallery with
    | .bad => refuse s .range
    | .one g =>
      if v = 65535 then (s.withdrawLevel g, .ok, 65535)
      else
        let r := s.declareLevel v g
        (r.1, if r.2 then .clamped else .ok, min v (s.lightRec g).allowance)
    | .all =>
      if v = 65535 then (forGalleries State.withdrawLevel s, .ok, 65535)
      else
        let r := forMask (State.declareLevel v) s
        (r.1, if r.2 = 0 then .ok else .clamped, r.2)

end Sys2Proof.Machine
end

