-- ==== Sys2Proof/Machine/Log.lean ====
section
/-! DEFINITION. The excursion log: the pool and its ids, opening, following and closing, the full pool, acknowledgement, and
the overflow flag (R138 to R149). -/

namespace Sys2Proof.Machine

/-! ## The pool -/

/-- The most entries the pool holds (R138). -/
def poolSize : Nat := 32

/-- An entry is OPEN: its closed stamp is absent (R138). -/
def Entry.isOpen (e : Entry) : Bool := e.closed.isNone

/-- The id that follows another, passing from 255 to 0 (R139). -/
def nextIdAfter (n : Nat) : Nat := if n < 255 then n + 1 else 0

/-- The first id from `n` on that no entry of the pool holds, in at most `fuel` tries (R139). -/
def freeId (pool : List Entry) : Nat → Nat → Nat
  | 0, n => n
  | fuel + 1, n => if pool.any fun e => e.id = n then freeId pool fuel (nextIdAfter n) else n

/-- The id a new entry takes: found within 33 tries (R139). -/
def LogRetained.newId (l : LogRetained) : Nat := freeId l.pool 33 l.nextId

/-- The extreme an entry records for a value: one above 65535 is outside the field's range (R138; log entry 4). -/
def recorded (v : Nat) : Nat := if v ≤ 65535 then v else (Config.overrangeExtreme v).toNat

/-- A new entry joins the newest end of the pool (R139, R141 step 2). -/
def LogRetained.create (l : LogRetained) (g : Gallery) (t : ExcType) (at_ : SecondStamp) (limit value : Nat) : LogRetained :=
  { l with
    pool := l.pool ++ [⟨l.newId, g, t, false, at_, none, limit, recorded value⟩], nextId := nextIdAfter l.newId }

/-- Whether an entry is the OPEN entry of a gallery and type. -/
def isOpenOf (g : Gallery) (t : ExcType) (e : Entry) : Bool := e.g = g && e.type = t && e.isOpen

/-- The OPEN entry of a gallery and type, if any. -/
def LogRetained.openEntry (l : LogRetained) (g : Gallery) (t : ExcType) : Option Entry := l.pool.find? (isOpenOf g t)

/-- The first entry of the pool that `p` holds of is removed, the others keeping their order. -/
def LogRetained.remove (l : LogRetained) (p : Entry → Bool) : LogRetained := { l with pool := l.pool.eraseP p }

/-- The overflow flag and the overflow-since-selection marker are set, and EXCURSION_OVERFLOW is sent (R144). -/
def State.overflow (s : State) : State :=
  ((s.setLogRet { s.ret.log with overflow := true }).setMarker true).attend .excursionOverflow none

/-! ## Opening -/

/-- An entry is created for a gallery and type, stamped from the clock, and EXCURSION_OPENED sent (R141, steps 2 and 3). -/
def State.createEntry (s : State) (g : Gallery) (t : ExcType) (limit value : Nat) : State :=
  (s.setLogRet (s.ret.log.create g t (secondStamp s.clock) limit value)).attend .excursionOpened (some g)

/-- An opening of a type that is not active (R141, R144). -/
def State.openExc (s : State) (g : Gallery) (t : ExcType) (limit value : Nat) : State :=
  let s := s.setActiveType g t true
  if s.ret.log.pool.length < poolSize then s.createEntry g t limit value
  else if s.ret.log.pool.any fun e => !e.isOpen then
    ((s.setLogRet (s.ret.log.remove fun e => !e.isOpen)).overflow).createEntry g t limit value
  else s.overflow

/-! ## Following -/

/-- An entry's extreme after a value (R142). -/
def Entry.follow (e : Entry) (v : Nat) : Entry :=
  { e with extreme := recorded (if keepsSmallest e.type then min v e.extreme else max v e.extreme) }

/-- A value is taken against the OPEN entry of a gallery and type (R142). -/
def State.valueExc (s : State) (g : Gallery) (t : ExcType) (v : Nat) : State :=
  s.setLogRet { s.ret.log with pool := s.ret.log.pool.map fun e => if isOpenOf g t e then e.follow v else e }

/-! ## Closing -/

/-- The OPEN entry of a gallery and type closes at a stamp: an acknowledged one is removed (R143, step 2). -/
def LogRetained.closeEntry (l : LogRetained) (g : Gallery) (t : ExcType) (at_ : SecondStamp) : LogRetained :=
  match l.openEntry g t with
  | some e =>
    if e.acked then l.remove (isOpenOf g t)
    else { l with pool := l.pool.map fun e => if isOpenOf g t e then { e with closed := some at_ } else e }
  | none => l

/-- A closing of an active type, stamped `at_`; `tell` says whether EXCURSION_CLOSED is sent (R143, R151). -/
def State.closeExc (s : State) (g : Gallery) (t : ExcType) (at_ : SecondStamp) (tell : Bool) : State :=
  let found := (s.ret.log.openEntry g t).isSome
  let s := (s.setActiveType g t false).setLogRet (s.ret.log.closeEntry g t at_)
  if found && tell then s.attend .excursionClosed (some g) else s

/-! ## The three notices -/

/-- OPEN_NOTICE (R141, R144, R145). -/
def execOpenNotice (g : Gallery) (t : ExcType) (limit value : Nat) (s : State) : Answer :=
  deliver .log (.openNotice g t limit value) s fun s =>
    if s.isActive g t then s.valueExc g t value else s.openExc g t limit value

/-- VALUE_NOTICE (R142, R145). -/
def execValueNotice (g : Gallery) (t : ExcType) (value : Nat) (s : State) : Answer :=
  deliver .log (.valueNotice g t value) s fun s => if s.isActive g t then s.valueExc g t value else s

/-- CLOSE_NOTICE (R143, R145). -/
def execCloseNotice (g : Gallery) (t : ExcType) (s : State) : Answer :=
  deliver .log (.closeNotice g t) s fun s =>
    if s.isActive g t then s.closeExc g t (secondStamp s.clock) true else s

/-! ## Acknowledgement -/

/-- Whether an entry has an id and a gallery (R146). -/
def isEntry (g : Gallery) (n : Nat) (e : Entry) : Bool := e.g = g && e.id = n

/-- ACK_EXCURSION_ONE (R146). -/
def execAckExcursionOne (q : Req) (s : State) : Answer :=
  request .log (.ackExcursionOne q) 0x20 conservationOnly q s fun s =>
    match gallerySel q.gallery with
    | .one g =>
      let n := q.value.toNat
      if 255 < n then refuse s .range
      else
        let l := s.ret.log
        match l.pool.find? (isEntry g n) with
        | none => refuse s .notFound
        | some e =>
          if !e.isOpen then (s.setLogRet (l.remove (isEntry g n)), .ok, 1)
          else if e.acked then (s, .duplicate, 0)
          else
            (s.setLogRet { l with pool := l.pool.map fun e => if isEntry g n e then { e with acked := true } else e },
              .ok, 0)
    | _ => refuse s .range

/-- The entries of a pool that ACK EXCURSION with sub-argument 1 removes from the galleries `p` names (R147). -/
def closedOf (p : Gallery → Bool) (e : Entry) : Bool := p e.g && !e.isOpen

/-- Every CLOSED entry of the galleries `p` names is removed; the data is how many (R147). -/
def State.ackAll (s : State) (p : Gallery → Bool) : Taken :=
  let l := s.ret.log
  (s.setLogRet { l with pool := l.pool.filter fun e => !closedOf p e }, .ok, (l.pool.filter (closedOf p)).length)

/-- ACK_EXCURSION_ALL_CLOSED (R147). -/
def execAckExcursionAllClosed (q : Req) (s : State) : Answer :=
  request .log (.ackExcursionAllClosed q) 0x20 conservationOnly q s fun s =>
    match gallerySel q.gallery with
    | .bad => refuse s .range
    | .one g => s.ackAll fun h => h = g
    | .all => s.ackAll fun _ => true

end Sys2Proof.Machine
end

