-- ==== Sys2Proof/Machine/SelfCheck.lean ====
section
/-! DEFINITION. The self-check sequencer: queueing, the turns of channels, the four steps and their judgements, the ends of
channels and galleries, aborts, and the setup (R170 to R178). -/

namespace Sys2Proof.Machine

/-! ## Check results -/

/-- The check result of a gallery whose check starts or is aborted before it starts (R172, R177). -/
def notRunResult (sm : Summary) : CheckResult := ⟨sm, .all .notRun, .all (.all .notRun)⟩

/-- The verdict of the current channel kind is written. -/
def State.setChanVerdict (s : State) (g : Gallery) (k : Kind) (v : Verdict) : State :=
  let r := s.checkResult g
  s.setCheckResult g { r with chans := r.chans.set k v }

/-- The verdict of a step is written (R174). -/
def State.setStepVerdict (s : State) (g : Gallery) (k : Kind) (x : CheckStep) (v : Verdict) : State :=
  let r := s.checkResult g
  s.setCheckResult g { r with steps := r.steps.set k ((r.steps.get k).set x v) }

/-- The summary of a gallery is written. -/
def State.setSummary (s : State) (g : Gallery) (v : Summary) : State :=
  s.setCheckResult g { s.checkResult g with summary := v }

/-- The running context is written. -/
def State.setRun (s : State) (r : Option CheckRun) : State := s.setSeq { s.seq with run := r }

/-- The queue is written. -/
def State.setQueue (s : State) (l : List Gallery) : State := s.setSeq { s.seq with queue := l }

/-- The condition the front end applies is written (R173). -/
def State.setCondition (s : State) (c : Option (Chan × CheckStep)) : State := s.setSeq { s.seq with condition := c }

/-- A FAIL verdict. -/
def isFail : Verdict → Bool
  | .failOpen => true
  | .failShort => true
  | .failReference => true
  | .failResponse => true
  | _ => false

/-- The four values of a table by kind. -/
def kindValues {α : Type} (t : PerKind α) : List α := [t.lux, t.uv, t.rh, t.temp]

/-- The four values of a table by step. -/
def stepValues {α : Type} (t : PerStep α) : List α := [t.openInput, t.shortInput, t.reference, t.response]

/-- The summary of a completed gallery, from its channel verdicts (R175). -/
def summaryOf (t : PerKind Verdict) : Summary :=
  if (kindValues t).any isFail then .failed
  else if (kindValues t).contains .warn then .warned
  else .passed

/-- The worst of a channel's judged step verdicts: any FAIL, then WARN, then PASS (R175). -/
def worstOf (t : PerStep Verdict) : Verdict :=
  match (stepValues t).find? isFail with
  | some v => v
  | none => if (stepValues t).contains .warn then .warn else .pass

/-- What a verdict notice says of a channel with verdict `v` (R175). -/
def noticeOf (v : Verdict) : ChannelVerdict := if isFail v then .fail else if v = .warn then .warn else .pass

/-! ## The order of channels and steps -/

/-- The kinds after a kind, in the order L, U, H, T (R173). -/
def kindsAfter : Kind → List Kind
  | .lux => [.uv, .rh, .temp]
  | .uv => [.rh, .temp]
  | .rh => [.temp]
  | .temp => []

/-- The four steps in order (R173). -/
def checkSteps : List CheckStep := [.openInput, .shortInput, .reference, .response]

/-- The steps after a step (R173). -/
def stepsAfter : CheckStep → List CheckStep
  | .openInput => [.shortInput, .reference, .response]
  | .shortInput => [.reference, .response]
  | .reference => [.response]
  | .response => []

/-- The first of the steps that is enabled (R173). -/
def State.firstEnabled (s : State) (l : List CheckStep) : Option CheckStep := l.find? fun x => s.ret.setup.enables.get x

/-! ## Turns -/

/-- A step becomes current with phase DWELL, and the front end applies its condition (R173). -/
def State.beginStep (s : State) (g : Gallery) (k : Kind) (x : CheckStep) : State :=
  (s.setRun (some ⟨g, k, x, .dwell (dwellSeconds s.ret.setup.dwellIdx)⟩)).setCondition (some (⟨g, k⟩, x))

/-- A channel ends with the worst of its step verdicts, and its verdict notice is sent (R175). -/
def State.endChannel (s : State) (g : Gallery) (k : Kind) : State :=
  let v := worstOf ((s.checkResult g).steps.get k)
  (s.setChanVerdict g k v).send (.verdictNotice ⟨g, k⟩ (noticeOf v))

/-- The steps in `l` that are enabled follow one another; says whether one has begun, the channel ending when none is left
(R173, R175). -/
def State.steps (s : State) (g : Gallery) (k : Kind) (l : List CheckStep) : State × Bool :=
  match s.firstEnabled l with
  | some x => (s.beginStep g k x, true)
  | none => (s.endChannel g k, false)

/-- The turn of one channel; says whether a step of it has begun (R173). -/
def State.turn (s : State) (g : Gallery) (k : Kind) : State × Bool :=
  if (s.chan ⟨g, k⟩).state = .disabled then (s.setChanVerdict g k .skipped, false)
  else (s.send (.channelEnterNotice ⟨g, k⟩)).steps g k checkSteps

/-- The turns of the channels in `l`, until a step of one has begun; says whether one has (R173). -/
def State.turns (s : State) (g : Gallery) : List Kind → State × Bool
  | [] => (s, false)
  | k :: l => if (s.turn g k).2 then s.turn g k else (s.turn g k).1.turns g l

/-- A gallery completes after T: its summary is set and CHECK_DONE sent, and the sequencer is IDLE (R175). -/
def State.completeGallery (s : State) (g : Gallery) : State :=
  ((s.setSummary g (summaryOf (s.checkResult g).chans)).attend .checkDone (some g)).setRun none

/-- The channels in `l` take their turns, and the gallery completes when none of them has begun a step; says whether the
sequencer is RUNNING after it (R173, R175). -/
def State.turnsOrComplete (s : State) (g : Gallery) (l : List Kind) : State × Bool :=
  let r := s.turns g l
  if r.2 then r else (r.1.completeGallery g, false)

/-- The head of the queue is taken (R172); says whether the sequencer is RUNNING after it. -/
def State.startGallery (s : State) (g : Gallery) : State × Bool :=
  if s.seq.dark.get g then
    ((s.setCheckResult g (notRunResult .abortedDarkening)).attend .checkDone (some g), false)
  else
    ((s.setCheckResult g (notRunResult .running)).send (.galleryStartNotice g)).turnsOrComplete g kinds

/-- The heads of the queue `l` are taken in turn until one runs (R172). -/
def State.runQueue (s : State) : List Gallery → State
  | [] => s.setQueue []
  | g :: l => if ((s.setQueue l).startGallery g).2 then ((s.setQueue l).startGallery g).1
    else ((s.setQueue l).startGallery g).1.runQueue l

/-- An IDLE sequencer takes the heads of its queue (R172). -/
def State.takeHead (s : State) : State := if s.seq.run.isSome then s else s.runQueue s.seq.queue

/-! ## CHECK -/

/-- A gallery is running or queued. -/
def State.inCheck (s : State) (g : Gallery) : Bool :=
  (match s.seq.run with | some r => r.g = g | none => false) || s.seq.queue.contains g

/-- A gallery joins the newest end of the queue, unless it is running or queued; says whether it did (R171). -/
def State.enqueue (g : Gallery) (s : State) : State × Bool :=
  if s.inCheck g then (s, false) else ((s.setQueue (s.seq.queue ++ [g])).setSummary g .queued, true)

/-- CHECK (R171). -/
def execCheck (q : Req) (s : State) : Answer :=
  request .sequencer (.check q) 0x1B conservationOnly q s fun s =>
    match gallerySel q.gallery with
    | .bad => refuse s .range
    | .one g =>
      let r := s.enqueue g
      if r.2 then (r.1.takeHead, .accepted, 0) else (s, .duplicate, 0)
    | .all =>
      let r := forMask State.enqueue s
      if r.2 = 0 then (s, .duplicate, 0) else (r.1.takeHead, .accepted, r.2)

/-! ## Second marks -/

/-- The running context after a second mark (R173). -/
def CheckRun.second (r : CheckRun) : CheckRun :=
  match r.phase with
  | .dwell n => { r with phase := if n ≤ 1 then .awaiting else .dwell (n - 1) }
  | .awaiting => r

/-- The delivery of a second mark to the sequencer. -/
def seqMark (t : SecondStamp) (s : State) : Answer :=
  deliver .sequencer (.secondMarkAtSequencer t) s fun s => s.setRun (s.seq.run.map CheckRun.second)

/-- SECOND_MARK_AT_SEQUENCER (R173). -/
def execSecondMarkAtSequencer (t : SecondStamp) (s : State) : Answer := seqMark t s

/-- The second mark ends the dwell of the current step (R173). -/
def dwellEnds (s : State) : Bool :=
  match s.seq.run with
  | some ⟨_, _, _, .dwell n⟩ => n ≤ 1
  | _ => false

/-- DWELL_EXPIRY (R173): the second mark that ends the dwell of the current step. -/
def execDwellExpiry (t : SecondStamp) (s : State) : Answer := onlyWhen (dwellEnds s) s (seqMark t s)

/-! ## Step readings -/

/-- The distance of two numbers. -/
def dist (a b : Nat) : Nat := (a - b) + (b - a)

/-- The verdict of a RESPONSE step from the corrected codes without and with the injection, with `gain` (R174). -/
def responseVerdict (gain plain injected : Nat) : Verdict :=
  let e : Int := (4096 * gain / 1024 : Nat)
  let tol : Int := (4096 * gain / 1024 / 10 : Nat)
  let d : Int := (injected : Int) - plain
  if e - tol ≤ d ∧ d ≤ e + tol then .pass else .failResponse

/-- The verdict of a step (R174); absent when the reading does not carry what the step asks for (log entry 19). -/
def stepVerdict (cfg : ChanCfg) (k : Kind) (x : CheckStep) (r : Reading) : Option Verdict :=
  match x, r with
  | .openInput, .single c => some (if c.toNat ≤ 65471 then .pass else .failOpen)
  | .shortInput, .single c => some (if 64 ≤ c.toNat then .pass else .failShort)
  | .reference, .single c =>
    some (if dist c.toNat 32768 ≤ 655 then .pass else if dist c.toNat 32768 ≤ 1638 then .warn else .failReference)
  | .response, .pair a b => some (responseVerdict cfg.gain (correct cfg k a.toNat) (correct cfg k b.toNat))
  | _, _ => none

/-- The check moves on after the current step or channel: the sequencer takes the next heads when the gallery completed
(R172, R175). -/
def State.goOn (r : State × Bool) : State := if r.2 then r.1 else r.1.takeHead

/-- The current channel is over and the channels after it take their turns (R173). -/
def State.nextChannel (s : State) (g : Gallery) (k : Kind) : State :=
  State.goOn (s.turnsOrComplete g (kindsAfter k))

/-- A verdict of the current step is written and acted on (R174, R175). -/
def State.judgeStep (s : State) (run : CheckRun) (v : Verdict) : State :=
  let s := s.setStepVerdict run.g run.k run.step v
  if isFail v then (s.endChannel run.g run.k).nextChannel run.g run.k
  else
    let r := s.steps run.g run.k (stepsAfter run.step)
    if r.2 then r.1 else r.1.nextChannel run.g run.k

/-- A reading that is taken: the condition is withdrawn, and the reading is judged or, for a channel no longer CHECKING,
discarded (R173, R174). -/
def State.takeReading (s : State) (run : CheckRun) (r : Reading) : State :=
  match stepVerdict (s.cfg ⟨run.g, run.k⟩) run.k run.step r with
  | none => s
  | some v =>
    let s := s.setCondition none
    if (s.chan ⟨run.g, run.k⟩).state = .checking then s.judgeStep run v
    else (s.setChanVerdict run.g run.k .skipped).nextChannel run.g run.k

/-- The sequencer awaits a reading of this channel and step (R174). -/
def awaited (s : State) (c : Chan) (x : CheckStep) : Option CheckRun :=
  match s.seq.run with
  | some run => if run.g = c.g ∧ run.k = c.k ∧ run.step = x ∧ run.phase = .awaiting then some run else none
  | none => none

/-- STEP_READING (R174): a reading that is not awaited is discarded, and the condition of the step it names is withdrawn
(R173). -/
def execStepReading (c : Chan) (x : CheckStep) (r : Reading) (s : State) : Answer :=
  deliver .sequencer (.stepReading c x r) s fun s =>
    match awaited s c x with
    | some run => s.takeReading run r
    | none => if s.seq.condition = some (c, x) then s.setCondition none else s

/-! ## Aborts -/

/-- The running check is aborted with a summary: the channel abort notice, the verdict NOT_RUN of the current channel, the
summary with CHECK_DONE, and the sequencer IDLE (R176, steps 1 to 4 without the next head). -/
def State.abortRun (s : State) (run : CheckRun) (sm : Summary) : State :=
  ((((((s.send (.channelAbortNotice ⟨run.g, run.k⟩)).setChanVerdict run.g run.k .notRun).setSummary run.g sm).attend
    .checkDone (some run.g)).setRun none).setCondition none)

/-- DARKENING_STATE_AT_SEQUENCER (R176). -/
def execDarkeningStateAtSequencer (g : Gallery) (notIdle : Bool) (s : State) : Answer :=
  deliver .sequencer (.darkeningStateAtSequencer g notIdle) s fun s =>
    let s := s.setSeq { s.seq with dark := s.seq.dark.set g notIdle }
    match s.seq.run with
    | some run => if notIdle ∧ run.g = g then (s.abortRun run .abortedDarkening).takeHead else s
    | none => s

/-- A queued gallery is cancelled; says whether it was (R177). -/
def State.cancelQueued (g : Gallery) (s : State) : State × Bool :=
  if s.seq.queue.contains g then
    (((s.setQueue (s.seq.queue.erase g)).setCheckResult g (notRunResult .cancelled)).attend .checkDone (some g), true)
  else (s, false)

/-- The running check is cancelled, if it is of the gallery; the set of the galleries it took in (R177). -/
def State.cancelRunning (s : State) (p : Gallery → Bool) : State × Nat :=
  match s.seq.run with
  | some run => if p run.g then ((s.abortRun run .cancelled).takeHead, 2 ^ galleryNum run.g) else (s, 0)
  | none => (s, 0)

/-- CANCEL_CHECK (R177). -/
def execCancelCheck (q : Req) (s : State) : Answer :=
  request .sequencer (.cancelCheck q) 0x1C conservationOnly q s fun s =>
    match gallerySel q.gallery with
    | .bad => refuse s .range
    | .one g =>
      if s.seq.queue.contains g then ((s.cancelQueued g).1, .ok, 0)
      else
        let r := s.cancelRunning fun h => h = g
        if r.2 = 0 then refuse s .notFound else (r.1, .ok, 0)
    | .all =>
      let a := forMask State.cancelQueued s
      let b := a.1.cancelRunning fun _ => true
      if a.2 + b.2 = 0 then refuse s .notFound else (b.1, .ok, a.2 + b.2)

/-! ## CHECK SETUP -/

/-- The setup a CHECK SETUP value carries (R178, R192). -/
def setupOf (v : Half) : CheckSetup :=
  ⟨⟨v.getLsbD 0, v.getLsbD 1, v.getLsbD 2, v.getLsbD 3⟩, v.toNat / 16 % 4⟩

/-- CHECK_SETUP (R178). A value with a bit outside the layout is refused with RANGE whatever its enables, an order that R178
leaves open (DESIGN CHOICE, log entry 39). -/
def execCheckSetup (q : Req) (s : State) : Answer :=
  request .sequencer (.checkSetup q) 0x1D conservationOnly q s fun s =>
    if 64 ≤ q.value.toNat then refuse s .range
    else if q.value.toNat % 16 = 0 then refuse s .inconsistent
    else (s.setSetup (setupOf q.value), .ok, setupValue (setupOf q.value))

end Sys2Proof.Machine
end

