-- ==== Sys2Proof/Machine/Items.lean ====
section
/-! DEFINITION. The items of SELECT: the fields FETCH returns for each of the fourteen kinds, as R192 lays them out, and what
a SELECT copies (R70, R89, R132, R148, R183). -/

namespace Sys2Proof.Machine

/-- The two halves of a 32-bit field, high first (R192). -/
def halves (n : Nat) : List Half := [half (n / 65536), half n]

/-- The two halves of an optional 32-bit field, both FFFFh when absent (Introduction; R192). -/
def halvesOpt : Option Nat → List Half
  | some n => halves n
  | none => [absentHalf, absentHalf]

/-- Presence bits from low to high (R192). -/
def presenceBits (l : List Bool) : Half := half (bitsLow l)

/-- Four values in fields of four bits, the first lowest (R192). -/
def nibbles (a b c d : Nat) : Half := half (a + 16 * b + 256 * c + 4096 * d)

/-- Kind 1, gallery status. -/
def itemGallery (s : State) (g : Gallery) : List Half :=
  let l := s.lightRec g
  let c := s.climateRec g
  let a := s.account g
  let st := fun k => chanStateCode (s.chan ⟨g, k⟩).state
  [half (darkStateCode (s.darkRec g).state), half (sourceMask (s.sources g)), half l.allowance, half (paceCode l.pace),
    halfOpt l.declared, half c.rh.low, half c.rh.high, half c.t.low, half c.t.high, half (collapseCode c), halfOpt c.rhSet,
    halfOpt c.tSet, halfOpt c.rhSpan, halfOpt c.tSpan, nibbles (st .lux) (st .uv) (st .rh) (st .temp),
    half (typeMask (s.log.active.get g)), half (bitsLow [a.period.isSome, a.exhausted]),
    half (summaryCode (s.checkResult g).summary),
    half (bitsLow [c.rhHigh, c.rhLow, c.rhSwing, c.tHigh, c.tLow, c.tSwing])]

/-- Kinds 2 and 3, the active and the staged envelope (R70). -/
def itemEnvelope (s : State) (g : Gallery) (e : Envelope) : List Half :=
  envFields.map (fun f => half (envGet e f)) ++ [halfBool (s.envStaged g).commitPending, halfBool (s.loanLock g)]

/-- Kind 4, channel. -/
def itemChannel (s : State) (c : Chan) : List Half :=
  let r := s.chan c
  let f := s.cfg c
  let t := s.tracker c
  [half (chanStateCode r.state), half (chanCauseCode r.state), half r.railCount, half r.goodRun, savedHalf r.saved,
    halfOpt r.lastRaw, halfOpt r.lastCorrected,
    presenceBits [r.lastRaw.isSome, r.lastCorrected.isSome, t.tracking, r.cal.prev.isSome, r.cal.new.isSome],
    halfBool f.enabled, half f.gain, halfInt f.offset, half f.corrLimit, half f.du, half (modeCode f.mode), half f.fast,
    half f.slow, halfBool f.hold, halfBool t.tracking, halfOpt (trackedCode t),
    halfIntOpt (t.readout.map fun d => d + 128), half t.shift, halfBool t.settling, halfOpt (r.cal.op.map calOpCode),
    half (calResultCode r.cal.result), halfIntOpt r.cal.prev, halfIntOpt r.cal.new, halfBool (s.checkFault c)]

/-- Kind 5, account (R89). -/
def itemAccount (s : State) (g : Gallery) : List Half :=
  let a := s.account g
  let l := s.lightRec g
  [halfBool a.period.isSome, halfBool l.startPending, halfOpt a.period] ++ halves a.used ++ [half a.carry] ++
    halves a.hourAcc ++ [halfBool a.exhausted] ++ halvesOpt a.lastUsed ++
    [half a.stamp.day, half (a.stamp.hour + 256 * a.stamp.weekday), half (bitsLow [a.lSub, a.darkened, a.begunByChange]),
      half (256 * a.schedule.ostart + a.schedule.oend), half a.schedule.weekdays, halfBool a.uvHigh, half l.allowance,
      half (paceCode l.pace), halfOpt l.hrem] ++ halvesOpt l.quot ++
    [halfOpt l.declared, half l.overCount, halfBool a.doseShort, halfBool a.luxOver,
      presenceBits [a.lastUsed.isSome, l.quot.isSome]]

/-- Kinds 6 and 7, a history record (R132). -/
def itemRecord (r : HourRecord) : List Half :=
  [half r.day, half r.hour, half (historyFlags r), half r.dose, halfOpt r.peakL, halfOpt r.uvMax, halfOpt r.rhMin,
    halfOpt r.rhMax, halfOpt r.tMin, halfOpt r.tMax, presenceBits [r.peakL.isSome, r.uvMax.isSome]]

/-- Kind 8, ring status (R132). -/
def itemRing (s : State) (g : Gallery) : List Half :=
  let r := s.ring g
  let n := s.record g 0
  [half r.base, half r.length, half r.count, half r.unread, halfBool r.overrun, halfOpt (n.map fun x => x.day),
    halfOpt (n.map fun x => x.hour), halfOpt (s.ret.history.pendingPartition.map fun ls => ls.get g),
    presenceBits [n.isSome]]

/-- Kind 9, an excursion entry (R148). -/
def itemEntry (e : Entry) : List Half :=
  [half e.id, half (galleryNum e.g), half (excNum e.type), halfBool (!e.isOpen), halfBool e.acked, half e.opened.day] ++
    halves e.opened.second ++ [halfOpt (e.closed.map fun c => c.day)] ++ halvesOpt (e.closed.map fun c => c.second) ++
    [half e.limit, half e.extreme]

/-- Kind 10, pool status (R148). -/
def itemPool (s : State) : List Half :=
  let l := s.ret.log
  let n := (l.pool.filter Entry.isOpen).length
  [half l.pool.length, half n, half (l.pool.length - n), half l.nextId, halfBool l.overflow] ++
    galleries.map fun g => half (typeMask (s.log.active.get g))

/-- Kind 11, the darkening record (R152). -/
def itemDark (s : State) (g : Gallery) : List Half :=
  let r := s.darkRec g
  let o := r.outcome
  [half (darkStateCode r.state), half (sourceMask (s.sources g)), halfOpt r.delayLeft, half r.timeToDark, half r.heldSub,
    half r.hardLux, halfBool r.luxHardOpen, halfOpt (o.start.map fun t => t.day)] ++
    halvesOpt (o.start.map fun t => t.second) ++
    [halfOpt (o.firstSource.map sourceNum), half (sourceMask o.joined), halfOpt o.delayApplied, halfOpt o.secondsToDark,
      half (outcomeCode o.outcome), half o.heldMinutes, halfOpt (o.endCause.map endCauseCode),
      half (triggerValue (s.ret.triggers.get .a) (s.trigger.get .a)),
      half (triggerValue (s.ret.triggers.get .b) (s.trigger.get .b)), presenceBits [o.start.isSome]]

/-- The four step verdicts of a channel as one field (R192). -/
def stepField (t : PerStep Verdict) : Half :=
  nibbles (verdictCode t.openInput) (verdictCode t.shortInput) (verdictCode t.reference) (verdictCode t.response)

/-- Kind 12, the self-check result (R170). The sequencer state reads 0 IDLE and 1 RUNNING (log entry 18). -/
def itemCheck (s : State) (g : Gallery) : List Half :=
  let r := s.checkResult g
  let n := s.seq.run
  [half (summaryCode r.summary)] ++ kinds.map (fun k => half (verdictCode (r.chans.get k))) ++
    kinds.map (fun k => stepField (r.steps.get k)) ++
    [halfBool n.isSome, halfOpt (n.map fun x => galleryNum x.g), halfOpt (n.map fun x => kindNum x.k),
      halfOpt (n.map fun x => stepCode x.step), half s.seq.queue.length] ++
    (List.range 6).map (fun i => halfOpt ((s.seq.queue[i]?).map galleryNum)) ++ [half (setupValue s.ret.setup)]

/-- The settings of a port's line: the mode in bit 0 and the master enable in bit 1 (R189, R192). -/
def lineSettings (r : PortRec) : Nat := bitsLow [r.mode == .pulse, r.masterEnable]

/-- The three ports in the order of their numbers (R186). -/
def portList : List Port := [.climate, .lighting, .conservation]

/-- Kind 13, presence, as port `p` selects it. -/
def itemPresence (s : State) (p : Port) : List Half :=
  portList.map (fun i => half (presenceCode (s.port i).presence)) ++ portList.map (fun i => half (s.port i).silence) ++
    portList.map (fun i => half (s.ret.timeouts.get i)) ++ [half (lineSettings (s.port p)), half (s.port p).pending.length]

/-- Kind 14, clock (R37). -/
def itemClock (s : State) : List Half :=
  let c := s.clock
  [half c.day, half c.weekday, half c.minute, half c.second, halfBool c.isSet,
    half (bitsLow [c.dateReceived, c.timeReceived]), half c.lastMarkDay, half c.lastMarkHour, half (lastStartCode c.lastStart)]

/-- An item, or its refusal. -/
abbrev Item := Except Result (List Half)

/-- An item of a gallery: gallery 6 or 7 is refused with RANGE (R183). -/
def galleryItem (b : BitVec 3) (f : Gallery → Item) : Item :=
  match gallerySel b with
  | .one g => f g
  | _ => .error .range

/-- A record or its absence: NOT_FOUND (R132, R183). -/
def foundItem {α : Type} (f : α → List Half) : Option α → Item
  | some a => .ok (f a)
  | none => .error .notFound

/-- The record of a gallery's ring at unread position `k` (R132). -/
def State.unreadRecord (s : State) (g : Gallery) (k : Nat) : Option HourRecord :=
  if k < (s.ring g).unread then s.record g ((s.ring g).unread - 1 - k) else none

/-- The channel of a gallery that the value of a SELECT names: a value above 3 is refused with NOT_FOUND (R183). -/
def channelItem (s : State) (g : Gallery) (v : Nat) : Item :=
  if 3 < v then .error .notFound else .ok (itemChannel s ⟨g, kindOf v⟩)

/-- What a SELECT of kind `k` from port `p` with a gallery field and an index copies (R183, R192). -/
def selectItem (s : State) (p : Port) (k : Nat) (b : BitVec 3) (v : Nat) : Item :=
  match k with
  | 1 => galleryItem b fun g => .ok (itemGallery s g)
  | 2 => galleryItem b fun g => .ok (itemEnvelope s g (s.active g))
  | 3 => galleryItem b fun g => .ok (itemEnvelope s g (s.envStaged g).staged)
  | 4 => galleryItem b fun g => channelItem s g v
  | 5 => galleryItem b fun g => .ok (itemAccount s g)
  | 6 => galleryItem b fun g => foundItem itemRecord (s.unreadRecord g v)
  | 7 => galleryItem b fun g => foundItem itemRecord (s.record g v)
  | 8 => galleryItem b fun g => .ok (itemRing s g)
  | 9 => foundItem itemEntry (s.ret.log.pool[v]?)
  | 10 => .ok (itemPool s)
  | 11 => galleryItem b fun g => .ok (itemDark s g)
  | 12 => galleryItem b fun g => .ok (itemCheck s g)
  | 13 => .ok (itemPresence s p)
  | 14 => .ok (itemClock s)
  | _ => .error .range

end Sys2Proof.Machine
end

