-- ==== Sys2Proof/Machine/Ports.lean ====
section
/-! DEFINITION. The port controllers: frames and their judgement, replies, the general requests, presence and silence, and
attention (R180 to R190). -/

namespace Sys2Proof.Machine

/-! ## Replies -/

/-- A reply becomes the pending reply of a port (R182). -/
def State.setReply (s : State) (p : Port) (r : Reply) : State := s.setPort p { s.port p with reply := r }

/-- A request that a port controller takes itself is answered at once (R182). -/
def State.answer (s : State) (q : Req) (code : Nat) (r : Result) (data : Nat) : State :=
  s.setReply q.port (replyTo q code r data)

/-- REPLY_NOTICE (R182). -/
def execReplyNotice (p : Port) (r : Reply) (s : State) : Answer :=
  deliver (.port p) (.replyNotice p r) s fun s => s.setReply p r

/-! ## The attention line -/

/-- The line as LEVEL mode drives it: asserted while the master enable is on and the set is not empty (R189). -/
def PortRec.drive (r : PortRec) : PortRec :=
  { r with line := r.mode == .level && r.masterEnable && !r.pending.isEmpty }

/-- An entry that is not in the set joins it, with a pulse in PULSE mode while the master enable is on (R187, R189). -/
def PortRec.join (r : PortRec) (a : Attention) : PortRec :=
  PortRec.drive { r with
    pending := r.pending ++ [a], pulses := if r.mode = .pulse ∧ r.masterEnable = true then r.pulses + 1 else r.pulses }

/-- An attention notice at a port (R187). -/
def PortRec.record (r : PortRec) (p : Port) (a : Attention) : PortRec :=
  if routed a.cause p && (r.causes.get a.cause).enabled && !r.pending.contains a then r.join a else r

/-- ATTENTION_NOTICE (R187, R189). -/
def execAttentionNotice (p : Port) (c : Cause) (g : Option Gallery) (s : State) : Answer :=
  deliver (.port p) (.attentionNotice p c g) s fun s => s.setPort p ((s.port p).record p ⟨c, g⟩)

/-! ## The general requests -/

/-- NOP at the port (R182). -/
def State.takeNop (q : Req) (s : State) : State := s.answer q 0x00 .ok 0

/-- NOP (R182). -/
def execNop (q : Req) (s : State) : Answer := deliver (.port q.port) (.nop q) s (State.takeNop q)

/-- The snapshot of a port is replaced. -/
def State.setSelection (s : State) (p : Port) (x : Option Snapshot) : State :=
  s.setPort p { s.port p with selection := x }

/-- SELECT at the port: the snapshot is replaced by a copy of the record, or by none on a refusal and for kind 0; the pool
status selected on the Conservation port clears the marker (R149, R183). -/
def State.takeSelect (q : Req) (s : State) : State :=
  let k := q.sub.toNat
  if k = 0 then (s.setSelection q.port none).answer q 0x01 .ok 0
  else
    match selectItem s q.port k q.gallery q.value.toNat with
    | .error r => (s.setSelection q.port none).answer q 0x01 r 0
    | .ok l =>
      let s := (s.setSelection q.port (some ⟨k, l⟩)).answer q 0x01 .ok l.length
      if k = 10 ∧ q.port = .conservation then s.setMarker false else s

/-- SELECT (R183). -/
def execSelect (q : Req) (s : State) : Answer := deliver (.port q.port) (.select q) s (State.takeSelect q)

/-- A FETCH of field `n` of snapshot `x` on port `p` clears the log's overflow flag: field 4 of a pool status snapshot that
shows it set, on the Conservation port, with the marker clear (R149, R184). -/
def clearsOverflow (s : State) (p : Port) (x : Snapshot) (n : Nat) : Bool :=
  p == .conservation && x.kind = 10 && n = 4 && x.fields[4]? == some 1 && !s.log.sinceSelection

/-- FETCH at the port (R184). -/
def State.takeFetch (q : Req) (s : State) : State :=
  match (s.port q.port).selection with
  | none => s.answer q 0x02 .noSelection 0
  | some x =>
    match x.fields[q.value.toNat]? with
    | none => s.answer q 0x02 .range 0
    | some v =>
      let s' := s.answer q 0x02 .ok v.toNat
      if clearsOverflow s q.port x q.value.toNat then s'.setLogRet { s'.ret.log with overflow := false } else s'

/-- FETCH (R184). -/
def execFetch (q : Req) (s : State) : Answer := deliver (.port q.port) (.fetch q) s (State.takeFetch q)

/-- The place of an entry among those pending: the smallest is the highest (R188). -/
def attentionRank (r : PortRec) (a : Attention) : Nat :=
  1000 * (2 - levelCode (r.causes.get a.cause).level) + 8 * causeNum a.cause +
    (match a.g with | some g => galleryNum g + 1 | none => 0)

/-- The highest of the entries `l` and `a` (R188). -/
def highestOf (r : PortRec) (a : Attention) : List Attention → Attention
  | [] => a
  | b :: l => highestOf r (if attentionRank r b < attentionRank r a then b else a) l

/-- The highest entry of the pending set, if any (R188). -/
def PortRec.highest (r : PortRec) : Option Attention :=
  match r.pending with
  | [] => none
  | a :: l => some (highestOf r a l)

/-- An entry as NEXT ATTENTION reports it (R188). -/
def attentionData (a : Attention) : Nat :=
  256 * causeNum a.cause + (match a.g with | some g => galleryNum g | none => 255)

/-- NEXT ATTENTION at the port (R188). -/
def State.takeNext (q : Req) (s : State) : State :=
  let r := s.port q.port
  match r.highest with
  | none => s.answer q 0x03 .ok 255
  | some a => (s.setPort q.port (PortRec.drive { r with pending := r.pending.erase a })).answer q 0x03 .ok (attentionData a)

/-- NEXT_ATTENTION (R188). -/
def execNextAttention (q : Req) (s : State) : Answer := deliver (.port q.port) (.nextAttention q) s (State.takeNext q)

/-- The level a code of 0 to 2 names (R190). -/
def levelOf : Nat → Option Level
  | 0 => some .low
  | 1 => some .mid
  | 2 => some .high
  | _ => none

/-- A cause takes an enable and a level; disabling it removes its entries (R190). -/
def PortRec.setCause (r : PortRec) (c : Cause) (v : CauseCfg) : PortRec :=
  PortRec.drive { r with
    causes := r.causes.set c v, pending := if v.enabled then r.pending else r.pending.filter fun a => a.cause != c }

/-- SET ATTENTION at the port (R190). A cause that is not routed to the port is refused with NOT_PERMITTED whatever the value,
an order that R190 leaves open (DESIGN CHOICE, log entry 38), and the gallery field is not read, which it leaves open too
(DESIGN CHOICE, log entry 40). -/
def State.takeSet (q : Req) (s : State) : State :=
  match causeOf q.sub.toNat with
  | none => s.answer q 0x04 .range 0
  | some c =>
    if routed c q.port then
      match levelOf (q.value.toNat / 2) with
      | none => s.answer q 0x04 .range 0
      | some l =>
        (s.setPort q.port ((s.port q.port).setCause c ⟨q.value.getLsbD 0, l⟩)).answer q 0x04 .ok q.value.toNat
    else s.answer q 0x04 .notPermitted 0

/-- SET_ATTENTION (R190). -/
def execSetAttention (q : Req) (s : State) : Answer := deliver (.port q.port) (.setAttention q) s (State.takeSet q)

/-- ATTENTION MODE at the port (R189). The gallery field is not read, which R189 leaves open (DESIGN CHOICE, log entry 40). -/
def State.takeMode (q : Req) (s : State) : State :=
  if 4 ≤ q.value.toNat then s.answer q 0x05 .range 0
  else
    (s.setPort q.port (PortRec.drive { s.port q.port with
      mode := if q.value.getLsbD 0 then .pulse else .level, masterEnable := q.value.getLsbD 1
      })).answer q 0x05 .ok q.value.toNat

/-- ATTENTION_MODE (R189). -/
def execAttentionMode (q : Req) (s : State) : Answer := deliver (.port q.port) (.attentionMode q) s (State.takeMode q)

/-! ## Presence -/

/-- The MASTER_PRESENCE attention of a port to the other two (R185). -/
def State.tellOthers (s : State) (p : Port) : State :=
  if s.startComplete then
    match p with
    | .climate => (s.send (.attentionNotice .lighting .masterPresence none)).send
        (.attentionNotice .conservation .masterPresence none)
    | .lighting => (s.send (.attentionNotice .climate .masterPresence none)).send
        (.attentionNotice .conservation .masterPresence none)
    | .conservation => (s.send (.attentionNotice .climate .masterPresence none)).send
        (.attentionNotice .lighting .masterPresence none)
  else s

/-- The presence notice of a port to the block that hears of it (R185). -/
def State.sendPresence (s : State) (p : Port) (v : Presence) : State :=
  match p with
  | .climate => s.send (.presenceNoticeAtClimate v)
  | .lighting => s.send (.presenceNoticeAtDarkening v)
  | .conservation => s

/-- A port's judgement of its master becomes `v` with silence count `n`, and a change is told (R185). -/
def State.setPresence (s : State) (p : Port) (v : Presence) (n : Nat) : State :=
  let old := (s.port p).presence
  let s := s.setPort p { s.port p with presence := v, silence := n }
  if old = v then s else (s.tellOthers p).sendPresence p v

/-- The second mark makes the master ABSENT (R185). -/
def fallsSilent (s : State) (p : Port) : Bool :=
  (s.port p).presence != .absent && decide (timeoutSeconds (s.ret.timeouts.get p) ≤ (s.port p).silence + 1)

/-- A second mark at a port (R185). -/
def State.portSecond (p : Port) (s : State) : State :=
  let r := s.port p
  if r.presence = .absent then s
  else s.setPresence p (if fallsSilent s p then .absent else r.presence) (r.silence + 1)

/-- The delivery of a second mark to a port controller. -/
def portMark (p : Port) (t : SecondStamp) (s : State) : Answer :=
  deliver (.port p) (.secondMarkAtPort p t) s (State.portSecond p)

/-- SECOND_MARK_AT_PORT (R185). -/
def execSecondMarkAtPort (p : Port) (t : SecondStamp) (s : State) : Answer := portMark p t s

/-- SILENCE_TIMEOUT (R185): the second mark at which the silence count reaches the timeout. -/
def execSilenceTimeout (p : Port) (t : SecondStamp) (s : State) : Answer :=
  onlyWhen (fallsSilent s p) s (portMark p t s)

/-- The port a sub-argument of SILENCE SETUP names (R186). -/
def portOf : Nat → Option Port
  | 0 => some .climate
  | 1 => some .lighting
  | 2 => some .conservation
  | _ => none

/-- SILENCE_SETUP (R186), taken by the controller of the port it names (log entry 11). The gallery field is not read, which
R186 leaves open (DESIGN CHOICE, log entry 40). -/
def execSilenceSetup (q : Req) (s : State) : Answer :=
  request (.port ((portOf q.sub.toNat).getD .conservation)) (.silenceSetup q) 0x22 conservationOnly q s fun s =>
    match portOf q.sub.toNat with
    | none => refuse s .range
    | some p =>
      if 3 < q.value.toNat then (s.setTimeout p 3, .clamped, 3) else (s.setTimeout p q.value.toNat, .ok, q.value.toNat)

/-! ## Requests of other owners -/

/-- The WRITE CHANNEL command of a field number (R11, R192). -/
def writeChannelCmd (n : Nat) (q : Req) : Option Instr :=
  match n with
  | 0 => some (.writeChannelEnable q)
  | 1 => some (.writeChannelGain q)
  | 2 => some (.writeChannelOffset q)
  | 3 => some (.writeChannelCorrectionLimit q)
  | 4 => some (.writeChannelDeviationUnit q)
  | 5 => some (.writeChannelFilterMode q)
  | 6 => some (.writeChannelFastLimit q)
  | 7 => some (.writeChannelSlowLimit q)
  | 8 => some (.writeChannelHold q)
  | _ => none

/-- The command that carries a request of code `n` to the block that owns it; none when no command has the sub-argument,
which the owner refuses with RANGE (R134, R146, R192). -/
def ownerCmd (n : Nat) (q : Req) : Option Instr :=
  match n with
  | 0x08 => some (.queryAllowance q)
  | 0x09 => some (.declareLevel q)
  | 0x0A => some (if q.port = .lighting then .lightingDarken q else .conservationDarken q)
  | 0x0B => some (if q.port = .lighting then .lightingRelease q else .conservationRelease q)
  | 0x0C => some (.queryBand q)
  | 0x0D => some (.declareSetpoint q)
  | 0x10 => some (.writeStaged q)
  | 0x11 => some (.commit q)
  | 0x12 => some (.discard q)
  | 0x13 => some (.loanLock q)
  | 0x14 => some (.startPeriod q)
  | 0x15 => some (.setDate q)
  | 0x16 => some (.setTime q)
  | 0x17 => some (.unsetClock q)
  | 0x18 => writeChannelCmd (q.sub.toNat % 8) q
  | 0x19 => writeChannelCmd (8 + q.sub.toNat % 8) q
  | 0x1A => some (if q.sub.getLsbD 0 then .calibrateSpan q else .calibrateZero q)
  | 0x1B => some (.check q)
  | 0x1C => some (.cancelCheck q)
  | 0x1D => some (.checkSetup q)
  | 0x1E => if q.sub = 0 then some (.partitionSet q) else if q.sub = 1 then some (.partitionWithdraw q) else none
  | 0x1F => some (.advanceMark q)
  | 0x20 => if q.sub = 0 then some (.ackExcursionOne q) else if q.sub = 1 then some (.ackExcursionAllClosed q) else none
  | 0x21 => some (.triggerSetup q)
  | 0x22 => some (.silenceSetup q)
  | _ => none

/-- A request of code `n` owned by another block: the pending reply is NONE until the owner's answer is taken (R182). -/
def State.forward (s : State) (n : Nat) (q : Req) : State :=
  let s := s.answer q n .none 0
  match ownerCmd n q with
  | some c => s.send c
  | none => s.send (.replyNotice q.port (replyTo q n .range 0))

/-- A permitted request of a valid frame is taken (R182). -/
def State.takeRequest (s : State) (n : Nat) (q : Req) : State :=
  match n with
  | 0x00 => s.takeNop q
  | 0x01 => s.takeSelect q
  | 0x02 => s.takeFetch q
  | 0x03 => s.takeNext q
  | 0x04 => s.takeSet q
  | 0x05 => s.takeMode q
  | _ => s.forward n q

/-- The request of a valid frame is judged (R182). -/
def State.judgeRequest (s : State) (n : Nat) (q : Req) : State :=
  match requestPorts n with
  | none => s.answer q n .unknownRequest 0
  | some f => if f q.port then s.takeRequest n q else s.answer q n .notPermitted 0

/-! ## Frames -/

/-- FRAME_BEGIN (R180): select is asserted, and the frame will shift out the pending reply as it stands. -/
def execFrameBegin (p : Port) (s : State) : Answer :=
  match (s.lines.get p).frame with
  | some _ => .next s
  | none => .next (s.setLines p { s.lines.get p with frame := some ⟨(s.port p).reply, !s.startComplete⟩ })

/-- The first two bits of a frame equal the straps (R180). -/
def addressed (straps : BitVec 2) (bits : List Bool) : Bool :=
  bits[0]? == some (straps.getLsbD 1) && bits[1]? == some (straps.getLsbD 0)

/-- What a panel shifts out in a frame of these bits, one bit for each clock to the end of the frame: the reply, the two
undriven bits reading 1, and past its 48 bits the bits `beyond`; none when it leaves the line undriven (R180; log entry
12). -/
def shiftedOut (straps : BitVec 2) (r : Reply) (beyond : Nat → Bool) (bits : List Bool) : Option (List Bool) :=
  if addressed straps bits then
    some (((replyBytes (resultCode r.result) r).flatMap byteBits ++ (List.range (bits.length - 48)).map beyond).take
      bits.length)
  else none

/-- The serial lines of port `p` after a frame of these bits that began with the pending reply `r` (R180). -/
def PortLines.closed (w : PortLines) (p : Port) (straps : BitVec 2) (r : Reply) (bits : List Bool) : PortLines where
  frame := none
  dataOut := shiftedOut straps r (Config.dataOutBeyond p w.overruns) bits
  overruns := if 48 < bits.length then w.overruns + 1 else w.overruns

/-- The request code of a frame: bits 5 to 0 of byte 0 (R182). -/
def frameCode (bits : List Bool) : Nat := (frameByte bits 0).toNat % 64

/-- The reply to a discarded frame: data 0, with the code and the tag as they were received (R181). -/
def discardReply (bits : List Bool) (r : Result) : Reply := ⟨r, BitVec.ofNat 6 (frameCode bits), 0, frameByte bits 4⟩

/-- The CRC of a frame agrees (R181). -/
def crcAgrees (bits : List Bool) : Bool :=
  frameByte bits 5 == crc8 [frameByte bits 0, frameByte bits 1, frameByte bits 2, frameByte bits 3, frameByte bits 4]

/-- Why a frame is discarded, if it is (R181, steps 1 to 3). -/
def frameFault (straps : BitVec 2) (bits : List Bool) : Option Result :=
  if bits.length ≠ 48 then some .frameError
  else if !crcAgrees bits then some .frameError
  else if !addressed straps bits then some .panelMismatch
  else none

/-- A frame that ends is judged (R181, R182, R185). -/
def State.judgeFrame (s : State) (p : Port) (bits : List Bool) : State :=
  match frameFault s.straps bits with
  | some r => s.setReply p (discardReply bits r)
  | none => (s.setPresence p .present 0).judgeRequest (frameCode bits) (frameReq p bits)

/-- FRAME_END (R180 to R182): select is released after the bits received. -/
def execFrameEnd (p : Port) (bits : List Bool) (s : State) : Answer :=
  let w := s.lines.get p
  match w.frame with
  | none => .next s
  | some f =>
    if f.discard || !s.startComplete then .next (s.setLines p { w with frame := none })
    else .next ((s.setLines p (w.closed p s.straps f.reply bits)).judgeFrame p bits).seal

end Sys2Proof.Machine
end

