-- ==== Sys2Proof/Machine/TimeBase.lean ====
section
/-! DEFINITION. The time base: the advance of the clock with its second, hour and day marks, and the clock writes SET DATE,
SET TIME and UNSET CLOCK (R37 to R46). -/

namespace Sys2Proof.Machine

/-- The clock one second on (R38). -/
def Clock.advance (c : Clock) : Clock :=
  if c.second + 1 < 60 then { c with second := c.second + 1 }
  else if c.minute + 1 < 1440 then { c with second := 0, minute := c.minute + 1 }
  else { c with second := 0, minute := 0, day := (c.day + 1) % 65536, weekday := (c.weekday + 1) % 7 }

/-- An advance to this clock has ended an hour (R39). -/
def atHour (c : Clock) : Bool := c.second = 0 && c.minute % 60 = 0

/-- The oscillator and its counters run: while VDD is present, and without it as long as the retained domain stays supplied
(R38, R50, R51). -/
def State.clockRuns (s : State) : Bool := s.phase != .unpowered || !s.latch

/-- The second marks of an advance (R38). -/
def State.sendSecondMarks (s : State) : State :=
  let t := secondStamp s.clock
  (((((s.send (.secondMarkAtLight t)).send (.secondMarkAtDarkening t)).send (.secondMarkAtPort .climate t)).send
    (.secondMarkAtPort .lighting t)).send (.secondMarkAtPort .conservation t)).send (.secondMarkAtSequencer t)

/-- An hour mark is issued: it is sent, its beginning stamp becomes the last mark stamp, and HOUR_MARK is raised (R39). -/
def State.issueHourMark (s : State) (m : HourMark) : State :=
  let s := s.sendHourMark m
  (s.setClock { s.clock with lastMarkDay := m.beginning.day, lastMarkHour := m.beginning.hour }).attend .hourMark none

/-- The hour mark of an advance from clock `c` to clock `c'` (R39). -/
def naturalMark (c c' : Clock) : HourMark := ⟨hourStamp c, hourStamp c', hourOf c' = 0, false⟩

/-- One advance of the oscillator (R38, R39): the second mark first, and then the hour mark of an hour that ended. -/
def State.advance (s : State) : State :=
  if s.clockRuns then
    let c := s.clock
    let s := s.setClock c.advance
    if s.startComplete then
      let s := s.sendSecondMarks
      if atHour s.clock then s.issueHourMark (naturalMark c s.clock) else s
    else s
  else s

/-- One advance, with the check code brought up to date (R49). -/
def tick (s : State) : Answer := .next (if s.clockRuns then s.advance.seal else s)

/-- CLOCK_ADVANCE (R38). -/
def execClockAdvance (s : State) : Answer := tick s

/-- The next advance ends an hour and is taken by a running part. -/
def endsHour (s : State) : Bool := s.startComplete && atHour s.clock.advance

/-- HOUR_MARK (R39): the advance that ends an hour. -/
def execHourMark (s : State) : Answer := onlyWhen (endsHour s) s (tick s)

/-- SET_DATE (R40, R41). -/
def execSetDate (q : Req) (s : State) : Answer :=
  request .timeBase (.setDate q) 0x15 conservationOnly q s fun s =>
    if 7 ≤ q.sub.toNat then refuse s .range
    else if s.clock.isSet then refuse s .locked
    else
      (s.setClock { s.clock with
        day := q.value.toNat, weekday := q.sub.toNat, dateReceived := true, isSet := s.clock.timeReceived
      }, .ok, q.value.toNat)

/-- The difference of two minutes of the day, as plain numbers (R43). -/
def minuteDiff (a b : Nat) : Nat := (a - b) + (b - a)

/-- The mark of a clock write that changed the hour of clock `c` to that of `c'` (R44). -/
def changedMark (c c' : Clock) : HourMark := ⟨hourStamp c, ⟨c.day, c.weekday, hourOf c'⟩, false, true⟩

/-- A SET TIME that is taken: the minute is written, the second becomes 0, and a changed hour sends one CLOCK_CHANGED hour
mark after the write (R42, R43, R44). -/
def State.writeTime (s : State) (m : Nat) : State :=
  let c := s.clock
  let s := s.setClock { c with minute := m, second := 0, timeReceived := true, isSet := c.isSet || c.dateReceived }
  if hourOf s.clock = hourOf c then s else s.issueHourMark (changedMark c s.clock)

/-- SET_TIME (R40, R42, R43, R44). -/
def execSetTime (q : Req) (s : State) : Answer :=
  request .timeBase (.setTime q) 0x16 conservationOnly q s fun s =>
    if 1439 < q.value.toNat then refuse s .range
    else if s.clock.isSet ∧ 60 < minuteDiff q.value.toNat s.clock.minute then refuse s .range
    else (s.writeTime q.value.toNat, .ok, q.value.toNat)

/-- UNSET_CLOCK (R40, R45). The data of the OK reply is 0, which the rule does not name (log entry 34). -/
def execUnsetClock (q : Req) (s : State) : Answer :=
  request .timeBase (.unsetClock q) 0x17 conservationOnly q s fun s =>
    (s.setClock { s.clock with isSet := false, dateReceived := false, timeReceived := false }, .ok, 0)

end Sys2Proof.Machine
end

