-- ==== Sys2Proof/Machine/Start.lean ====
section
/-! DEFINITION. Supply, reset and starts: power-up with the judgement of the retained domain, the losses of supply, RESETN,
the start notice at every block, and the commands in flight (R20, R21, R36, R49 to R54, R71, R90 to R93, R100, R123, R124,
R136, R137, R150, R151, R159, R167 to R169, R179, R191). -/

namespace Sys2Proof.Machine

/-! ## What a start finds -/

/-- The blocks, each of which takes a start notice (R52). -/
def blocks : List Block :=
  [.timeBase, .acquisition, .filter, .envelope, .light, .climate, .history, .log, .darkening, .sequencer,
    .port .climate, .port .lighting, .port .conservation]

/-- The state a start gives a channel, from its retained fields (R20, R21). -/
def State.startState (s : State) (c : Chan) : ChanState :=
  if !(s.cfg c).enabled then .disabled else if s.checkFault c then .fault .check else .ok

/-- How many channels of a gallery a start finds faulted (R21). -/
def State.startFaulted (s : State) (g : Gallery) : Nat :=
  (kinds.filter fun k => s.startState ⟨g, k⟩ = .fault .check).length

/-- A type of a gallery is active as the log's start leaves it: one of the gallery's OPEN entries has it (R151). -/
def State.openAtStart (s : State) (g : Gallery) (t : ExcType) : Bool := s.ret.log.pool.any (isOpenOf g t)

/-- A type of a gallery is active as the owners read it at their starts, whichever of them starts first (R124, R151, R168). -/
def State.activeAtStart (s : State) (g : Gallery) (t : ExcType) : Bool :=
  if s.awaiting.contains .log then s.openAtStart g t else s.isActive g t

/-- What the start notices of a start carry (R52). -/
def startInfo (kind : StartKind) (c : Clock) : StartInfo :=
  ⟨kind, c.day, c.weekday, c.minute, c.second, c.lastMarkDay, c.lastMarkHour⟩

/-- The stamp of day number and second-of-day a start notice carries. -/
def infoStamp (i : StartInfo) : SecondStamp := ⟨i.day, i.minute * 60 + i.second⟩

/-- The stamp of day number, weekday and hour a start notice carries. -/
def infoHour (i : StartInfo) : HourStamp := ⟨i.day, i.weekday, i.minute / 60⟩

/-! ## The block of a command -/

/-- The block a command is addressed to, absent for pin, supply and clock events. -/
def blockOf : Instr → Option Block
  | .sampleArrival _ _ => some .acquisition
  | .railFault _ _ => some .acquisition
  | .railRecovery _ _ => some .acquisition
  | .spanCompletion _ _ => some .acquisition
  | .zeroCompletion _ _ => some .acquisition
  | .galleryStartNotice _ => some .acquisition
  | .channelEnterNotice _ => some .acquisition
  | .verdictNotice _ _ => some .acquisition
  | .channelAbortNotice _ => some .acquisition
  | .correctedSampleNotice _ _ => some .filter
  | .stateChangeAtFilter _ => some .filter
  | .stateChangeAtLight _ => some .light
  | .stateChangeAtClimate _ => some .climate
  | .trackedUpdateAtHistory _ => some .history
  | .trackedUpdateAtLight _ => some .light
  | .trackedUpdateAtClimate _ => some .climate
  | .trackedUpdateAtDarkening _ => some .darkening
  | .clockAdvance => none
  | .hourMark => none
  | .secondMarkAtLight _ => some .light
  | .overCounterExpiry _ _ => some .light
  | .secondMarkAtDarkening _ => some .darkening
  | .delayExpiry _ _ => some .darkening
  | .timeToDarkExpiry _ _ => some .darkening
  | .heldMinute _ _ => some .darkening
  | .hardLuxCountExpiry _ _ => some .darkening
  | .secondMarkAtPort p _ => some (.port p)
  | .silenceTimeout p _ => some (.port p)
  | .secondMarkAtSequencer _ => some .sequencer
  | .dwellExpiry _ => some .sequencer
  | .hourMarkAtEnvelope _ => some .envelope
  | .hourMarkAtLight _ => some .light
  | .dayMarkAtHistory _ => some .history
  | .hourCloseNotice _ => some .history
  | .recordWrittenNotice _ _ _ => some .climate
  | .aggregateChangeNotice _ => some .climate
  | .envelopeChangedAtLight _ => some .light
  | .envelopeChangedAtClimate _ => some .climate
  | .envelopeChangedAtDarkening _ => some .darkening
  | .exhaustionChangeNotice _ _ => some .darkening
  | .darkeningStateAtLight _ _ => some .light
  | .darkeningStateAtSequencer _ _ => some .sequencer
  | .presenceNoticeAtClimate _ => some .climate
  | .presenceNoticeAtDarkening _ => some .darkening
  | .openNotice _ _ _ _ => some .log
  | .valueNotice _ _ _ => some .log
  | .closeNotice _ _ => some .log
  | .attentionNotice p _ _ => some (.port p)
  | .frameEnd _ _ => none
  | .replyNotice p _ => some (.port p)
  | .nop q => some (.port q.port)
  | .select q => some (.port q.port)
  | .fetch q => some (.port q.port)
  | .nextAttention q => some (.port q.port)
  | .setAttention q => some (.port q.port)
  | .attentionMode q => some (.port q.port)
  | .queryAllowance _ => some .light
  | .declareLevel _ => some .light
  | .lightingDarken _ => some .darkening
  | .lightingRelease _ => some .darkening
  | .conservationDarken _ => some .darkening
  | .conservationRelease _ => some .darkening
  | .queryBand _ => some .climate
  | .declareSetpoint _ => some .climate
  | .writeStaged _ => some .envelope
  | .commit _ => some .envelope
  | .discard _ => some .envelope
  | .loanLock _ => some .envelope
  | .startPeriod _ => some .light
  | .setDate _ => some .timeBase
  | .setTime _ => some .timeBase
  | .unsetClock _ => some .timeBase
  | .writeChannelEnable _ => some .acquisition
  | .writeChannelGain _ => some .acquisition
  | .writeChannelOffset _ => some .acquisition
  | .writeChannelCorrectionLimit _ => some .acquisition
  | .writeChannelDeviationUnit _ => some .acquisition
  | .writeChannelFilterMode _ => some .acquisition
  | .writeChannelFastLimit _ => some .acquisition
  | .writeChannelSlowLimit _ => some .acquisition
  | .writeChannelHold _ => some .acquisition
  | .calibrateZero _ => some .acquisition
  | .calibrateSpan _ => some .acquisition
  | .check _ => some .sequencer
  | .stepReading _ _ _ => some .sequencer
  | .cancelCheck _ => some .sequencer
  | .checkSetup _ => some .sequencer
  | .partitionSet _ => some .history
  | .partitionWithdraw _ => some .history
  | .advanceMark _ => some .history
  | .ackExcursionOne _ => some .log
  | .ackExcursionAllClosed _ => some .log
  | .triggerSetup _ => some .darkening
  | .silenceSetup q => some (.port ((portOf q.sub.toNat).getD .conservation))
  | .triggerRise _ => none
  | .triggerFall _ => none
  | .powerUp => none
  | .mainSupplyLoss => none
  | .supplyLossLatch => none
  | .resetnAssert => none
  | .resetnRelease => none
  | .startNotice _ _ => none
  | .frameBegin _ => none

/-! ## The start notice, block by block -/

/-- The acquisition unit (R20, R21). -/
def State.startAcquisition (s : State) (i : StartInfo) : State :=
  let s := match i.kind with
    | .cold => { s with ret := { s.ret with cfg := Retained.cold.cfg, checkFault := Retained.cold.checkFault } }
    | .warm => s
  { s with
    acq := ⟨.ofFn fun g => .ofFn fun k => .start (s.startState ⟨g, k⟩), none, .ofFn s.startFaulted⟩ }

/-- A channel configuration with the default filter fields (R36). -/
def ChanCfg.defaultFilter (c : ChanCfg) (k : Kind) : ChanCfg :=
  { c with mode := .stepped, fast := defaultFast k, slow := defaultSlow k, hold := false }

/-- The tracked update of a channel at a start (R36). -/
def State.startUpdate (s : State) (c : Chan) : State :=
  s.sendTracked ⟨c, .state, none, s.startState c, (s.cfg c).du⟩

/-- The tracking filter bank (R36): the 24 channels in turn. -/
def State.startFilter (s : State) (i : StartInfo) : State :=
  let s := match i.kind with
    | .cold => { s with ret := { s.ret with cfg := .ofFn fun g => .ofFn fun k => (s.cfg ⟨g, k⟩).defaultFilter k } }
    | .warm => s
  let s := { s with trackers := .ofFn fun g => .ofFn fun k => .start (s.startState ⟨g, k⟩) }
  forGalleries (fun g s => kinds.foldl (fun s k => s.startUpdate ⟨g, k⟩) s) s

/-- The envelope table (R71). -/
def State.startEnvelope (s : State) (i : StartInfo) : State :=
  let s := match i.kind with
    | .cold => { s with ret := { s.ret with env := Retained.cold.env } }
    | .warm => s
  { s with env := .ofFn fun g => ⟨s.active g, false⟩ }

/-- The unretained record of a gallery of the light account unit at a start (R73, R91, R100). -/
def State.startLightRec (s : State) (g : Gallery) : LightRec :=
  { LightRec.cold with
    lState := s.startState ⟨g, .lux⟩, uState := s.startState ⟨g, .uv⟩, uDu := (s.cfg ⟨g, .uv⟩).du, env := s.active g }

/-- `n` day steps of an account (R92). -/
def State.daySteps (g : Gallery) : Nat → State → State
  | 0, s => s
  | n + 1, s => (s.dayStep g).daySteps g n

/-- The days passed from one day number to another, modulo 65536 (R92). -/
def daysPassed (from_ to_ : Nat) : Nat := (to_ + 65536 - from_) % 65536

/-- The catch-up fold and day steps of a gallery at a warm start (R91, R92; the value notice of an exhausted account, log entry
37). -/
def State.catchUp (s : State) (g : Gallery) (i : StartInfo) : State :=
  let st := (s.account g).stamp
  let s := if st.day = i.day ∧ st.hour = i.minute / 60 then s else s.foldHour g st false true
  s.daySteps g (daysPassed st.day i.day)

/-- The light account unit at one gallery at a warm start (R91 to R93, R100). -/
def State.warmLight (i : StartInfo) (g : Gallery) (s : State) : State :=
  let s := (s.setLight g (s.startLightRec g)).catchUp g i
  ((s.renewHour g (infoHour i) false false).reevalExhausted g).recompute g

/-- The light account unit at one gallery at a cold start (R90, R100). -/
def State.coldLight (g : Gallery) (s : State) : State :=
  ((s.setAccount g .cold).setLight g (s.startLightRec g)).recompute g

/-- The light account unit (R90 to R93, R100). -/
def State.startLight (s : State) (i : StartInfo) : State :=
  match i.kind with
  | .cold => forGalleries State.coldLight s
  | .warm => forGalleries (State.warmLight i) s

/-- The kept copy of an H or T channel at a start (R123). -/
def State.startCopy (s : State) (c : Chan) : ChanCopy := ⟨none, s.startState c, (s.cfg c).du⟩

/-- The climate record of a gallery at a start, before its bands are computed (R123, R124). -/
def State.startClimateRec (s : State) (i : StartInfo) (g : Gallery) : ClimateRec :=
  let f := fun t => match i.kind with
    | .cold => false
    | .warm => s.activeAtStart g t
  { ClimateRec.cold with
    rhHigh := f .rhHigh, rhLow := f .rhLow, rhSwing := f .rhSwing, tHigh := f .tHigh, tLow := f .tLow, tSwing := f .tSwing,
    h := s.startCopy ⟨g, .rh⟩, tc := s.startCopy ⟨g, .temp⟩, env := s.active g }

/-- The climate unit (R123, R124). -/
def State.startClimate (s : State) (i : StartInfo) : State :=
  forGalleries (fun g s => (s.setClimate g (s.startClimateRec i g)).computeBands g) s

/-- The history store (R136, R137). -/
def State.startHistory (s : State) (i : StartInfo) : State :=
  let s := match i.kind with
    | .cold => s.setHistory .cold
    | .warm => if i.day = i.lastMarkDay then s else s.setHistory (s.ret.history.applyPartition none)
  { s with agg := .ofFn fun g => .start (s.startState ⟨g, .rh⟩) (s.startState ⟨g, .temp⟩) }

/-- The log's single re-evaluation of SENSOR_FAULT at one gallery (R151). -/
def State.reevalFault (i : StartInfo) (g : Gallery) (s : State) : State :=
  if s.startFaulted g = 0 ∧ s.isActive g .sensorFault = true then s.closeExc g .sensorFault (infoStamp i) false else s

/-- The excursion log (R150, R151). -/
def State.startLog (s : State) (i : StartInfo) : State :=
  match i.kind with
  | .cold => { s.setLogRet Retained.cold.log with log := ⟨.all (.all false), false⟩ }
  | .warm => forGalleries (State.reevalFault i) { s with log := ⟨.ofFn fun g => .ofFn (s.openAtStart g), true⟩ }

/-- The sources in the order of R169. -/
def sourceList : List Source := [.hardLux, .inputA, .inputB, .lightReq, .conservationReq, .exhaust, .lightSilence]

/-- An input that fell while the part was held leaves a source set (R168, step 1). -/
def State.dropFallen (s : State) (x : Trigger) (set : SourceSet) : SourceSet :=
  if (s.ret.triggers.get x).autoRelease && !(s.trigger.get x) then set.put (inputSource x) false else set

/-- The outcome record of a gallery re-darkened at a warm start (R169). -/
def redarkened (i : StartInfo) (x : SourceSet) : OutcomeRec :=
  ⟨some (infoStamp i), sourceList.find? x.has, x, some 0, none, .inProgress, 0, none⟩

/-- The darkening controller at one gallery at a warm start, its source set being left as it is now (R168, R169). -/
def State.warmDark (i : StartInfo) (g : Gallery) (s : State) : State :=
  let x := s.dropFallen .b (s.dropFallen .a (s.sources g))
  let r := DarkRec.start (s.startState ⟨g, .lux⟩) (s.active g) (s.activeAtStart g .luxHard)
  let s := s.setSources g x
  if x.isEmpty then ((s.setDark g r).setShade g false).sendDarkState g false
  else ((s.setDark g { r with outcome := redarkened i x }).enterDarkening g 0).sendDarkState g true

/-- The darkening controller at one gallery at a cold start (R167). -/
def State.coldDark (g : Gallery) (s : State) : State :=
  (((s.setSources g .empty).setDark g (.start (s.startState ⟨g, .lux⟩) (s.active g) false)).setShade g false).sendDarkState
    g false

/-- The darkening controller (R167 to R169). -/
def State.startDarkening (s : State) (i : StartInfo) : State :=
  match i.kind with
  | .cold =>
    forGalleries State.coldDark ((s.setTriggerCfg .a ⟨0, false, false⟩).setTriggerCfg .b ⟨0, false, false⟩)
  | .warm => forGalleries (State.warmDark i) s

/-- The self-check sequencer (R179). -/
def State.startSequencer (s : State) (i : StartInfo) : State :=
  (match i.kind with
    | .cold => s.setSetup ⟨.all true, 1⟩
    | .warm => s).setSeq .start

/-- A port controller (R191). -/
def State.startPort (s : State) (p : Port) (i : StartInfo) : State :=
  ((match i.kind with
    | .cold => s.setTimeout p 2
    | .warm => s).setPort p .start).sendPresence p .unknown

/-- What a block does with its start notice. The time base has set its clock record when it sent the notices (R54). -/
def State.startBlock (s : State) (b : Block) (i : StartInfo) : State :=
  match b with
  | .timeBase => s
  | .acquisition => s.startAcquisition i
  | .filter => s.startFilter i
  | .envelope => s.startEnvelope i
  | .light => s.startLight i
  | .climate => s.startClimate i
  | .history => s.startHistory i
  | .log => s.startLog i
  | .darkening => s.startDarkening i
  | .sequencer => s.startSequencer i
  | .port p => s.startPort p i

/-- The commands that waited for block `b` come next, in the order they arrived (R137, R151, R168; ahead of what is in flight,
log entry 1). -/
def State.admitWaiting (s : State) (b : Block) : State :=
  { s with
    inFlight := (s.waiting.filter fun c => blockOf c = some b) ++ s.inFlight,
    waiting := s.waiting.filter fun c => blockOf c ≠ some b }

/-- A block has taken its start notice, and what waited for it follows; with the last one the start is complete, and the last
mark stamp becomes the clock's day number and hour (R52). -/
def State.started (s : State) (b : Block) : State :=
  let s := { s.admitWaiting b with awaiting := s.awaiting.filter fun x => x ≠ b }
  if s.awaiting.isEmpty then s.setClock { s.clock with lastMarkDay := s.clock.day, lastMarkHour := hourOf s.clock } else s

/-- While a block takes its start notice the start is under way (R191). -/
def State.starting (s : State) (b : Block) : State :=
  if s.awaiting.contains b then s else { s with awaiting := b :: s.awaiting }

/-- START_NOTICE (R52): block `b` sets its own state. -/
def execStartNotice (b : Block) (i : StartInfo) (s : State) : Answer :=
  if s.phase = .running then
    .next ((((s.take (.startNotice b i)).starting b).startBlock b i).started b).seal
  else .next s

/-! ## Starts and losses -/

/-- A start begins: the last start field is written, and every block is sent its start notice (R50 to R52). -/
def State.beginStart (s : State) (kind : StartKind) (last : LastStart) : State :=
  let s := s.setClock { s.clock with lastStart := last }
  { s with
    phase := .running, awaiting := blocks, inFlight := blocks.map fun b => .startNotice b (startInfo kind s.clock),
    waiting := []
  }.seal

/-- The retained domain is valid (R49). -/
def State.valid (s : State) : Bool := !s.latch && s.checkCode = Config.checkCodeOf s.ret

/-- POWER_UP (R50, R54): VDD rises while the part is unpowered. -/
def execPowerUp (s : State) : Answer :=
  if s.phase = .unpowered then
    if s.valid then .next (s.beginStart .warm .warmPower)
    else .next (State.beginStart { s with ret := .cold, latch := false } .cold .cold)
  else .next s

/-- What lies outside the retained domain is lost: every block's state, the notices in flight and waiting, and every frame in
progress. The values stand for what no rule can read before a start sets it afresh (R51, R180; log entry 5). -/
def State.lose (s : State) : State :=
  { s with
    awaiting := [], inFlight := [], waiting := [], acq := State.reset.acq, trackers := State.reset.trackers,
    env := State.reset.env, light := State.reset.light, climate := State.reset.climate, agg := State.reset.agg,
    log := State.reset.log, dark := State.reset.dark, seq := State.reset.seq,
    ports := .ofFn fun p => { PortRec.start with line := Config.heldAttentionLine p },
    lines := .ofFn fun p => { s.lines.get p with frame := (s.lines.get p).frame.map fun f => { f with discard := true } } }

/-- MAIN_SUPPLY_LOSS (R49, R159): VDD is lost, and every SHADE output is released. -/
def execMainSupplyLoss (s : State) : Answer :=
  if s.phase = .unpowered then .next s else .next { s.lose with phase := .unpowered, shade := .all false }

/-- SUPPLY_LOSS_LATCH (R49): with VDD absent, the supply of the retained domain falls below its retention level. -/
def execSupplyLossLatch (s : State) : Answer :=
  if s.phase = .unpowered then .next { s with latch := true } else .next s

/-- RESETN_ASSERT (R51, R159): every block is held, and SHADE follows the retained source sets. -/
def execResetnAssert (s : State) : Answer :=
  if s.phase = .running then
    .next { s.lose with phase := .heldReset, shade := .ofFn fun g => !(s.sources g).isEmpty }
  else .next s

/-- RESETN_RELEASE (R51): the part makes a warm start without judging the check code. -/
def execResetnRelease (s : State) : Answer :=
  if s.phase = .heldReset then .next (s.beginStart .warm .warmReset) else .next s

/-! ## Commands in flight -/

/-- The block of a command in flight is ready for it: it does not await a start notice (R137, R151, R168). -/
def State.readyFor (s : State) (c : Instr) : Bool :=
  match blockOf c with
  | some b => !s.awaiting.contains b
  | none => true

/-- The oldest command in flight whose block is ready for it (log entry 1). -/
def State.nextInFlight (s : State) : Option Instr := s.inFlight.find? s.readyFor

end Sys2Proof.Machine
end

