-- ==== Sys2Proof/Machine/Dispatch.lean ====
section
/-! DEFINITION. The dispatch of a command to its meaning, one arm for each row of the table. -/

namespace Sys2Proof.Machine

def exec (i : Instr) (s : State) : Host.Outcome State Fault Refusal :=
  match i with
  | .sampleArrival c r => Sys2Proof.Machine.execSampleArrival c r s
  | .railFault c r => Sys2Proof.Machine.execRailFault c r s
  | .railRecovery c r => Sys2Proof.Machine.execRailRecovery c r s
  | .spanCompletion c r => Sys2Proof.Machine.execSpanCompletion c r s
  | .zeroCompletion c r => Sys2Proof.Machine.execZeroCompletion c r s
  | .galleryStartNotice g => Sys2Proof.Machine.execGalleryStartNotice g s
  | .channelEnterNotice c => Sys2Proof.Machine.execChannelEnterNotice c s
  | .verdictNotice c v => Sys2Proof.Machine.execVerdictNotice c v s
  | .channelAbortNotice c => Sys2Proof.Machine.execChannelAbortNotice c s
  | .correctedSampleNotice c x => Sys2Proof.Machine.execCorrectedSampleNotice c x s
  | .stateChangeAtFilter n => Sys2Proof.Machine.execStateChangeAtFilter n s
  | .stateChangeAtLight n => Sys2Proof.Machine.execStateChangeAtLight n s
  | .stateChangeAtClimate n => Sys2Proof.Machine.execStateChangeAtClimate n s
  | .trackedUpdateAtHistory u => Sys2Proof.Machine.execTrackedUpdateAtHistory u s
  | .trackedUpdateAtLight u => Sys2Proof.Machine.execTrackedUpdateAtLight u s
  | .trackedUpdateAtClimate u => Sys2Proof.Machine.execTrackedUpdateAtClimate u s
  | .trackedUpdateAtDarkening u => Sys2Proof.Machine.execTrackedUpdateAtDarkening u s
  | .clockAdvance => Sys2Proof.Machine.execClockAdvance s
  | .hourMark => Sys2Proof.Machine.execHourMark s
  | .secondMarkAtLight t => Sys2Proof.Machine.execSecondMarkAtLight t s
  | .overCounterExpiry g t => Sys2Proof.Machine.execOverCounterExpiry g t s
  | .secondMarkAtDarkening t => Sys2Proof.Machine.execSecondMarkAtDarkening t s
  | .delayExpiry g t => Sys2Proof.Machine.execDelayExpiry g t s
  | .timeToDarkExpiry g t => Sys2Proof.Machine.execTimeToDarkExpiry g t s
  | .heldMinute g t => Sys2Proof.Machine.execHeldMinute g t s
  | .hardLuxCountExpiry g t => Sys2Proof.Machine.execHardLuxCountExpiry g t s
  | .secondMarkAtPort p t => Sys2Proof.Machine.execSecondMarkAtPort p t s
  | .silenceTimeout p t => Sys2Proof.Machine.execSilenceTimeout p t s
  | .secondMarkAtSequencer t => Sys2Proof.Machine.execSecondMarkAtSequencer t s
  | .dwellExpiry t => Sys2Proof.Machine.execDwellExpiry t s
  | .hourMarkAtEnvelope m => Sys2Proof.Machine.execHourMarkAtEnvelope m s
  | .hourMarkAtLight m => Sys2Proof.Machine.execHourMarkAtLight m s
  | .dayMarkAtHistory m => Sys2Proof.Machine.execDayMarkAtHistory m s
  | .hourCloseNotice h => Sys2Proof.Machine.execHourCloseNotice h s
  | .recordWrittenNotice g day hour => Sys2Proof.Machine.execRecordWrittenNotice g day hour s
  | .aggregateChangeNotice a => Sys2Proof.Machine.execAggregateChangeNotice a s
  | .envelopeChangedAtLight e => Sys2Proof.Machine.execEnvelopeChangedAtLight e s
  | .envelopeChangedAtClimate e => Sys2Proof.Machine.execEnvelopeChangedAtClimate e s
  | .envelopeChangedAtDarkening e => Sys2Proof.Machine.execEnvelopeChangedAtDarkening e s
  | .exhaustionChangeNotice g exhausted => Sys2Proof.Machine.execExhaustionChangeNotice g exhausted s
  | .darkeningStateAtLight g notIdle => Sys2Proof.Machine.execDarkeningStateAtLight g notIdle s
  | .darkeningStateAtSequencer g notIdle => Sys2Proof.Machine.execDarkeningStateAtSequencer g notIdle s
  | .presenceNoticeAtClimate p => Sys2Proof.Machine.execPresenceNoticeAtClimate p s
  | .presenceNoticeAtDarkening p => Sys2Proof.Machine.execPresenceNoticeAtDarkening p s
  | .openNotice g t limit value => Sys2Proof.Machine.execOpenNotice g t limit value s
  | .valueNotice g t value => Sys2Proof.Machine.execValueNotice g t value s
  | .closeNotice g t => Sys2Proof.Machine.execCloseNotice g t s
  | .attentionNotice p c g => Sys2Proof.Machine.execAttentionNotice p c g s
  | .frameEnd p bits => Sys2Proof.Machine.execFrameEnd p bits s
  | .replyNotice p r => Sys2Proof.Machine.execReplyNotice p r s
  | .nop q => Sys2Proof.Machine.execNop q s
  | .select q => Sys2Proof.Machine.execSelect q s
  | .fetch q => Sys2Proof.Machine.execFetch q s
  | .nextAttention q => Sys2Proof.Machine.execNextAttention q s
  | .setAttention q => Sys2Proof.Machine.execSetAttention q s
  | .attentionMode q => Sys2Proof.Machine.execAttentionMode q s
  | .queryAllowance q => Sys2Proof.Machine.execQueryAllowance q s
  | .declareLevel q => Sys2Proof.Machine.execDeclareLevel q s
  | .lightingDarken q => Sys2Proof.Machine.execLightingDarken q s
  | .lightingRelease q => Sys2Proof.Machine.execLightingRelease q s
  | .conservationDarken q => Sys2Proof.Machine.execConservationDarken q s
  | .conservationRelease q => Sys2Proof.Machine.execConservationRelease q s
  | .queryBand q => Sys2Proof.Machine.execQueryBand q s
  | .declareSetpoint q => Sys2Proof.Machine.execDeclareSetpoint q s
  | .writeStaged q => Sys2Proof.Machine.execWriteStaged q s
  | .commit q => Sys2Proof.Machine.execCommit q s
  | .discard q => Sys2Proof.Machine.execDiscard q s
  | .loanLock q => Sys2Proof.Machine.execLoanLock q s
  | .startPeriod q => Sys2Proof.Machine.execStartPeriod q s
  | .setDate q => Sys2Proof.Machine.execSetDate q s
  | .setTime q => Sys2Proof.Machine.execSetTime q s
  | .unsetClock q => Sys2Proof.Machine.execUnsetClock q s
  | .writeChannelEnable q => Sys2Proof.Machine.execWriteChannelEnable q s
  | .writeChannelGain q => Sys2Proof.Machine.execWriteChannelGain q s
  | .writeChannelOffset q => Sys2Proof.Machine.execWriteChannelOffset q s
  | .writeChannelCorrectionLimit q => Sys2Proof.Machine.execWriteChannelCorrectionLimit q s
  | .writeChannelDeviationUnit q => Sys2Proof.Machine.execWriteChannelDeviationUnit q s
  | .writeChannelFilterMode q => Sys2Proof.Machine.execWriteChannelFilterMode q s
  | .writeChannelFastLimit q => Sys2Proof.Machine.execWriteChannelFastLimit q s
  | .writeChannelSlowLimit q => Sys2Proof.Machine.execWriteChannelSlowLimit q s
  | .writeChannelHold q => Sys2Proof.Machine.execWriteChannelHold q s
  | .calibrateZero q => Sys2Proof.Machine.execCalibrateZero q s
  | .calibrateSpan q => Sys2Proof.Machine.execCalibrateSpan q s
  | .check q => Sys2Proof.Machine.execCheck q s
  | .stepReading c step r => Sys2Proof.Machine.execStepReading c step r s
  | .cancelCheck q => Sys2Proof.Machine.execCancelCheck q s
  | .checkSetup q => Sys2Proof.Machine.execCheckSetup q s
  | .partitionSet q => Sys2Proof.Machine.execPartitionSet q s
  | .partitionWithdraw q => Sys2Proof.Machine.execPartitionWithdraw q s
  | .advanceMark q => Sys2Proof.Machine.execAdvanceMark q s
  | .ackExcursionOne q => Sys2Proof.Machine.execAckExcursionOne q s
  | .ackExcursionAllClosed q => Sys2Proof.Machine.execAckExcursionAllClosed q s
  | .triggerSetup q => Sys2Proof.Machine.execTriggerSetup q s
  | .silenceSetup q => Sys2Proof.Machine.execSilenceSetup q s
  | .triggerRise x => Sys2Proof.Machine.execTriggerRise x s
  | .triggerFall x => Sys2Proof.Machine.execTriggerFall x s
  | .powerUp => Sys2Proof.Machine.execPowerUp s
  | .mainSupplyLoss => Sys2Proof.Machine.execMainSupplyLoss s
  | .supplyLossLatch => Sys2Proof.Machine.execSupplyLossLatch s
  | .resetnAssert => Sys2Proof.Machine.execResetnAssert s
  | .resetnRelease => Sys2Proof.Machine.execResetnRelease s
  | .startNotice b info => Sys2Proof.Machine.execStartNotice b info s
  | .frameBegin p => Sys2Proof.Machine.execFrameBegin p s

end Sys2Proof.Machine
end

