-- ==== Sys2Proof/Machine/Step.lean ====
section
/-! DEFINITION. One step of the part, and the placing of a table word at the front of the queue. -/

namespace Sys2Proof.Machine

/-- One step: the command at the front of the queue is taken. On an empty queue the oldest command in flight whose block is
ready for it is taken, and with none in flight the part idles (DESIGN CHOICE, log entry 1). -/
def step (s : State) : Host.Outcome State Fault Refusal :=
  match s.pending with
  | c :: rest => exec c { s with pending := rest }
  | [] =>
    match s.nextInFlight with
    | some c => exec c s
    | none => .next s

/-- The state with the command that a table word spells put at the front of its queue. -/
def State.withFetchWord (s : State) (nbits w : Nat) : State :=
  match Sys2Proof.decodeTableWord nbits w with
  | some c => { s with pending := c :: s.pending }
  | none => s

end Sys2Proof.Machine
end

