-- ==== Sys2Proof/WellFormed.lean ====
section
/-! DEFINITION. Well-formed commands: the operands a command of each row can carry, by the ranges and the senders the rules
give. No meaning asks for it; it says which commands the part's blocks, masters and front end can send. -/

namespace Sys2Proof

open Sys2Proof.Machine

/-- A stamp of day number and second-of-day (R37). -/
def SecondStamp.wf (t : SecondStamp) : Bool := t.day < 65536 && t.second < 86400

/-- A stamp of day number, weekday and hour (R37). -/
def HourStamp.wf (t : HourStamp) : Bool := t.day < 65536 && t.weekday < 7 && t.hour < 24

/-- An hour mark: the day flag stands only for a natural mark that begins hour 0 (R39, R44). -/
def HourMark.wf (m : HourMark) : Bool :=
  m.ending.wf && m.beginning.wf && m.dayFlag == (m.beginning.hour = 0 && !m.clockChanged)

/-- A channel state change notice: the uninitialise flag goes with an enable, and the recovery flag with a return to OK
(R9, R11). -/
def StateChange.wf (n : StateChange) : Bool :=
  (!n.uninit || (n.old == .disabled && n.new == .ok && !n.recovery)) && (!n.recovery || n.new == .ok)

/-- A tracked update notice: a SAMPLE carries a code and state OK, a code lies within the kind's ceiling, and the deviation
unit within its range (R13, R33). -/
def TrackedUpdate.wf (u : TrackedUpdate) : Bool :=
  (u.kind != .sample || (u.code.isSome && u.state == .ok)) &&
    (match u.code with | some x => decide (x ≤ ceiling u.chan.k) | none => true) && 1 ≤ u.du && u.du ≤ 4096

/-- Every field of an envelope lies within its range (R56). -/
def inRange (e : Envelope) : Bool := envFields.all fun f => (envRange f).1 ≤ envGet e f && envGet e f ≤ (envRange f).2

/-- The six checks of COMMIT hold (R63). -/
def consistent (e : Envelope) : Bool := firstFailedCheck e == none

/-- An envelope changed notice carries an envelope that could be committed (R63, R66). -/
def EnvelopeChange.wf (e : EnvelopeChange) : Bool := inRange e.env && consistent e.env

/-- Two extremes are present or absent together, in order, and within a ceiling (R125). -/
def pairWf (lo hi : Option Nat) (top : Nat) : Bool :=
  match lo, hi with
  | some a, some b => a ≤ b && b ≤ top
  | none, none => true
  | _, _ => false

/-- An aggregate change notice (R125, R128). -/
def AggregateChange.wf (a : AggregateChange) : Bool := pairWf a.rhMin a.rhMax 10000 && pairWf a.tMin a.tMax 12000

/-- The largest dose an hour close notice carries (R125). -/
def maxHourDose : Nat := 26214

/-- An hour close notice (R78, R125). -/
def HourClose.wf (h : HourClose) : Bool := h.day < 65536 && h.hour < 24 && h.dose ≤ maxHourDose

/-- A start notice (R37, R52). -/
def StartInfo.wf (i : StartInfo) : Bool :=
  i.day < 65536 && i.weekday < 7 && i.minute < 1440 && i.second < 60 && i.lastMarkDay < 65536 && i.lastMarkHour < 24

/-- The part-wide causes (R187). -/
def partWide : Cause → Bool
  | .partRestarted => true
  | .masterPresence => true
  | .hourMark => true
  | .excursionOverflow => true
  | _ => false

/-- The value of an open or a value notice: a code, a count or a level within the range of an entry's extreme, or for
DOSE_EXHAUSTED the dose in hundreds of lux-hours, which the sum of R72's fields bounds (R72, R87, R138). -/
def excursionValueWf (t : ExcType) (v : Nat) : Bool := v < 65536 || (t == .doseExhausted && v ≤ 42949935)

/-- A step reading carries what its step asks for (R174). -/
def readingWf : CheckStep → Reading → Bool
  | .response, .pair _ _ => true
  | .response, .single _ => false
  | _, .single _ => true
  | _, .pair _ _ => false

/-- A request command comes from a port that may send it and is the one its code and sub-argument name (R182, R192). -/
def requestWf (n : Nat) (q : Req) (c : Instr) : Bool :=
  (match requestPorts n with | some f => f q.port | none => false) && ownerCmd n q == some c

/-- Well-formed commands. -/
def Instr.wf : Instr → Bool
  | .sampleArrival _ _ => true
  | .railFault _ r => isRail r.toNat
  | .railRecovery _ r => !isRail r.toNat
  | .spanCompletion _ r => !isRail r.toNat
  | .zeroCompletion _ r => !isRail r.toNat
  | .galleryStartNotice _ => true
  | .channelEnterNotice _ => true
  | .verdictNotice _ _ => true
  | .channelAbortNotice _ => true
  | .correctedSampleNotice c x => x ≤ ceiling c.k
  | .stateChangeAtFilter n => n.wf
  | .stateChangeAtLight n => n.wf
  | .stateChangeAtClimate n => n.wf
  | .trackedUpdateAtHistory u => u.wf
  | .trackedUpdateAtLight u => u.wf && (u.chan.k == .lux || u.chan.k == .uv)
  | .trackedUpdateAtClimate u => u.wf && (u.chan.k == .rh || u.chan.k == .temp)
  | .trackedUpdateAtDarkening u => u.wf && u.chan.k == .lux
  | .clockAdvance => true
  | .hourMark => true
  | .secondMarkAtLight t => t.wf
  | .overCounterExpiry _ t => t.wf
  | .secondMarkAtDarkening t => t.wf
  | .delayExpiry _ t => t.wf
  | .timeToDarkExpiry _ t => t.wf
  | .heldMinute _ t => t.wf
  | .hardLuxCountExpiry _ t => t.wf
  | .secondMarkAtPort _ t => t.wf
  | .silenceTimeout _ t => t.wf
  | .secondMarkAtSequencer t => t.wf
  | .dwellExpiry t => t.wf
  | .hourMarkAtEnvelope m => m.wf
  | .hourMarkAtLight m => m.wf
  | .dayMarkAtHistory m => m.wf && m.dayFlag
  | .hourCloseNotice h => h.wf
  | .recordWrittenNotice _ day hour => day < 65536 && hour < 24
  | .aggregateChangeNotice a => a.wf
  | .envelopeChangedAtLight e => e.wf
  | .envelopeChangedAtClimate e => e.wf
  | .envelopeChangedAtDarkening e => e.wf
  | .exhaustionChangeNotice _ _ => true
  | .darkeningStateAtLight _ _ => true
  | .darkeningStateAtSequencer _ _ => true
  | .presenceNoticeAtClimate _ => true
  | .presenceNoticeAtDarkening _ => true
  | .openNotice _ t m v => m < 65536 && excursionValueWf t v
  | .valueNotice _ t v => excursionValueWf t v
  | .closeNotice _ _ => true
  | .attentionNotice _ c g => g.isNone == partWide c
  | .frameEnd _ _ => true
  | .replyNotice _ _ => true
  | .nop _ => true
  | .select _ => true
  | .fetch _ => true
  | .nextAttention _ => true
  | .setAttention _ => true
  | .attentionMode _ => true
  | .queryAllowance q => requestWf 0x08 q (.queryAllowance q)
  | .declareLevel q => requestWf 0x09 q (.declareLevel q)
  | .lightingDarken q => requestWf 0x0A q (.lightingDarken q)
  | .lightingRelease q => requestWf 0x0B q (.lightingRelease q)
  | .conservationDarken q => requestWf 0x0A q (.conservationDarken q)
  | .conservationRelease q => requestWf 0x0B q (.conservationRelease q)
  | .queryBand q => requestWf 0x0C q (.queryBand q)
  | .declareSetpoint q => requestWf 0x0D q (.declareSetpoint q)
  | .writeStaged q => requestWf 0x10 q (.writeStaged q)
  | .commit q => requestWf 0x11 q (.commit q)
  | .discard q => requestWf 0x12 q (.discard q)
  | .loanLock q => requestWf 0x13 q (.loanLock q)
  | .startPeriod q => requestWf 0x14 q (.startPeriod q)
  | .setDate q => requestWf 0x15 q (.setDate q)
  | .setTime q => requestWf 0x16 q (.setTime q)
  | .unsetClock q => requestWf 0x17 q (.unsetClock q)
  | .writeChannelEnable q => requestWf 0x18 q (.writeChannelEnable q)
  | .writeChannelGain q => requestWf 0x18 q (.writeChannelGain q)
  | .writeChannelOffset q => requestWf 0x18 q (.writeChannelOffset q)
  | .writeChannelCorrectionLimit q => requestWf 0x18 q (.writeChannelCorrectionLimit q)
  | .writeChannelDeviationUnit q => requestWf 0x18 q (.writeChannelDeviationUnit q)
  | .writeChannelFilterMode q => requestWf 0x18 q (.writeChannelFilterMode q)
  | .writeChannelFastLimit q => requestWf 0x18 q (.writeChannelFastLimit q)
  | .writeChannelSlowLimit q => requestWf 0x18 q (.writeChannelSlowLimit q)
  | .writeChannelHold q => requestWf 0x19 q (.writeChannelHold q)
  | .calibrateZero q => requestWf 0x1A q (.calibrateZero q)
  | .calibrateSpan q => requestWf 0x1A q (.calibrateSpan q)
  | .check q => requestWf 0x1B q (.check q)
  | .stepReading _ x r => readingWf x r
  | .cancelCheck q => requestWf 0x1C q (.cancelCheck q)
  | .checkSetup q => requestWf 0x1D q (.checkSetup q)
  | .partitionSet q => requestWf 0x1E q (.partitionSet q)
  | .partitionWithdraw q => requestWf 0x1E q (.partitionWithdraw q)
  | .advanceMark q => requestWf 0x1F q (.advanceMark q)
  | .ackExcursionOne q => requestWf 0x20 q (.ackExcursionOne q)
  | .ackExcursionAllClosed q => requestWf 0x20 q (.ackExcursionAllClosed q)
  | .triggerSetup q => requestWf 0x21 q (.triggerSetup q)
  | .silenceSetup q => requestWf 0x22 q (.silenceSetup q)
  | .triggerRise _ => true
  | .triggerFall _ => true
  | .powerUp => true
  | .mainSupplyLoss => true
  | .supplyLossLatch => true
  | .resetnAssert => true
  | .resetnRelease => true
  | .startNotice _ i => i.wf
  | .frameBegin _ => true

end Sys2Proof
end

