-- ==== Sys2Proof/Safety.lean ====
section
/-! DEFINITION. What a safe state of the part is: the invariants the rules state of each block's records, and the predicates
the claims are written with. -/

namespace Sys2Proof.Machine

/-- A block takes what reaches it: the part runs, and the block has taken its start notice (R51, R52). -/
def Ready (s : State) (b : Block) : Prop := s.phase = .running ∧ b ∉ s.awaiting

/-- The event a command stands for: a command that names one outcome of another command's event stands for that event, and
any other for itself (log entry 2). -/
def eventOf : Instr → Instr
  | .railFault c r => .sampleArrival c r
  | .railRecovery c r => .sampleArrival c r
  | .spanCompletion c r => .sampleArrival c r
  | .zeroCompletion c r => .sampleArrival c r
  | .overCounterExpiry _ t => .secondMarkAtLight t
  | .delayExpiry _ t => .secondMarkAtDarkening t
  | .timeToDarkExpiry _ t => .secondMarkAtDarkening t
  | .heldMinute _ t => .secondMarkAtDarkening t
  | .hardLuxCountExpiry _ t => .secondMarkAtDarkening t
  | .silenceTimeout p t => .secondMarkAtPort p t
  | .dwellExpiry t => .secondMarkAtSequencer t
  | .hourMark => .clockAdvance
  | c => c

/-- The answer is a next state of which `P` holds. -/
def Next (a : Answer) (P : State → Prop) : Prop := ∃ t, a = .next t ∧ P t

/-! ## The effect of a command, as the claims state it -/

/-- What a command that is taken in `s` leaves: the records of `r`, the command no longer in flight, the notices `l` sent
after what was in flight, and the check code following the retained contents (R49). -/
def after (s : State) (c : Instr) (r : State) (l : List Instr) : State :=
  { r with inFlight := s.inFlight.erase c ++ l, checkCode := Config.checkCodeOf r.ret }

/-- The reply notice to a request (R182). -/
def reply (q : Req) (code : Nat) (r : Result) (data : Nat) : List Instr := [.replyNotice q.port (replyTo q code r data)]

/-- The attention notices of a cause: one to each port, and none while a start is under way (R187, R191). -/
def attention (s : State) (c : Cause) (g : Option Gallery) : List Instr :=
  if s.startComplete then [.attentionNotice .climate c g, .attentionNotice .lighting c g, .attentionNotice .conservation c g]
  else []

/-- The channel state change notices of a change (R9). -/
def stateNotices (n : StateChange) : List Instr := [.stateChangeAtFilter n, .stateChangeAtLight n, .stateChangeAtClimate n]

/-- The tracked update notices of an update (R33). -/
def trackedNotices (u : TrackedUpdate) : List Instr :=
  match u.chan.k with
  | .lux => [.trackedUpdateAtHistory u, .trackedUpdateAtLight u, .trackedUpdateAtDarkening u]
  | .uv => [.trackedUpdateAtHistory u, .trackedUpdateAtLight u]
  | .rh => [.trackedUpdateAtHistory u, .trackedUpdateAtClimate u]
  | .temp => [.trackedUpdateAtHistory u, .trackedUpdateAtClimate u]

/-- The darkening state notices of a gallery (R154, R158). -/
def darkNotices (g : Gallery) (notIdle : Bool) : List Instr :=
  [.darkeningStateAtLight g notIdle, .darkeningStateAtSequencer g notIdle]

/-- The gallery field names this gallery, alone or with all six (Introduction, Conventions). -/
def addresses (b : BitVec 3) (g : Gallery) : Bool := b.toNat = galleryNum g || b.toNat = 7

/-- The first gallery a gallery field names for which `p` holds, 0 to 5 in turn. -/
def firstAddressed (b : BitVec 3) (p : Gallery → Bool) : Option Gallery := galleries.find? fun g => addresses b g && p g

/-- The data of a refusal by gallery `g`: its number in bits 15 to 8 when the gallery field is 7 (R192). -/
def refusedBy (b : BitVec 3) (g : Gallery) (d : Nat) : Nat := if b.toNat = 7 then 256 * galleryNum g + d else d

/-- The set of the addressed galleries for which `p` holds, bit *g* for gallery *g* (R192). -/
def maskOf (p : Gallery → Bool) : Nat := ((galleries.filter p).map fun g => 2 ^ galleryNum g).sum

/-- A channel is one of those a WRITE CHANNEL names (R11). -/
def namesChan (q : Req) (c : Chan) : Bool := addresses q.gallery c.g && c.k == subKind q

/-- The state with the configurations of the channels a WRITE CHANNEL names rewritten by `f` (R11). -/
def cfgWritten (q : Req) (f : ChanCfg → ChanCfg) (s : State) : State :=
  { s with ret := { s.ret with
      cfg := .ofFn fun g => .ofFn fun k => if namesChan q ⟨g, k⟩ then f (s.cfg ⟨g, k⟩) else s.cfg ⟨g, k⟩ } }

/-- The open hours left in the budget period from hour `h` of a day of weekday `w` on, counted hour by hour over this day and
the days that remain after day index `d` (R95). -/
def openHoursLeft (e : Envelope) (d h w : Nat) : Nat :=
  ((List.range (e.period - 1 - d + 1)).map fun j =>
    if e.weekdays.testBit ((w + j) % 7) then
      ((List.range e.oend).filter fun k => decide (e.ostart ≤ k) && (decide (0 < j) || decide (h ≤ k))).length
    else 0).sum

/-- The allowance fields of a gallery in `t` are what a recomputation makes of its account, its kept copies and the clock,
DOSE_SHORT having been open or not in `s` (R95, R96, R98, R106). -/
def Recomputed (s t : State) (g : Gallery) : Prop :=
  let a := t.account g
  let r := t.lightRec g
  let h := hourOf t.clock
  let w := t.clock.weekday
  r.hrem = a.period.map (fun d => openHoursLeft r.env d h w) ∧
    r.quot = r.hrem.bind (fun n => if a.exhausted || n = 0 then none else some ((r.env.budget * 100 - a.used) / n)) ∧
    (r.allowance, r.pace) = (
      if r.dark then (0, .darkened)
      else if a.exhausted then (0, .exhausted)
      else if !isOpen (scheduleOf r.env) w h then (r.env.lclosed, .closed)
      else if a.period = none then (r.env.lmax, .unbudgeted)
      else if r.lState = .disabled then (r.env.lmax, .suspended)
      else if r.env.lmax ≤ r.quot.getD 0 then (r.env.lmax, .ample)
      else if r.env.lmin ≤ r.quot.getD 0 then (r.quot.getD 0, .onPace)
      else (r.env.lmin, .short)) ∧
    r.declared = (s.lightRec g).declared.map (fun v => min v r.allowance) ∧
    a.doseShort = (match r.quot with
      | some n => decide (n < r.env.lmin)
      | none => (s.account g).doseShort && !a.exhausted)

/-- The condition of exhaustion of an account under an envelope (R84). -/
def overBudget (a : Account) (e : Envelope) : Bool :=
  a.period.isSome && decide (e.budget * 100 * 36000 ≤ a.used * 36000 + a.carry + a.hourAcc)

/-- The illuminance input *l* of a second and whether it sets the hour's L substituted flag (R74). -/
def inputOf (r : LightRec) : Nat × Bool :=
  if r.lState = .disabled then (0, false)
  else
    match r.lCode with
    | none => (10 * r.allowance, true)
    | some x => if r.lState = .fault .rail ∨ r.lState = .fault .check then (max x (10 * r.allowance), true) else (x, false)

/-- The UV factor *F* of a second (R75). -/
def factorOf (r : LightRec) : Nat :=
  match r.uCode with
  | none => 256
  | some u => if r.uState = .disabled then 256 else 256 + min 768 (256 * (u - r.env.uref) / r.env.uref)

/-- The span of a window, absent when it is empty (R111). -/
def spanOf (w : Window) : Option Nat := w.low.bind fun a => w.high.map fun b => b - a

/-- The band of a window between nominal ends, with its permitted swing and the code at which it collapses (R112, R113). -/
def bandFor (w : Window) (lo hi swing : Nat) (kept : Option Nat) (mid : Nat) : Band :=
  match w.low, w.high with
  | some a, some b =>
    if max lo (b - swing) ≤ min hi (a + swing) then ⟨max lo (b - swing), min hi (a + swing), false⟩
    else
      let c := match kept with | some x => max lo (min hi x) | none => mid
      ⟨c, c, true⟩
  | _, _ => ⟨lo, hi, false⟩

/-- The open flag of an excursion after a judgement: an open one stays open unless it closes (R119, R120, R122). -/
def flagAfter (flag opens closes : Bool) : Bool := if flag then !closes else opens

/-- The notice of a judgement of an excursion (R119, R120, R122). -/
def judgeNotice (g : Gallery) (t : ExcType) (flag opens closes : Bool) (limit value : Nat) : List Instr :=
  if flag then (if closes then [.closeNotice g t] else [.valueNotice g t value])
  else if opens then [.openNotice g t limit value] else []

/-- The dose *V* that a DOSE_EXHAUSTED notice carries, in hundreds of lux-hours (R87). -/
def hundredsOf (a : Account) : Nat := (a.used * 36000 + a.carry + a.hourAcc) / 3600000

/-- The notices of a re-evaluation of exhaustion of an account under an envelope, none when the flag stands (R84 to R87). -/
def exhaustNews (g : Gallery) (a : Account) (e : Envelope) : List Instr :=
  if overBudget a e = a.exhausted then []
  else if overBudget a e then [.openNotice g .doseExhausted e.budget (hundredsOf a), .exhaustionChangeNotice g true]
  else [.closeNotice g .doseExhausted, .exhaustionChangeNotice g false]

/-- The notices of a recomputation that makes `r'` of the record `r`, with DOSE_SHORT open before it or not and the exhausted
flag as given: the judgement of DOSE_SHORT, and ALLOWANCE_CHANGED when allowance or pace changed (R98, R106). -/
def recomputeNews (s : State) (g : Gallery) (r r' : LightRec) (short exhausted : Bool) : List Instr :=
  (match r'.quot with
    | some n => judgeNotice g .doseShort short (decide (n < r'.env.lmin)) (decide (r'.env.lmin ≤ n)) r'.env.lmin n
    | none => if short && exhausted then [.closeNotice g .doseShort] else []) ++
    (if r'.allowance = r.allowance ∧ r'.pace = r.pace then [] else attention s .allowanceChanged (some g))

/-- The notices of a judgement of UV_HIGH on a kept code, none when it is absent (R88). -/
def uvNews (g : Gallery) (flag : Bool) (code : Option Nat) (du uref : Nat) : List Instr :=
  match code with
  | some x => judgeNotice g .uvHigh flag (decide (uref < x)) (decide (x ≤ uref - du)) uref x
  | none => []

/-- The account and the light record of every other gallery are as they were. -/
def KeepsOtherLight (s t : State) (g : Gallery) : Prop :=
  ∀ h : Gallery, h ≠ g → t.account h = s.account h ∧ t.lightRec h = s.lightRec h

/-- The notice of a swing judgement, none with the span absent (R122). -/
def swingNotice (g : Gallery) (t : ExcType) (flag : Bool) (span : Option Nat) (swing du : Nat) : List Instr :=
  match span with
  | some v => judgeNotice g t flag (decide (swing < v)) (decide (v ≤ swing - du)) swing v
  | none => []

/-- The open flag of a swing excursion after a judgement (R122). -/
def swingAfter (flag : Bool) (span : Option Nat) (swing du : Nat) : Bool :=
  match span with
  | some v => flagAfter flag (decide (swing < v)) (decide (v ≤ swing - du))
  | none => flag

/-- The climate record with the swings judged on its spans (R122). -/
def swung (r : ClimateRec) : ClimateRec :=
  { r with
    rhSwing := swingAfter r.rhSwing r.rhSpan r.env.hswing r.h.du
    tSwing := swingAfter r.tSwing r.tSpan r.env.tswing r.tc.du }

/-- The notices of both swing judgements (R122). -/
def swingNotices (g : Gallery) (r : ClimateRec) : List Instr :=
  swingNotice g .rhSwing r.rhSwing r.rhSpan r.env.hswing r.h.du ++ swingNotice g .tSwing r.tSwing r.tSpan r.env.tswing r.tc.du

/-- The climate record with spans and bands from its windows and the declared setpoints moved into the bands (R114). -/
def banded (r : ClimateRec) (rhW tW : Window) : ClimateRec :=
  let rh := bandFor rhW (r.env.hset - r.env.hband) (r.env.hset + r.env.hband) r.env.hswing r.h.code r.env.hset
  let t := bandFor tW r.env.tmin r.env.tmax r.env.tswing r.tc.code ((r.env.tmin + r.env.tmax) / 2)
  { r with
    rhSpan := spanOf rhW, tSpan := spanOf tW, rh := rh, t := t
    rhSet := r.rhSet.map fun v => max rh.low (min rh.high v)
    tSet := r.tSet.map fun v => max t.low (min t.high v) }

/-- The climate record with the limit excursions of H judged on its kept code (R119). -/
def limitedRh (r : ClimateRec) : ClimateRec :=
  match r.h.code with
  | some x =>
    if r.h.state = .disabled then r
    else { r with
      rhHigh := flagAfter r.rhHigh (decide (r.env.hset + r.env.hband < x))
        (decide (x ≤ min 10000 (r.env.hset + r.env.hband - r.h.du)))
      rhLow := flagAfter r.rhLow (decide (x < r.env.hset - r.env.hband))
        (decide (min 10000 (r.env.hset - r.env.hband + r.h.du) ≤ x)) }
  | none => r

/-- The climate record with the limit excursions of T judged on its kept code (R120). -/
def limitedT (r : ClimateRec) : ClimateRec :=
  match r.tc.code with
  | some x =>
    if r.tc.state = .disabled then r
    else { r with
      tHigh := flagAfter r.tHigh (decide (r.env.tmax < x)) (decide (x ≤ min 12000 (r.env.tmax - r.tc.du)))
      tLow := flagAfter r.tLow (decide (x < r.env.tmin)) (decide (min 12000 (r.env.tmin + r.tc.du) ≤ x)) }
  | none => r

/-- The notices of the judgement of the limits of H on its kept code (R119). -/
def limitNoticesRh (g : Gallery) (r : ClimateRec) : List Instr :=
  match r.h.code with
  | some x =>
    let hi := r.env.hset + r.env.hband
    let lo := r.env.hset - r.env.hband
    if r.h.state = .disabled then []
    else
      judgeNotice g .rhHigh r.rhHigh (decide (hi < x)) (decide (x ≤ min 10000 (hi - r.h.du))) hi x ++
        judgeNotice g .rhLow r.rhLow (decide (x < lo)) (decide (min 10000 (lo + r.h.du) ≤ x)) lo x
  | none => []

/-- The notices of the judgement of the limits of T on its kept code (R120). -/
def limitNoticesT (g : Gallery) (r : ClimateRec) : List Instr :=
  match r.tc.code with
  | some x =>
    let hi := r.env.tmax
    let lo := r.env.tmin
    if r.tc.state = .disabled then []
    else
      judgeNotice g .tHigh r.tHigh (decide (hi < x)) (decide (x ≤ min 12000 (hi - r.tc.du))) hi x ++
        judgeNotice g .tLow r.tLow (decide (x < lo)) (decide (min 12000 (lo + r.tc.du) ≤ x)) lo x
  | none => []

/-- What the darkening controller holds of a gallery: its record, its source set and its SHADE output (R152, R159). -/
def darkOf (s : State) (g : Gallery) : DarkRec × SourceSet × Bool := (s.darkRec g, s.sources g, s.shade.get g)

/-- DARKENING entered after `applied` seconds of delay, and DARK at once when the L channel is not OK (R155, R156). -/
def entered (applied : Nat) (x : DarkRec × SourceSet × Bool) : DarkRec × SourceSet × Bool :=
  let r := x.1
  let o := { r.outcome with delayApplied := some applied }
  (if r.lState = .ok then { r with state := .darkening, delayLeft := none, timeToDark := 0, outcome := o }
    else { r with
      state := .dark, delayLeft := none, timeToDark := 0, heldSub := 0, outcome := { o with outcome := .unverified } },
    x.2.1, true)

/-- A source joins a gallery's set at `at_`: the first arms or darkens it under a new outcome record, a later one is added to
the set and to the sources joined (R154, R155). -/
def joined (at_ : SecondStamp) (i : Source) (immediate : Bool) (x : DarkRec × SourceSet × Bool) :
    DarkRec × SourceSet × Bool :=
  let r := x.1
  let delay := if immediate then 0 else delaySeconds r.env.delay
  let only := SourceSet.empty.put i true
  let o : OutcomeRec := ⟨some at_, some i, only, none, none, .inProgress, 0, none⟩
  if x.2.1 = .empty then
    if 0 < delay then
      ({ r with state := .armed, delayLeft := some delay, armedWith := delay, outcome := o }, only, x.2.2)
    else entered 0 ({ r with armedWith := 0, outcome := o }, only, x.2.2)
  else ({ r with outcome := { r.outcome with joined := r.outcome.joined.put i true } }, x.2.1.put i true, x.2.2)

/-- A gallery's set becomes `rest` by a release: an empty one brings the gallery to IDLE, with CANCELLED from ARMED and from
DARKENING, and SHADE released (R158). -/
def released (rest : SourceSet) (cause : EndCause) (x : DarkRec × SourceSet × Bool) : DarkRec × SourceSet × Bool :=
  let r := x.1
  let o := r.outcome
  if rest = .empty then
    ({ r with
      state := .idle, delayLeft := none, timeToDark := 0, heldSub := 0, hardLux := 0
      outcome := { o with
        endCause := some cause
        outcome := if r.state = .armed ∨ r.state = .darkening then .cancelled else o.outcome
        delayApplied := if r.state = .armed then some (r.armedWith - r.delayLeft.getD 0) else o.delayApplied
        secondsToDark := if r.state = .darkening then none else o.secondsToDark } }, .empty, false)
  else (r, rest, x.2.2)

/-- A source leaves a gallery's set; one that is absent changes nothing (R158). -/
def left (i : Source) (cause : EndCause) (x : DarkRec × SourceSet × Bool) : DarkRec × SourceSet × Bool :=
  if x.2.1.has i then released (x.2.1.put i false) cause x else x

/-- The attention of an entry into DARKENING: DARKENING_OUTCOME when the gallery passes at once to DARK (R153, R156). -/
def enterNews (s : State) (g : Gallery) (r : DarkRec) : List Instr :=
  if r.lState = .ok then [] else attention s .darkeningOutcome (some g)

/-- What a source that joins a gallery's set sends: nothing when the set holds one already, and otherwise DARKENING_STARTED
and the darkening state notices, after the entry into DARKENING that no delay puts off (R154, R156). -/
def joinNews (s : State) (g : Gallery) (immediate : Bool) (x : DarkRec × SourceSet × Bool) : List Instr :=
  if x.2.1 = .empty then
    (if immediate ∨ delaySeconds x.1.env.delay = 0 then enterNews s g x.1 else []) ++
      attention s .darkeningStarted (some g) ++ darkNotices g true
  else []

/-- What a release that leaves a gallery the set `rest` sends: nothing while a source is left, and otherwise the darkening
state notices, after DARKENING_OUTCOME from ARMED and from DARKENING (R158). -/
def releaseNews (s : State) (g : Gallery) (rest : SourceSet) (x : DarkRec × SourceSet × Bool) : List Instr :=
  if rest = .empty then
    (if x.1.state = .armed ∨ x.1.state = .darkening then attention s .darkeningOutcome (some g) else []) ++ darkNotices g false
  else []

/-- What a source that leaves a gallery's set sends (R158). -/
def leaveNews (s : State) (g : Gallery) (i : Source) (x : DarkRec × SourceSet × Bool) : List Instr :=
  if x.2.1.has i then releaseNews s g (x.2.1.put i false) x else []

/-- A second of ARMED, DARKENING and DARK (R155, R156, R157). -/
def coursed (x : DarkRec × SourceSet × Bool) : DarkRec × SourceSet × Bool :=
  let r := x.1
  let o := r.outcome
  let n := r.timeToDark + 1
  let dark : Bool := match r.lCode with | some y => y ≤ 10 * r.env.ldark | none => false
  match r.state with
  | .idle => x
  | .armed =>
    if r.delayLeft.getD 0 ≤ 1 then entered r.armedWith x
    else ({ r with delayLeft := some (r.delayLeft.getD 0 - 1) }, x.2)
  | .darkening =>
    let ends (o : OutcomeRec) (e : DarkOutcome) : DarkRec :=
      { r with state := .dark, timeToDark := n, heldSub := 0, outcome := { o with outcome := e } }
    (if r.lState ≠ .ok then ends o .unverified
      else if dark then ends { o with secondsToDark := some n } .reached
      else if 600 ≤ n then ends o .notReached
      else { r with timeToDark := n }, x.2)
  | .dark =>
    (if r.heldSub < 59 then { r with heldSub := r.heldSub + 1 }
      else { r with heldSub := 0, outcome := { o with heldMinutes := min 65535 (o.heldMinutes + 1) } }, x.2)

/-- The hard-lux counter rises at a second mark: the L channel is OK and its code at or above 10 × LHARD (R160). -/
def glares (r : DarkRec) : Bool :=
  r.lState == .ok && (match r.lCode with | some y => decide (10 * r.env.lhard ≤ y) | none => false)

/-- LUX_HARD is open after a second mark, `reached` saying whether the counter came to 60 at it (R161). -/
def hardAfter (r : DarkRec) (reached : Bool) : Bool :=
  if r.luxHardOpen then
    r.lState != .disabled && (match r.lCode with | some y => decide (10 * r.env.lhard ≤ y) | none => true)
  else reached

/-- What a second of ARMED, DARKENING and DARK sends: DARKENING_OUTCOME when the gallery enters DARK at it (R153, R155,
R156). -/
def courseNews (s : State) (g : Gallery) (x : DarkRec × SourceSet × Bool) : List Instr :=
  if (coursed x).1.state = .dark ∧ x.1.state ≠ .dark then attention s .darkeningOutcome (some g) else []

/-- The notice of a judgement of LUX_HARD at a second mark, `reached` saying whether the counter came to 60 at it (R161). -/
def hardNews (g : Gallery) (r : DarkRec) (reached : Bool) : List Instr :=
  if r.luxHardOpen then
    match r.lState, r.lCode with
    | .disabled, _ => [.closeNotice g .luxHard]
    | _, some y => if y < 10 * r.env.lhard then [.closeNotice g .luxHard] else [.valueNotice g .luxHard y]
    | _, none => []
  else if reached then [.openNotice g .luxHard (10 * r.env.lhard) (r.lCode.getD 0)]
  else []

/-! ### Self-check -/

/-- The first kind of a gallery among `l` whose channel is not DISABLED (R173). -/
def firstKind (s : State) (g : Gallery) (l : List Kind) : Option Kind := l.find? fun k => (s.chan ⟨g, k⟩).state ≠ .disabled

/-- The first step after the ones of number below `n` that is enabled (R173). -/
def enabledFrom (s : State) (n : Nat) : Option CheckStep := ([.openInput, .shortInput, .reference, .response].drop n).find?
  fun x => s.ret.setup.enables.get x

/-- A channel's turn begins: its first enabled step, with its dwell (R173). -/
def turnOf (s : State) (g : Gallery) (k : Kind) : CheckRun :=
  ⟨g, k, (enabledFrom s 0).getD .openInput, .dwell (dwellSeconds s.ret.setup.dwellIdx)⟩

/-- A gallery can run a check: it is not darkened and has a channel that is not DISABLED (R172, R173). -/
def runsCheck (s : State) (g : Gallery) : Bool := !(s.seq.dark.get g) && (firstKind s g kinds).isSome

/-- The check that runs when an IDLE sequencer takes the queue `l`: the first gallery that can run (R172). -/
def runOf (s : State) (l : List Gallery) : Option CheckRun :=
  (l.find? (runsCheck s)).map fun g => turnOf s g ((firstKind s g kinds).getD .lux)

/-- The queue that is left after it (R172). -/
def queueOf (s : State) (l : List Gallery) : List Gallery := (l.dropWhile fun g => !runsCheck s g).drop 1

/-- The result a gallery takes when it comes to the head of the queue: ABORTED_DARKENING when it is darkened, and otherwise
its DISABLED channels SKIPPED up to the one that runs, or PASSED with all of them SKIPPED (R172, R173, R175). -/
def headResult (s : State) (g : Gallery) : CheckResult :=
  if s.seq.dark.get g then ⟨.abortedDarkening, .all .notRun, .all (.all .notRun)⟩
  else
    ⟨if (firstKind s g kinds).isSome then .running else .passed,
      .ofFn fun k =>
        if (firstKind s g (kinds.take (kindNum k + 1))).isSome then .notRun else .skipped,
      .all (.all .notRun)⟩

/-- The sequencer after an IDLE one has taken the queue `l` (R172). -/
def headsTaken (s : State) (l : List Gallery) (q : Sequencer) : Sequencer :=
  { q with
    run := runOf s l
    queue := queueOf s l
    results := .ofFn fun g =>
      if g ∈ l ∧ g ∉ queueOf s l then headResult s g else q.results.get g
    condition := match runOf s l with | some r => some (⟨r.g, r.k⟩, r.step) | none => q.condition }

/-- What an IDLE sequencer that takes the queue `l` sends: CHECK_DONE of each gallery that completes at once, after the gallery
start notice of one that is not darkened, and the two notices that begin the check of the first that can run (R172, R173,
R175). -/
def headsNews (s : State) (l : List Gallery) : List Instr :=
  ((l.takeWhile fun g => !runsCheck s g).flatMap fun g =>
      (if s.seq.dark.get g then [] else [.galleryStartNotice g]) ++ attention s .checkDone (some g)) ++
    (match runOf s l with
      | some r => [.galleryStartNotice r.g, .channelEnterNotice ⟨r.g, r.k⟩]
      | none => [])

/-- What an abort of the running check sends, with the heads of the queue `l` taken after it (R172, R176, R177). -/
def abortNews (s : State) (run : CheckRun) (l : List Gallery) : List Instr :=
  .channelAbortNotice ⟨run.g, run.k⟩ :: attention s .checkDone (some run.g) ++ headsNews s l

/-- The sequencer after its running check is aborted with a summary (R176). -/
def abortedWith (sm : Summary) (run : CheckRun) (q : Sequencer) : Sequencer :=
  { q with
    run := none, condition := none
    results := q.results.set run.g { q.results.get run.g with
      summary := sm, chans := (q.results.get run.g).chans.set run.k .notRun } }

/-- The verdict of a step by its reading (R174). -/
def verdictOf (f : ChanCfg) (k : Kind) (x : CheckStep) (r : Reading) : Verdict :=
  match x, r with
  | .openInput, .single y => if y.toNat ≤ 65471 then .pass else .failOpen
  | .shortInput, .single y => if 64 ≤ y.toNat then .pass else .failShort
  | .reference, .single y =>
    if 32113 ≤ y.toNat ∧ y.toNat ≤ 33423 then .pass
    else if 31130 ≤ y.toNat ∧ y.toNat ≤ 34406 then .warn else .failReference
  | .response, .pair a b =>
    let e : Int := (4096 * f.gain / 1024 : Nat)
    let d : Int := (correct f k b.toNat : Int) - correct f k a.toNat
    if e - e / 10 ≤ d ∧ d ≤ e + e / 10 then .pass else .failResponse
  | _, _ => .none

/-- A verdict is a FAIL (R170). -/
def failed (v : Verdict) : Bool := v == .failOpen || v == .failShort || v == .failReference || v == .failResponse

/-- The worst of a channel's step verdicts: the first FAIL, then WARN, then PASS (R175). -/
def worst (t : PerStep Verdict) : Verdict :=
  let l := [t.openInput, t.shortInput, t.reference, t.response]
  match l.find? failed with
  | some v => v
  | none => if .warn ∈ l then .warn else .pass

/-! ### Ports -/

/-- The table of causes and the ports they are routed to (R187). -/
def heard (c : Cause) (p : Port) : Bool :=
  match c with
  | .partRestarted | .darkeningStarted | .channelFault | .masterPresence | .envelopeCommitted | .hourMark => true
  | .darkeningOutcome | .allowanceChanged => p != .climate
  | .bandChanged => p != .lighting
  | .excursionOpened | .excursionClosed | .checkDone | .calibrationDone | .historyOverrun | .excursionOverflow =>
    p == .conservation

/-- A port's record with its line asserted exactly in LEVEL mode with the master enable on and entries pending (R189). -/
def driven (r : PortRec) : PortRec :=
  { r with line := decide (r.mode = .level) && r.masterEnable && decide (r.pending ≠ []) }

/-- What a SELECT of a kind from 1 on copies, or why it is refused (R132, R183). -/
def copied (s : State) (q : Req) : Except Result (List Half) :=
  let v := q.value.toNat
  let unread (g : Gallery) : Nat := (s.ring g).unread
  match q.sub.toNat, galleryOf q.gallery.toNat with
  | 9, _ => if h : v < s.ret.log.pool.length then .ok (itemEntry s.ret.log.pool[v]) else .error .notFound
  | 10, _ => .ok (itemPool s)
  | 13, _ => .ok (itemPresence s q.port)
  | 14, _ => .ok (itemClock s)
  | 1, some g => .ok (itemGallery s g)
  | 2, some g => .ok (itemEnvelope s g (s.active g))
  | 3, some g => .ok (itemEnvelope s g (s.envStaged g).staged)
  | 4, some g => if v ≤ 3 then .ok (itemChannel s ⟨g, kindOf v⟩) else .error .notFound
  | 5, some g => .ok (itemAccount s g)
  | 6, some g =>
    if v < unread g then
      match s.record g (unread g - 1 - v) with
      | some x => .ok (itemRecord x)
      | none => .error .notFound
    else .error .notFound
  | 7, some g =>
    match s.record g v with
    | some x => .ok (itemRecord x)
    | none => .error .notFound
  | 8, some g => .ok (itemRing s g)
  | 11, some g => .ok (itemDark s g)
  | 12, some g => .ok (itemCheck s g)
  | _, _ => .error .range

/-- What a permitted request of a code from 6 on sends to its owner: the command that carries it, or the refusal RANGE of a
sub-argument that no command carries (R134, R146, R182, R192). -/
def forwarded (code : Nat) (q : Req) : List Instr :=
  match code, q.sub.toNat with
  | 0x08, _ => [.queryAllowance q]
  | 0x09, _ => [.declareLevel q]
  | 0x0A, _ => [if q.port = .lighting then .lightingDarken q else .conservationDarken q]
  | 0x0B, _ => [if q.port = .lighting then .lightingRelease q else .conservationRelease q]
  | 0x0C, _ => [.queryBand q]
  | 0x0D, _ => [.declareSetpoint q]
  | 0x10, _ => [.writeStaged q]
  | 0x11, _ => [.commit q]
  | 0x12, _ => [.discard q]
  | 0x13, _ => [.loanLock q]
  | 0x14, _ => [.startPeriod q]
  | 0x15, _ => [.setDate q]
  | 0x16, _ => [.setTime q]
  | 0x17, _ => [.unsetClock q]
  | 0x18, n => [
    match n % 8 with
    | 0 => .writeChannelEnable q
    | 1 => .writeChannelGain q
    | 2 => .writeChannelOffset q
    | 3 => .writeChannelCorrectionLimit q
    | 4 => .writeChannelDeviationUnit q
    | 5 => .writeChannelFilterMode q
    | 6 => .writeChannelFastLimit q
    | _ => .writeChannelSlowLimit q]
  | 0x19, n => if n % 8 = 0 then [.writeChannelHold q] else reply q 0x19 .range 0
  | 0x1A, n => [if n % 2 = 1 then .calibrateSpan q else .calibrateZero q]
  | 0x1B, _ => [.check q]
  | 0x1C, _ => [.cancelCheck q]
  | 0x1D, _ => [.checkSetup q]
  | 0x1E, 0 => [.partitionSet q]
  | 0x1E, 1 => [.partitionWithdraw q]
  | 0x1F, _ => [.advanceMark q]
  | 0x20, 0 => [.ackExcursionOne q]
  | 0x20, 1 => [.ackExcursionAllClosed q]
  | 0x21, _ => [.triggerSetup q]
  | 0x22, _ => [.silenceSetup q]
  | n, _ => reply q n .range 0

/-- The request a command of an owner outside the ports carries, with its code and the one port whose master may send it
(R192). -/
def askedBy (c : Instr) : Option (Req × Nat × Port) :=
  match c with
  | .queryAllowance q => some (q, 0x08, .lighting)
  | .declareLevel q => some (q, 0x09, .lighting)
  | .lightingDarken q => some (q, 0x0A, .lighting)
  | .conservationDarken q => some (q, 0x0A, .conservation)
  | .lightingRelease q => some (q, 0x0B, .lighting)
  | .conservationRelease q => some (q, 0x0B, .conservation)
  | .queryBand q => some (q, 0x0C, .climate)
  | .declareSetpoint q => some (q, 0x0D, .climate)
  | .writeStaged q => some (q, 0x10, .conservation)
  | .commit q => some (q, 0x11, .conservation)
  | .discard q => some (q, 0x12, .conservation)
  | .loanLock q => some (q, 0x13, .conservation)
  | .startPeriod q => some (q, 0x14, .conservation)
  | .setDate q => some (q, 0x15, .conservation)
  | .setTime q => some (q, 0x16, .conservation)
  | .unsetClock q => some (q, 0x17, .conservation)
  | .writeChannelEnable q | .writeChannelGain q | .writeChannelOffset q | .writeChannelCorrectionLimit q
  | .writeChannelDeviationUnit q | .writeChannelFilterMode q | .writeChannelFastLimit q | .writeChannelSlowLimit q =>
    some (q, 0x18, .conservation)
  | .writeChannelHold q => some (q, 0x19, .conservation)
  | .calibrateZero q | .calibrateSpan q => some (q, 0x1A, .conservation)
  | .check q => some (q, 0x1B, .conservation)
  | .cancelCheck q => some (q, 0x1C, .conservation)
  | .checkSetup q => some (q, 0x1D, .conservation)
  | .partitionSet q | .partitionWithdraw q => some (q, 0x1E, .conservation)
  | .advanceMark q => some (q, 0x1F, .conservation)
  | .ackExcursionOne q | .ackExcursionAllClosed q => some (q, 0x20, .conservation)
  | .triggerSetup q => some (q, 0x21, .conservation)
  | .silenceSetup q => some (q, 0x22, .conservation)
  | _ => none

/-! ### Starts -/

/-- The state a start gives a channel by its retained enable and check-fault flag (R20, R21). -/
def begun (s : State) (c : Chan) : ChanState :=
  if (s.cfg c).enabled = false then .disabled else if s.checkFault c = true then .fault .check else .ok

/-- The stamp of the clock a start notice carries (R52). -/
def beganAt (i : StartInfo) : SecondStamp := ⟨i.day, 60 * i.minute + i.second⟩

/-- An excursion type of a gallery is active as a block finds it at its start: by the log's sets, or by the OPEN entries of
the pool while the log's own start notice is still to come (R124, R151, R168). -/
def foundActive (s : State) (g : Gallery) (y : ExcType) : Bool :=
  if .log ∈ s.awaiting then s.ret.log.pool.any fun e => e.g == g && e.type == y && e.closed == none else s.isActive g y

/-- A day step of the day index, the dose used, the carry and the dose of the last period (R83). -/
def dayOn (period : Nat) (x : Option Nat × Nat × Nat × Option Nat) : Option Nat × Nat × Nat × Option Nat :=
  match x.1 with
  | none => x
  | some d => if d + 1 < period then (some (d + 1), x.2) else (some 0, 0, 0, some x.2.1)

/-- A number of day steps in turn (R92). -/
def daysOn (period : Nat) : Nat → Option Nat × Nat × Nat × Option Nat → Option Nat × Nat × Nat × Option Nat
  | 0, x => x
  | n + 1, x => daysOn period n (dayOn period x)

/-- The climate record a start gives a gallery before its bands are computed (R123, R124). -/
def climateBegun (s : State) (kind : StartKind) (g : Gallery) : ClimateRec :=
  let f (y : ExcType) : Bool := kind == .warm && foundActive s g y
  let copy (k : Kind) : ChanCopy := ⟨none, begun s ⟨g, k⟩, (s.cfg ⟨g, k⟩).du⟩
  { rh := ⟨0, 0, false⟩, t := ⟨0, 0, false⟩, rhSpan := none, tSpan := none, rhSet := none, tSet := none,
    rhHigh := f .rhHigh, rhLow := f .rhLow, rhSwing := f .rhSwing, tHigh := f .tHigh, tLow := f .tLow, tSwing := f .tSwing,
    h := copy .rh, tc := copy .temp, agg := ⟨none, none, none, none⟩, env := s.active g }

/-- The darkening record of an IDLE gallery after a start (R167, R168). -/
def darkBegun (s : State) (g : Gallery) (luxHard : Bool) : DarkRec :=
  { state := .idle, delayLeft := none, armedWith := 0, timeToDark := 0, heldSub := 0, hardLux := 0, luxHardOpen := luxHard,
    outcome := ⟨none, none, .empty, none, none, .none, 0, none⟩, lCode := none, lState := begun s ⟨g, .lux⟩,
    env := s.active g }

/-- What darkening makes of a gallery whose source set a warm start finds to be `x` (R169). -/
def redarkenedBy (s : State) (i : StartInfo) (g : Gallery) (x : SourceSet) : DarkRec × SourceSet × Bool :=
  let r := darkBegun s g (foundActive s g .luxHard)
  let first : Option Source := [Source.hardLux, .inputA, .inputB, .lightReq, .conservationReq, .exhaust, .lightSilence].find?
    x.has
  if x = .empty then (r, x, false)
  else entered 0 ({ r with outcome := ⟨some (beganAt i), first, x, none, none, .inProgress, 0, none⟩ }, x, true)

/-- The light record `x` differs from `r` in the allowance fields and the start pending flag alone. -/
def keepsCopies (r x : LightRec) : Prop :=
  x = { r with
    startPending := x.startPending, allowance := x.allowance, pace := x.pace, hrem := x.hrem, quot := x.quot,
    declared := x.declared, overCount := x.overCount }

/-- The state `t` differs from `s` in what block `b` owns, in what is in flight and in the check code alone. WRITE CHANNEL
of the filter limits moves a tracker's shift with the limits, and a port's SELECT and FETCH clear the log's marker and
overflow flag (R35, R149). -/
def Owned (b : Block) (s t : State) : Prop :=
  match b with
  | .timeBase =>
    t = { s with ret := { s.ret with clock := t.ret.clock }, inFlight := t.inFlight, checkCode := t.checkCode }
  | .acquisition =>
    t = { s with
      ret := { s.ret with cfg := t.ret.cfg, checkFault := t.ret.checkFault }, acq := t.acq, trackers := t.trackers,
      inFlight := t.inFlight, checkCode := t.checkCode }
  | .filter => t = { s with trackers := t.trackers, inFlight := t.inFlight, checkCode := t.checkCode }
  | .envelope =>
    t = { s with ret := { s.ret with env := t.ret.env }, env := t.env, inFlight := t.inFlight, checkCode := t.checkCode }
  | .light =>
    t = { s with
      ret := { s.ret with accounts := t.ret.accounts }, light := t.light, inFlight := t.inFlight, checkCode := t.checkCode }
  | .climate => t = { s with climate := t.climate, inFlight := t.inFlight, checkCode := t.checkCode }
  | .history =>
    t = { s with
      ret := { s.ret with history := t.ret.history }, agg := t.agg, inFlight := t.inFlight, checkCode := t.checkCode }
  | .log =>
    t = { s with ret := { s.ret with log := t.ret.log }, log := t.log, inFlight := t.inFlight, checkCode := t.checkCode }
  | .darkening =>
    t = { s with
      ret := { s.ret with sources := t.ret.sources, triggers := t.ret.triggers }, dark := t.dark, shade := t.shade,
      inFlight := t.inFlight, checkCode := t.checkCode }
  | .sequencer =>
    t = { s with ret := { s.ret with setup := t.ret.setup }, seq := t.seq, inFlight := t.inFlight, checkCode := t.checkCode }
  | .port p =>
    t = { s with
      ret := { s.ret with
        timeouts := s.ret.timeouts.set p (t.ret.timeouts.get p), log := { s.ret.log with overflow := t.ret.log.overflow } },
      log := { s.log with sinceSelection := t.log.sinceSelection }, ports := s.ports.set p (t.port p),
      inFlight := t.inFlight, checkCode := t.checkCode }

/-! ## Darkening -/

/-- A gallery's darkening state is IDLE exactly when its source set is empty, and SHADE is asserted exactly in DARKENING and
DARK (R154, R159). -/
def DarkOk (s : State) (g : Gallery) : Prop :=
  ((s.darkRec g).state = .idle ↔ s.sources g = .empty) ∧
    (s.shade.get g = true ↔ (s.darkRec g).state = .darkening ∨ (s.darkRec g).state = .dark)

/-- The darkening invariant with SHADE through reset and loss of supply (R154, R159). -/
def DarkInv (s : State) : Prop :=
  (Ready s .darkening → ∀ g, DarkOk s g) ∧
    (s.phase = .heldReset → ∀ g, s.shade.get g = true ↔ s.sources g ≠ .empty) ∧
    (s.phase = .unpowered → ∀ g, s.shade.get g = false)

/-! ## Excursion log -/

/-- The pool holds at most 32 entries, no id twice, no two OPEN entries of one gallery and type, and no CLOSED entry that is
acknowledged, ids and extremes lying within their ranges; and once the log has started, the type of every OPEN entry is
active (R138, R139, R141, R151). -/
def LogInv (s : State) : Prop :=
  s.ret.log.pool.length ≤ poolSize ∧ s.ret.log.nextId ≤ 255 ∧ (∀ e ∈ s.ret.log.pool, e.id ≤ 255 ∧ e.extreme ≤ 65535) ∧
    (s.ret.log.pool.map Entry.id).Nodup ∧
    s.ret.log.pool.Pairwise (fun a b => ¬(a.isOpen = true ∧ b.isOpen = true ∧ a.g = b.g ∧ a.type = b.type)) ∧
    (∀ e ∈ s.ret.log.pool, e.isOpen = false → e.acked = false) ∧
    (Ready s .log → ∀ e ∈ s.ret.log.pool, e.isOpen = true → s.isActive e.g e.type = true)

/-! ## History -/

/-- Six lengths that make a partition: each 24 to 168, and at most 512 together (R130, R134). -/
def PartitionOk (ls : PerGallery Nat) : Prop := (∀ g, 24 ≤ ls.get g ∧ ls.get g ≤ 168) ∧ sumLengths ls ≤ 512

/-- A ring's counts and newest position fit its length (R130). -/
def RingOk (r : Ring) : Prop :=
  r.unread ≤ r.count ∧ r.count ≤ r.length ∧ (r.newest = none ↔ r.count = 0) ∧ ∀ p, r.newest = some p → p < r.length

/-- The rings form a partition, each at its base, and the pending partition is one (R130, R134). -/
def RingInv (s : State) : Prop :=
  PartitionOk s.ret.history.lengths ∧ (∀ g, (s.ring g).base = ringBase s.ret.history.lengths g) ∧ (∀ g, RingOk (s.ring g)) ∧
    ∀ ls, s.ret.history.pendingPartition = some ls → PartitionOk ls

/-- Every record a ring counts can be read (R130, R132). -/
def RecordInv (s : State) : Prop := RingInv s ∧ ∀ g k, k < (s.ring g).count → (s.record g k).isSome = true

/-! ## Envelopes -/

/-- No field of a staged envelope violates its loan direction against the active one (R59). -/
def KeepsLoan (active staged : Envelope) : Prop :=
  ∀ f, loanPermits (loanDirection f) (envGet active f) (envGet staged f) = true

/-- Active envelopes lie within their ranges and pass the checks; staged ones lie within their ranges, and one whose commit
is pending passes the checks and keeps a loan (R56, R58, R62, R63, R69). -/
def EnvInv (s : State) : Prop :=
  ∀ g, inRange (s.active g) = true ∧ consistent (s.active g) = true ∧ inRange (s.envStaged g).staged = true ∧
    ((s.envStaged g).commitPending = true →
      consistent (s.envStaged g).staged = true ∧ (s.loanLock g = true → KeepsLoan (s.active g) (s.envStaged g).staged))

/-! ## Light -/

/-- The dose fields of an account lie within their ranges (R72). -/
def AccountOk (a : Account) : Prop := a.used ≤ maxUsed ∧ a.carry < 36000 ∧ a.hourAcc ≤ maxHourAcc

/-- The accounts lie within their ranges; and once the light account unit has started, no declared level is above the
allowance, the over-counter is at most 120, and a darkened gallery has allowance 0 with pace DARKENED (R72, R94, R96, R102,
R103). -/
def LightInv (s : State) : Prop :=
  (∀ g, AccountOk (s.account g)) ∧
    (Ready s .light → ∀ g,
      (∀ v, (s.lightRec g).declared = some v → v ≤ (s.lightRec g).allowance) ∧ (s.lightRec g).overCount ≤ 120 ∧
        ((s.lightRec g).dark = true → (s.lightRec g).allowance = 0 ∧ (s.lightRec g).pace = .darkened))

/-! ## Climate -/

/-- A band lies within its nominal ends, is ordered, and holds a present declared setpoint (R109, R117). -/
def BandOk (b : Band) (lo hi : Nat) (set : Option Nat) : Prop :=
  lo ≤ b.low ∧ b.low ≤ b.high ∧ b.high ≤ hi ∧ ∀ v, set = some v → b.low ≤ v ∧ v ≤ b.high

/-- Once the climate unit has started, every RH band is in order (R109, R112, R117). -/
def BandInv (s : State) : Prop :=
  Ready s .climate → ∀ g,
    let r := s.climateRec g
    BandOk r.rh (r.env.hset - r.env.hband) (r.env.hset + r.env.hband) r.rhSet

/-- Every envelope on its way to the climate unit has its TMIN below its TMAX, as every committed one has; and once the
climate unit has started, so has every gallery's copy, and every temperature band is in order (R63, R66, R109, R113, R117). -/
def TempInv (s : State) : Prop :=
  (∀ e : EnvelopeChange, Instr.envelopeChangedAtClimate e ∈ s.pending ++ s.inFlight ++ s.waiting → e.env.tmin < e.env.tmax) ∧
    (Ready s .climate → ∀ g,
      let r := s.climateRec g
      r.env.tmin < r.env.tmax ∧ BandOk r.t r.env.tmin r.env.tmax r.tSet)

/-! ## Channels -/

/-- A channel's counters fit its state, and it has a saved state exactly while CHECKING (R4, R5, R6, R8). -/
def ChanOk (r : ChanRec) : Prop :=
  r.railCount ≤ 2 ∧ r.goodRun ≤ 7 ∧ (r.state ≠ .suspect → r.railCount = 0) ∧ (r.state ≠ .fault .rail → r.goodRun = 0) ∧
    (r.saved.isSome = true ↔ r.state = .checking)

/-- The channels' counters fit their states, the faulted counts are right, a running calibration's channel is OK; and once
the acquisition unit has started, a channel is DISABLED exactly when its enable is no, and one in FAULT with cause CHECK has
its check-fault flag set (R2, R4, R10, R15, R18). -/
def ChanInv (s : State) : Prop :=
  (∀ c, ChanOk (s.chan c)) ∧ (∀ g, s.acq.faulted.get g = countFaulted (s.acq.chans.get g)) ∧
    (∀ x, s.acq.cal = some x → x.count < 16 ∧ (s.chan x.chan).state = .ok) ∧
    (Ready s .acquisition → ∀ c, ((s.chan c).state = .disabled ↔ (s.cfg c).enabled = false) ∧
      ((s.chan c).state = .fault .check → s.checkFault c = true))

/-! ## Clock, sequencer, ports -/

/-- The clock's fields lie within their ranges (R37). -/
def ClockInv (s : State) : Prop :=
  s.clock.day < 65536 ∧ s.clock.weekday < 7 ∧ s.clock.minute < 1440 ∧ s.clock.second < 60 ∧ s.clock.lastMarkDay < 65536 ∧
    s.clock.lastMarkHour < 24

/-- The queue holds no gallery twice and not the running one, the summaries say who is queued and who runs, a dwell is 1 to
8 seconds, an IDLE sequencer has an empty queue and applies no condition, and the setup enables a step (R170, R172, R173,
R178). -/
def SeqInv (s : State) : Prop :=
  s.seq.queue.Nodup ∧ (∀ r, s.seq.run = some r → r.g ∉ s.seq.queue ∧ (s.checkResult r.g).summary = .running) ∧
    (∀ g ∈ s.seq.queue, (s.checkResult g).summary = .queued) ∧
    (∀ r n, s.seq.run = some r → r.phase = .dwell n → 1 ≤ n ∧ n ≤ 8) ∧
    (s.seq.run = none → s.seq.condition = none ∧ s.seq.queue = []) ∧
    (∃ x, s.ret.setup.enables.get x = true) ∧ s.ret.setup.dwellIdx ≤ 3

/-- A port's pending set holds no entry twice and only causes routed to it and enabled, its line follows LEVEL mode, and its
silence count is at most 300 (R185, R187, R189, R190). -/
def PortOk (p : Port) (r : PortRec) : Prop :=
  r.pending.Nodup ∧ (∀ a ∈ r.pending, routed a.cause p = true ∧ (r.causes.get a.cause).enabled = true) ∧
    (r.line = true ↔ r.mode = .level ∧ r.masterEnable = true ∧ r.pending ≠ []) ∧ r.silence ≤ 300 ∧
    (r.presence ≠ .absent → r.silence < 300)

/-- Every port that has started is in order (R187, R189). -/
def PortInv (s : State) : Prop := ∀ p, Ready s (.port p) → PortOk p (s.port p)

/-! ## Safe states -/

/-- A safe state: every invariant holds. -/
structure Safe (s : State) : Prop where
  dark : DarkInv s
  log : LogInv s
  history : RecordInv s
  env : EnvInv s
  light : LightInv s
  band : BandInv s
  temp : TempInv s
  chan : ChanInv s
  clock : ClockInv s
  seq : SeqInv s
  port : PortInv s

end Sys2Proof.Machine
end

