-- ==== Sys2Proof/Certificates/Slice0/Obligations.lean ====
section
/-! DEFINITION. The statements about the part: the step, the ownership of state, the invariants of its blocks, and what each
command does, rule by rule. -/

open Sys2Proof Sys2Proof.Machine

/-! ## The step -/

/-- A step takes the command at the front of the queue: it is `exec` of that command with the queue's rest. The queue is the
model's (log entry 1). -/
def Obligations.StepTakesFront : Prop :=
  ∀ (c : Instr) (l : List Instr) (s : State), step { s with pending := c :: l } = exec c { s with pending := l }

/-- With nothing queued a step takes the oldest notice in flight whose block has started, and idles when there is none. This
is the model's choice, not a rule of the spec (log entry 1). -/
def Obligations.IdleStepTakesNotice : Prop :=
  ∀ s : State, s.pending = [] →
    (∀ (l : List Instr) (c : Instr) (m : List Instr), s.inFlight = l ++ c :: m →
      (∀ b, blockOf c = some b → b ∉ s.awaiting) → (∀ d ∈ l, ∃ b ∈ s.awaiting, blockOf d = some b) → step s = exec c s) ∧
    ((∀ d ∈ s.inFlight, ∃ b ∈ s.awaiting, blockOf d = some b) → step s = .next s)

/-- Every command runs to a next state, none faults or is refused, and none touches the queue or the address straps. -/
def Obligations.EveryCommandRuns : Prop :=
  ∀ (c : Instr) (s : State), Next (exec c s) fun t => t.pending = s.pending ∧ t.straps = s.straps

/-- A command of a block changes what that block owns and what is in flight, and the check code follows; every other record
of the part stays as it was, and the commands that wait stay too unless the block awaits its start notice. Which block a
command is addressed to is the table's, but for SILENCE SETUP (log entry 11). -/
def Obligations.OnlyTheOwnerChanges : Prop :=
  ∀ (c : Instr) (b : Block) (s t : State), blockOf c = some b → exec c s = .next t →
    Owned b { s with waiting := t.waiting } t ∧ (b ∉ s.awaiting → t.waiting = s.waiting)

/-- Commands that are turned away: a part that is held or unpowered takes no command of any block and no start notice; a
command that reaches a block whose start notice is still to come waits after those that reached one before it, its event no
longer in flight, and changes nothing else; and an owner refuses a request of a master that may not send it with
NOT_PERMITTED (R50, R51, R52, R137, R151, R168, R182). That a request or an arrival waits as a notice does, and which event in
flight a command stands for, are the model's choices (log entries 1 and 2). -/
def Obligations.CommandsTurnedAway : Prop :=
  ∀ (c : Instr) (s : State),
    (s.phase ≠ .running → ((blockOf c).isSome = true ∨ ∃ b i, c = .startNotice b i) → exec c s = .next s) ∧
    (∀ b, blockOf c = some b → s.phase = .running → b ∈ s.awaiting →
      exec c s = .next { s with inFlight := s.inFlight.erase (eventOf c), waiting := s.waiting ++ [eventOf c] } ∨
        (eventOf c ≠ c ∧ exec c s = .next s)) ∧
    (∀ q n p b, askedBy c = some (q, n, p) → blockOf c = some b → Ready s b → q.port ≠ p →
      exec c s = .next (after s c s (reply q n .notPermitted 0)))

/-! ## Reset -/

/-- What a cold start leaves in the fields named here: the supply fields and the clock; the channel records and
configurations; envelopes and loan locks; the dose fields of the accounts, with allowance, pace and declared level; bands and
setpoints; the rings and the pending partition; the pool and the active-type sets; darkening states, source sets, SHADE and
triggers; the check run, queue and setup; and each port's reply, selection, presence, pending set, mode, master enable and
timeout. The records it does not name are in the statements of the start notices (R54, R20, R36, R71, R90, R100, R123, R136,
R150, R167, R179, R191; that State.reset stands for the part after every start notice and every notice of the start has been
taken, with no second passed, is log entry 6). -/
def Obligations.ResetValues : Prop :=
  let s := State.reset
  (s.phase = .running ∧ s.latch = false ∧ s.checkCode = Config.checkCodeOf s.ret ∧ s.awaiting = []) ∧
    s.clock = ⟨0, 0, 0, 0, false, false, false, 0, 0, .cold⟩ ∧
    (∀ c, s.chan c = ⟨.ok, 0, 0, none, none, none, ⟨none, .none, none, none⟩⟩ ∧ s.checkFault c = false ∧
      s.cfg c = ⟨true, 1024, 0, 0, defaultDu c.k, .stepped, defaultFast c.k, defaultSlow c.k, false⟩ ∧
      (s.tracker c).tracking = false) ∧
    s.acq.cal = none ∧
    (∀ g, s.acq.faulted.get g = 0 ∧ s.active g = defaultEnvelope ∧ s.loanLock g = false ∧
      s.envStaged g = ⟨defaultEnvelope, false⟩) ∧
    (∀ g, (s.account g).period = none ∧ (s.account g).used = 0 ∧ (s.account g).carry = 0 ∧ (s.account g).hourAcc = 0 ∧
      (s.account g).exhausted = false ∧ (s.account g).lastUsed = none ∧ (s.lightRec g).allowance = 0 ∧
      (s.lightRec g).pace = .closed ∧ (s.lightRec g).declared = none) ∧
    (∀ g, (s.climateRec g).rh = ⟨4500, 5500, false⟩ ∧ (s.climateRec g).t = ⟨5800, 6400, false⟩ ∧
      (s.climateRec g).rhSet = none ∧ (s.climateRec g).tSet = none) ∧
    (∀ g, s.ring g = ⟨72 * galleryNum g, 72, 0, none, 0, false⟩) ∧ s.ret.history.pendingPartition = none ∧
    s.ret.log = ⟨[], 0, false⟩ ∧ (∀ g t, s.isActive g t = false) ∧
    (∀ g, (s.darkRec g).state = .idle ∧ s.sources g = .empty ∧ s.shade.get g = false) ∧
    (∀ x, s.ret.triggers.get x = ⟨0, false, false⟩) ∧
    (s.seq.run = none ∧ s.seq.queue = [] ∧ s.ret.setup = ⟨⟨true, true, true, true⟩, 1⟩) ∧
    ∀ p, (s.port p).reply = ⟨.none, 0, 0, 0⟩ ∧ (s.port p).selection = none ∧ (s.port p).presence = .unknown ∧
      (s.port p).pending = [⟨.partRestarted, none⟩] ∧ (s.port p).mode = .level ∧ (s.port p).masterEnable = true ∧
      s.ret.timeouts.get p = 2

/-- The state after reset meets every invariant. -/
def Obligations.ResetIsSafe : Prop := Safe State.reset ∧ State.reset.checkCode = Config.checkCodeOf State.reset.ret

/-! ## What every step keeps -/

/-- Darkening, source sets and SHADE agree after every step (R154, R159). -/
def Obligations.DarkeningKept : Prop := ∀ s t, DarkInv s → step s = .next t → DarkInv t

/-- The pool of the excursion log stays in order after every step, its extremes within their range (R138, R139, R141; the
extreme recorded for a value above it, log entry 4). -/
def Obligations.LogKept : Prop := ∀ s t, LogInv s → step s = .next t → LogInv t

/-- The rings stay a partition whose counted records can be read (R130, R131, R135). -/
def Obligations.HistoryKept : Prop := ∀ s t, RecordInv s → step s = .next t → RecordInv t

/-- Envelopes stay within their ranges and active ones pass the six checks; and while a gallery's loan lock is set, a step
moves the fields of its active envelope in their loan directions only, unless a cold start has written the defaults (R56, R59,
R62, R63, R65, R71). -/
def Obligations.EnvelopesKept : Prop :=
  ∀ s t, EnvInv s → step s = .next t → EnvInv t ∧
    ∀ g, s.loanLock g = true → KeepsLoan (s.active g) (t.active g) ∨ t.ret.env = Retained.cold.env

/-- Dose fields stay within their ranges, and no declared level stands above its allowance (R72, R94, R98). -/
def Obligations.LightKept : Prop := ∀ s t, LightInv s → step s = .next t → LightInv t

/-- RH bands stay ordered and within their nominal bands, and declared RH setpoints within them; and with envelopes in order,
so do the temperature bands and the declared temperature setpoints (R63, R109, R112, R113, R114, R117). -/
def Obligations.BandsKept : Prop :=
  ∀ s t, step s = .next t → (BandInv s → BandInv t) ∧ (EnvInv s → TempInv s → TempInv t)

/-- Channel counters, saved states, faulted counts and the calibration context stay consistent (R2, R4, R10). -/
def Obligations.ChannelsKept : Prop := ∀ s t, ChanInv s → step s = .next t → ChanInv t

/-- The clock's fields stay within their ranges, and the check code agrees with the retained contents (R37, R49). -/
def Obligations.TimeBaseKept : Prop :=
  ∀ s t, step s = .next t →
    (ClockInv s → ClockInv t) ∧
    (s.checkCode = Config.checkCodeOf s.ret → t.checkCode = Config.checkCodeOf t.ret)

/-- The queue, summaries, dwell and setup of the sequencer stay consistent (R170). -/
def Obligations.SequencerKept : Prop := ∀ s t, SeqInv s → step s = .next t → SeqInv t

/-- Pending sets hold no entry twice, and the attention lines follow them (R187, R189; what the line holds in PULSE mode, log
entry 7). -/
def Obligations.PortsKept : Prop := ∀ s t, PortInv s → step s = .next t → PortInv t

/-! ## Acquisition unit -/

/-- A good sample of an OK channel with no calibration on it is corrected with the channel's offset and gain and passed on to
the tracking filter bank (R1, R3, R5). -/
def Obligations.GoodSampleCorrected : Prop :=
  ∀ (c : Chan) (r : Half) (s : State), Ready s .acquisition → (s.chan c).state = .ok → 64 ≤ r.toNat → r.toNat ≤ 65471 →
    (∀ x, s.acq.cal = some x → x.chan ≠ c) →
    let d : Nat := (max 0 (min 65535 ((r.toNat : Int) - (s.cfg c).offset))).toNat
    let top : Nat := match c.k with | .lux => 65535 | .uv => 65535 | .rh => 10000 | .temp => 12000
    let x : Nat := min (min ((d * (s.cfg c).gain + 512) / 1024) 65535) top
    exec (.sampleArrival c r) s =
      .next (after s (.sampleArrival c r)
        (s.setChan c { s.chan c with railCount := 0, lastRaw := some r.toNat, lastCorrected := some x })
        [.correctedSampleNotice c x])

/-- What a rail code does in each state of a channel with no calibration on it: OK to SUSPECT, SUSPECT to FAULT with cause
RAIL at the third in a row (the row RAIL_FAULT), a restarted good run, and nothing where R1 discards it (R1, R5, R6, R9,
R10; the row, log entry 2). -/
def Obligations.RailSampleJudged : Prop :=
  ∀ (c : Chan) (r : Half) (s : State), Ready s .acquisition → ChanInv s → (r.toNat < 64 ∨ 65471 < r.toNat) →
    (∀ x, s.acq.cal = some x → x.chan ≠ c) →
    let i : Instr := .sampleArrival c r
    let k : ChanRec := { s.chan c with lastRaw := some r.toNat }
    let n : Nat := s.acq.faulted.get c.g
    ((s.chan c).state = .ok →
      exec i s = .next (after s i (s.setChan c { k with state := .suspect, railCount := 1 })
        (stateNotices ⟨c, .ok, .suspect, false, false⟩))) ∧
    ((s.chan c).state = .suspect → (s.chan c).railCount < 2 →
      exec i s = .next (after s i (s.setChan c { k with railCount := (s.chan c).railCount + 1 }) []) ∧
        exec (.railFault c r) s = .next s) ∧
    ((s.chan c).state = .suspect → (s.chan c).railCount = 2 →
      exec i s = .next (after s i ((s.setChan c { k with state := .fault .rail, railCount := 0 }).setFaulted c.g (n + 1))
        (stateNotices ⟨c, .suspect, .fault .rail, false, false⟩ ++
          [if n = 0 then .openNotice c.g .sensorFault 0 1 else .valueNotice c.g .sensorFault (n + 1)] ++
          attention s .channelFault (some c.g))) ∧
        exec (.railFault c r) s = exec i s) ∧
    ((s.chan c).state = .fault .rail → exec i s = .next (after s i (s.setChan c { k with goodRun := 0 }) [])) ∧
    ((s.chan c).state = .fault .check ∨ (s.chan c).state = .checking ∨ (s.chan c).state = .disabled →
      exec i s = .next (after s i s []))

/-- A good code brings a SUSPECT channel back to OK at once, and a channel in FAULT with cause RAIL at the eighth in a row
(the row RAIL_RECOVERY), with the recovery flag; the sample itself is then corrected and passed on (R5, R6, R9, R10; the
row, log entry 2). -/
def Obligations.GoodSampleRestores : Prop :=
  ∀ (c : Chan) (r : Half) (s : State), Ready s .acquisition → ChanInv s → 64 ≤ r.toNat → r.toNat ≤ 65471 →
    let i : Instr := .sampleArrival c r
    let x : Nat := correct (s.cfg c) c.k r.toNat
    let k : ChanRec := { s.chan c with lastRaw := some r.toNat }
    let n : Nat := s.acq.faulted.get c.g
    ((s.chan c).state = .suspect →
      exec i s = .next (after s i ((s.setChan c { k with state := .ok, railCount := 0, lastCorrected := some x }).setCheckFault
        c false) (stateNotices ⟨c, .suspect, .ok, false, false⟩ ++ [.correctedSampleNotice c x]))) ∧
    ((s.chan c).state = .fault .rail → (s.chan c).goodRun < 7 →
      exec i s = .next (after s i (s.setChan c { k with goodRun := (s.chan c).goodRun + 1 }) []) ∧
        exec (.railRecovery c r) s = .next s) ∧
    ((s.chan c).state = .fault .rail → (s.chan c).goodRun = 7 →
      exec i s = .next (after s i
        (((s.setChan c { k with state := .ok, goodRun := 0, lastCorrected := some x }).setCheckFault c false).setFaulted c.g
          (n - 1))
        (stateNotices ⟨c, .fault .rail, .ok, true, false⟩ ++ (if n = 1 then [.closeNotice c.g .sensorFault] else []) ++
          [.correctedSampleNotice c x])) ∧
        exec (.railRecovery c r) s = exec i s)

/-- A sample of the channel under calibration: before the sixteenth, a good one is passed on and added to the sum, as the raw
code for ZERO and as the offset-subtracted code for SPAN; a rail code makes the channel SUSPECT and ends the calibration
ABORTED; and the rows SPAN_COMPLETION and ZERO_COMPLETION are the arrival of the sixteenth good one (R15, R18, R19; the rows,
log entry 2). -/
def Obligations.CalibrationSampleTaken : Prop :=
  ∀ (c : Chan) (r : Half) (s : State) (x : CalContext), Ready s .acquisition → ChanInv s → s.acq.cal = some x → x.chan = c →
    let i : Instr := .sampleArrival c r
    let y : Nat := correct (s.cfg c) c.k r.toNat
    let d : Nat := (max 0 (min 65535 ((r.toNat : Int) - (s.cfg c).offset))).toNat
    let k : ChanRec := { s.chan c with lastRaw := some r.toNat }
    (64 ≤ r.toNat → r.toNat ≤ 65471 → x.count < 15 →
      exec i s = .next (after s i
        ((s.setChan c { k with lastCorrected := some y }).setCal
          (some { x with count := x.count + 1, sum := x.sum + (if x.op = .zero then r.toNat else d) }))
        [.correctedSampleNotice c y])) ∧
    (r.toNat < 64 ∨ 65471 < r.toNat →
      exec i s = .next (after s i
        ((s.setChan c { k with
          state := .suspect, railCount := 1, cal := { k.cal with result := .aborted, new := none } }).setCal none)
        (stateNotices ⟨c, .ok, .suspect, false, false⟩ ++ attention s .calibrationDone (some c.g)))) ∧
    (64 ≤ r.toNat → r.toNat ≤ 65471 → x.count = 15 →
      Next (exec (match x.op with | .span => .spanCompletion c r | .zero => .zeroCompletion c r) s) fun t =>
        exec i s = .next t ∧ t.acq.cal = none)

/-- The sixteenth good sample of a SPAN completes it: the average, the gain with its two clamps, the result, CALIBRATION_DONE
and the re-settle notice after the sample itself has been passed on with the old gain (R15, R16, R19). -/
def Obligations.SpanCompletes : Prop :=
  ∀ (c : Chan) (r : Half) (s : State) (x : CalContext), Ready s .acquisition → ChanInv s → s.acq.cal = some x → x.chan = c →
    x.op = .span → x.count = 15 → 64 ≤ r.toNat → r.toNat ≤ 65471 →
    let i : Instr := .sampleArrival c r
    let y : Nat := correct (s.cfg c) c.k r.toNat
    let d : Nat := (max 0 (min 65535 ((r.toNat : Int) - (s.cfg c).offset))).toNat
    let avg : Nat := (x.sum + d) / 16
    let gain : Nat := (x.ref * 1024 + avg / 2) / avg
    let dev : Nat := match (s.cfg c).corrLimit with | 0 => 205 | 1 => 102 | 2 => 410 | _ => 0
    let limited : Nat := max (1024 - dev) (min (1024 + dev) gain)
    let final : Nat := max 512 (min 2047 limited)
    let k : ChanRec := { s.chan c with lastRaw := some r.toNat, lastCorrected := some y }
    exec i s = .next (
      if avg = 0 then
        after s i ((s.setChan c { k with cal := { k.cal with result := .failed, new := none } }).setCal none)
          ([.correctedSampleNotice c y] ++ attention s .calibrationDone (some c.g))
      else
        after s i
          (((s.setChan c { k with cal := { k.cal with
            result := if final = gain then .applied else .clamped, new := some (final : Int) } }).setCal none).setCfg c
              { s.cfg c with gain := final })
          ([.correctedSampleNotice c y] ++ attention s .calibrationDone (some c.g) ++
            stateNotices ⟨c, .ok, .ok, true, false⟩))

/-- The sixteenth good sample of a ZERO completes it: the average raw code, the offset with its clamp, the result,
CALIBRATION_DONE and the re-settle notice after the sample itself has been passed on with the old offset (R15, R17, R19). -/
def Obligations.ZeroCompletes : Prop :=
  ∀ (c : Chan) (r : Half) (s : State) (x : CalContext), Ready s .acquisition → ChanInv s → s.acq.cal = some x → x.chan = c →
    x.op = .zero → x.count = 15 → 64 ≤ r.toNat → r.toNat ≤ 65471 →
    let i : Instr := .sampleArrival c r
    let y : Nat := correct (s.cfg c) c.k r.toNat
    let avg : Nat := (x.sum + r.toNat) / 16
    let offset : Int := (avg : Int) - (((x.ref * 1024 + (s.cfg c).gain / 2) / (s.cfg c).gain : Nat) : Int)
    let final : Int := max (-512) (min 511 offset)
    let k : ChanRec := { s.chan c with lastRaw := some r.toNat, lastCorrected := some y }
    exec i s = .next (
      after s i
        (((s.setChan c { k with cal := { k.cal with
          result := if final = offset then .applied else .clamped, new := some final } }).setCal none).setCfg c
            { s.cfg c with offset := final })
        ([.correctedSampleNotice c y] ++ attention s .calibrationDone (some c.g) ++
          stateNotices ⟨c, .ok, .ok, true, false⟩))

/-- The self-check sequencer's notices: a gallery start aborts a calibration in the gallery, a channel enter saves the state
and makes the channel CHECKING, a verdict or an abort ends CHECKING, and each is ignored in the other states (R8, R9, R10). -/
def Obligations.CheckNoticesTaken : Prop :=
  ∀ (c : Chan) (v : ChannelVerdict) (s : State), Ready s .acquisition → ChanInv s →
    let k : ChanRec := s.chan c
    let n : Nat := s.acq.faulted.get c.g
    let wasFault : Bool := k.saved == some (.fault .rail) || k.saved == some (.fault .check)
    let counted : State := if wasFault then s.setFaulted c.g (n - 1) else s
    let back : ChanState := match k.saved with | some .suspect => .suspect | some (.fault x) => .fault x | _ => .ok
    (exec (.galleryStartNotice c.g) s = .next (
      match s.acq.cal with
      | some x =>
        if x.chan.g = c.g then
          after s (.galleryStartNotice c.g) ((s.setChan x.chan { s.chan x.chan with
            cal := { (s.chan x.chan).cal with result := .aborted, new := none } }).setCal none)
            (attention s .calibrationDone (some c.g))
        else after s (.galleryStartNotice c.g) s []
      | none => after s (.galleryStartNotice c.g) s [])) ∧
    (k.state = .checking ∨ k.state = .disabled →
      exec (.channelEnterNotice c) s = .next (after s (.channelEnterNotice c) s [])) ∧
    (k.state ≠ .checking → k.state ≠ .disabled →
      let saved : SavedState := match k.state with | .suspect => .suspect | .fault x => .fault x | _ => .ok
      let hit : Bool := match s.acq.cal with | some x => x.chan == c | none => false
      let entered : ChanRec := { k with
        state := .checking, railCount := 0, goodRun := 0, saved := some saved,
        cal := if hit then { k.cal with result := .aborted, new := none } else k.cal }
      exec (.channelEnterNotice c) s = .next (after s (.channelEnterNotice c)
        ((s.setChan c entered).setCal (if hit then none else s.acq.cal)
          |>.setCheckFault c (if k.state = .fault .check then true else s.checkFault c))
        ((if hit then attention s .calibrationDone (some c.g) else []) ++
          stateNotices ⟨c, k.state, .checking, false, false⟩))) ∧
    (k.state = .checking → v ≠ .fail →
      exec (.verdictNotice c v) s = .next (after s (.verdictNotice c v)
        ((counted.setChan c { k with state := .ok, saved := none }).setCheckFault c false)
        (stateNotices ⟨c, .checking, .ok, wasFault, false⟩ ++
          (if wasFault ∧ n = 1 then [.closeNotice c.g .sensorFault] else [])))) ∧
    (k.state = .checking →
      exec (.verdictNotice c .fail) s = .next (after s (.verdictNotice c .fail)
        (((if wasFault then s else s.setFaulted c.g (n + 1)).setChan c { k with
          state := .fault .check, saved := none }).setCheckFault c true)
        (stateNotices ⟨c, .checking, .fault .check, false, false⟩ ++
          (if wasFault then [] else if n = 0 then [.openNotice c.g .sensorFault 0 1]
            else [.valueNotice c.g .sensorFault (n + 1)]) ++
          attention s .channelFault (some c.g)))) ∧
    (k.state = .checking →
      exec (.channelAbortNotice c) s = .next (after s (.channelAbortNotice c)
        ((s.setChan c { k with state := back, saved := none }).setCheckFault c
          (match back with | .ok => false | .fault .check => true | _ => s.checkFault c))
        (stateNotices ⟨c, .checking, back, false, false⟩))) ∧
    (k.state ≠ .checking →
      exec (.verdictNotice c v) s = .next (after s (.verdictNotice c v) s []) ∧
        exec (.channelAbortNotice c) s = .next (after s (.channelAbortNotice c) s []))

/-- WRITE CHANNEL of GAIN, OFFSET, CORRECTION LIMIT, DEVIATION UNIT, FILTER MODE and HOLD: the clamp, the reply, the channels
the gallery field names, BUSY for GAIN and OFFSET, and gallery 7 refused whole by its lowest refusing gallery (R11, R12, R13,
R34, R192). -/
def Obligations.ChannelFieldsWritten : Prop :=
  ∀ (q : Req) (s : State), Ready s .acquisition → q.port = .conservation →
    let v : Nat := q.value.toNat
    let busy : Option Gallery := firstAddressed q.gallery fun g =>
      (match s.acq.cal with | some x => x.chan == ⟨g, subKind q⟩ | none => false) ||
        (s.chan ⟨g, subKind q⟩).state == .checking
    let answer (i : Instr) (code : Nat) (busy : Option Gallery) (f : ChanCfg → ChanCfg) (same : Bool) (data : Nat) : State :=
      if q.gallery = 6 then after s i s (reply q code .range 0)
      else
        match busy with
        | some g => after s i s (reply q code .busy (refusedBy q.gallery g 0))
        | none => after s i (cfgWritten q f s) (reply q code (if same then .ok else .clamped) data)
    let gain : Nat := max 512 (min 2047 v)
    let offset : Int := max (-512) (min 511 q.value.toInt)
    exec (.writeChannelGain q) s =
      .next (answer (.writeChannelGain q) 0x18 busy (fun x => { x with gain := gain }) (gain = v) gain) ∧
    exec (.writeChannelOffset q) s =
      .next (answer (.writeChannelOffset q) 0x18 busy (fun x => { x with offset := offset }) (offset = q.value.toInt)
        (BitVec.ofInt 16 offset).toNat) ∧
    exec (.writeChannelCorrectionLimit q) s =
      .next (answer (.writeChannelCorrectionLimit q) 0x18 none (fun x => { x with corrLimit := min 3 v }) (v ≤ 3) (min 3 v)) ∧
    exec (.writeChannelDeviationUnit q) s =
      .next (answer (.writeChannelDeviationUnit q) 0x18 none (fun x => { x with du := max 1 (min 4096 v) })
        (1 ≤ v && v ≤ 4096) (max 1 (min 4096 v))) ∧
    exec (.writeChannelFilterMode q) s =
      .next (answer (.writeChannelFilterMode q) 0x18 none
        (fun x => { x with mode := if v = 0 then .stepped else if v = 1 then .twoLevel else .fixed }) (v ≤ 2) (min 2 v)) ∧
    exec (.writeChannelHold q) s =
      .next (answer (.writeChannelHold q) 0x19 none (fun x => { x with hold := v ≠ 0 }) true (if v = 0 then 0 else 1))

/-- WRITE CHANNEL of FAST LIMIT and SLOW LIMIT: the clamp to 0 to 6, INCONSISTENT when FAST would stand above SLOW, gallery 7
refused whole, and the shift of a TRACKING tracker clamped to the new limits at once (R11, R35). -/
def Obligations.FilterLimitsWritten : Prop :=
  ∀ (q : Req) (s : State), Ready s .acquisition → q.port = .conservation →
    let v : Nat := min 6 q.value.toNat
    let moved (f : ChanCfg → ChanCfg) : State := { cfgWritten q f s with
      trackers := .ofFn fun g => .ofFn fun k =>
        let t := s.tracker ⟨g, k⟩
        let x := f (s.cfg ⟨g, k⟩)
        if namesChan q ⟨g, k⟩ ∧ t.tracking = true then
          { t with shift := max (if t.settling then 0 else x.fast) (min x.slow t.shift) }
        else t }
    let answer (i : Instr) (bad : Option Gallery) (f : ChanCfg → ChanCfg) : State :=
      if q.gallery = 6 then after s i s (reply q 0x18 .range 0)
      else
        match bad with
        | some g => after s i s (reply q 0x18 .inconsistent (refusedBy q.gallery g 0))
        | none => after s i (moved f) (reply q 0x18 (if q.value.toNat ≤ 6 then .ok else .clamped) v)
    exec (.writeChannelFastLimit q) s =
      .next (answer (.writeChannelFastLimit q)
        (firstAddressed q.gallery fun g => decide ((s.cfg ⟨g, subKind q⟩).slow < v)) fun x => { x with fast := v }) ∧
    exec (.writeChannelSlowLimit q) s =
      .next (answer (.writeChannelSlowLimit q)
        (firstAddressed q.gallery fun g => decide (v < (s.cfg ⟨g, subKind q⟩).fast)) fun x => { x with slow := v })

/-- WRITE CHANNEL of ENABLE: value 0 disables each named channel that is not DISABLED, with its calibration aborted and its
fault no longer counted; any other value enables each that is, with the uninitialise flag; a channel that matches is left
alone (R4, R9, R10, R11, R18; the order of the galleries' notices, log entry 35). -/
def Obligations.ChannelEnableWritten : Prop :=
  ∀ (q : Req) (s : State), Ready s .acquisition → ChanInv s → q.port = .conservation →
    let i : Instr := .writeChannelEnable q
    let hit (c : Chan) : Bool := match s.acq.cal with | some x => x.chan == c | none => false
    let off (c : Chan) : Bool := namesChan q c && (s.chan c).state != .disabled
    let on (c : Chan) : Bool := namesChan q c && (s.chan c).state == .disabled
    let map {α : Type} (f : Chan → α) : PerChan α := .ofFn fun g => .ofFn fun k => f ⟨g, k⟩
    let disabled : State :=
      { s with
        ret := { s.ret with
          cfg := map fun c => if off c then { s.cfg c with enabled := false } else s.cfg c
          checkFault := map fun c => if off c then false else s.checkFault c }
        acq := {
          chans := map fun c =>
            if off c then { s.chan c with
              state := .disabled, railCount := 0, goodRun := 0, saved := none,
              cal := if hit c then { (s.chan c).cal with result := .aborted, new := none } else (s.chan c).cal }
            else s.chan c
          cal := match s.acq.cal with | some x => if off x.chan then none else some x | none => none
          faulted := .ofFn fun g =>
            s.acq.faulted.get g - (if off ⟨g, subKind q⟩ && isFaulted (s.chan ⟨g, subKind q⟩) then 1 else 0) } }
    let enabled : State :=
      { s with
        ret := { s.ret with
          cfg := map fun c => if on c then { s.cfg c with enabled := true } else s.cfg c
          checkFault := map fun c => if on c then false else s.checkFault c }
        acq := { s.acq with
          chans := map fun c =>
            if on c then { s.chan c with
              state := .ok, railCount := 0, goodRun := 0, saved := none, lastRaw := none, lastCorrected := none }
            else s.chan c } }
    exec i s = .next (
      if q.gallery = 6 then after s i s (reply q 0x18 .range 0)
      else if q.value = 0 then
        after s i disabled ((galleries.flatMap fun g =>
          let c : Chan := ⟨g, subKind q⟩
          if off c then
            (if hit c then attention s .calibrationDone (some g) else []) ++
              stateNotices ⟨c, (s.chan c).state, .disabled, false, false⟩ ++
              (if isFaulted (s.chan c) ∧ s.acq.faulted.get g = 1 then [.closeNotice g .sensorFault] else [])
          else []) ++ reply q 0x18 .ok 0)
      else
        after s i enabled ((galleries.flatMap fun g =>
          if on ⟨g, subKind q⟩ then stateNotices ⟨⟨g, subKind q⟩, .disabled, .ok, false, true⟩ else []) ++
            reply q 0x18 .ok 1))

/-- CALIBRATE: RANGE for gallery 6 or 7, BUSY while a calibration runs or the channel is not OK, and otherwise the context
loaded, the record RUNNING with the value it starts from, and ACCEPTED; and NOT_PERMITTED for the other two masters (R14,
R19; the data of the ACCEPTED reply, log entry 34). -/
def Obligations.CalibrateTaken : Prop :=
  ∀ (q : Req) (s : State), Ready s .acquisition →
    let answer (i : Instr) (op : CalOp) (prev : Chan → Int) : State :=
      match galleryOf q.gallery.toNat, q.port with
      | none, .conservation => after s i s (reply q 0x1A .range 0)
      | some g, .conservation =>
        let c : Chan := ⟨g, subKind q⟩
        if s.acq.cal ≠ none ∨ (s.chan c).state ≠ .ok then after s i s (reply q 0x1A .busy 0)
        else
          after s i ((s.setCal (some ⟨c, op, q.value.toNat, 0, 0⟩)).setChan c { s.chan c with
            cal := ⟨some op, .running, some (prev c), none⟩ }) (reply q 0x1A .accepted 0)
      | _, _ => after s i s (reply q 0x1A .notPermitted 0)
    exec (.calibrateZero q) s = .next (answer (.calibrateZero q) .zero fun c => (s.cfg c).offset) ∧
    exec (.calibrateSpan q) s = .next (answer (.calibrateSpan q) .span fun c => ((s.cfg c).gain : Int))

/-! ## Tracking filter bank -/

/-- A corrected sample at the tracker: an uninitialised one takes the code and settles; a TRACKING one takes the readout, the
gain shift its mode chooses and a step of the deviation divided by 2 to that shift, at least one sixteenth; and the tracked
update goes to the recipients of the kind (R24, R25, R26, R27, R28, R29, R30, R33). -/
def Obligations.CorrectedSampleTracked : Prop :=
  ∀ (c : Chan) (x : Nat) (s : State), Ready s .filter →
    let i : Instr := .correctedSampleNotice c x
    let t : Tracker := s.tracker c
    let f : ChanCfg := s.cfg c
    let d : Int := (16 * x : Nat) - (t.x : Int)
    let m : Nat := d.natAbs
    let u : Nat := 16 * f.du
    let target : Nat := 6 - ([1, 2, 4, 8, 16, 32].filter fun n => n * u ≤ m).length
    let moved : Nat := if target < t.shift then target else if t.shift < target then t.shift + 1 else t.shift
    let choice : Nat × Bool :=
      match f.mode, t.settling with
      | .stepped, true => (min f.slow moved, min f.slow moved < f.fast)
      | .stepped, false => (max f.fast (min f.slow moved), false)
      | .twoLevel, true => if 8 * u ≤ m then (0, true) else (f.slow, false)
      | .twoLevel, false => (if 24 * u ≤ m then f.fast else if m < 8 * u then f.slow else t.shift, false)
      | .fixed, true => if 8 * u ≤ m then (0, true) else (f.slow, false)
      | .fixed, false => (f.slow, false)
    let step : Int := d.sign * (if d = 0 then 0 else max 1 (m / 2 ^ choice.1) : Nat)
    let readout : Int := d.sign * (min 127 (m / (4 * f.du)) : Nat)
    let next : Tracker :=
      if t.tracking then { t with
        x := ((t.x : Int) + step).toNat, shift := choice.1, settling := choice.2, readout := some readout }
      else { t with tracking := true, x := 16 * x, shift := 0, settling := true, readout := none }
    exec i s = .next (after s i (s.setTracker c next) (trackedNotices ⟨c, .sample, some ((next.x + 8) / 16), .ok, f.du⟩))

/-- A channel state change at the tracker: the uninitialise flag makes it UNINITIALISED; otherwise the channel state is kept,
and a return to OK with the recovery flag re-settles a TRACKING tracker whose HOLD is clear; the tracked value stays, and a
STATE update goes to the recipients (R31, R32, R33). -/
def Obligations.StateChangeHeld : Prop :=
  ∀ (n : StateChange) (s : State), Ready s .filter →
    let i : Instr := .stateChangeAtFilter n
    let t : Tracker := s.tracker n.chan
    let next : Tracker :=
      if n.uninit then { t with tracking := false, shift := 0, settling := false, readout := none, chanState := .ok }
      else if n.new = .ok ∧ n.recovery = true ∧ (s.cfg n.chan).hold = false ∧ t.tracking = true then
        { t with chanState := .ok, shift := 0, settling := true }
      else { t with chanState := n.new }
    exec i s = .next (after s i (s.setTracker n.chan next)
      (trackedNotices ⟨n.chan, .state, if next.tracking then some ((t.x + 8) / 16) else none, next.chanState,
        (s.cfg n.chan).du⟩))

/-! ## Time base -/

/-- An advance of the clock, in a part that is not unpowered with its supply lost: the second, the minute and the day with
their carries; with a start complete, the second marks, and at the end of an hour the hour mark after them, the last mark
stamp and HOUR_MARK. The row HOUR_MARK is the advance that ends an hour (R38, R39, R51; the row, log entry 2, and an
unsupplied clock, log entry 25). -/
def Obligations.ClockAdvances : Prop :=
  ∀ s : State, (s.phase ≠ .unpowered ∨ s.latch = false) →
    let c : Clock := s.clock
    let n : Clock :=
      if c.second < 59 then { c with second := c.second + 1 }
      else if c.minute < 1439 then { c with second := 0, minute := c.minute + 1 }
      else { c with second := 0, minute := 0, day := (c.day + 1) % 65536, weekday := (c.weekday + 1) % 7 }
    let t : SecondStamp := ⟨n.day, n.minute * 60 + n.second⟩
    let seconds : List Instr := [.secondMarkAtLight t, .secondMarkAtDarkening t, .secondMarkAtPort .climate t,
      .secondMarkAtPort .lighting t, .secondMarkAtPort .conservation t, .secondMarkAtSequencer t]
    let hour : Bool := n.second = 0 && n.minute % 60 = 0
    let m : HourMark := ⟨⟨c.day, c.weekday, c.minute / 60⟩, ⟨n.day, n.weekday, n.minute / 60⟩, n.minute / 60 = 0, false⟩
    let marks : List Instr := [.hourMarkAtLight m, .hourMarkAtEnvelope m] ++
      (if m.dayFlag then [.dayMarkAtHistory m] else []) ++ attention s .hourMark none
    let marked : Clock := { n with lastMarkDay := n.day, lastMarkHour := n.minute / 60 }
    let left (k : Clock) (l : List Instr) : State := { s.setClock k with
      inFlight := s.inFlight ++ l, checkCode := Config.checkCodeOf { s.ret with clock := k } }
    exec .clockAdvance s = .next (
      if s.startComplete then if hour then left marked (seconds ++ marks) else left n seconds else left n []) ∧
    exec .hourMark s = (if s.startComplete && hour then exec .clockAdvance s else .next s)

/-- SET DATE, SET TIME and UNSET CLOCK: their refusals, what each writes of the clock record, and the one CLOCK_CHANGED hour
mark of a SET TIME that changes the hour (R40, R41, R42, R43, R44, R45; the data of the reply to UNSET CLOCK, log entry 34). -/
def Obligations.ClockWritten : Prop :=
  ∀ (q : Req) (s : State), Ready s .timeBase → q.port = .conservation →
    let c : Clock := s.clock
    let v : Nat := q.value.toNat
    exec (.setDate q) s = .next (
      if 7 ≤ q.sub.toNat then after s (.setDate q) s (reply q 0x15 .range 0)
      else if c.isSet then after s (.setDate q) s (reply q 0x15 .locked 0)
      else
        after s (.setDate q) (s.setClock { c with
          day := v, weekday := q.sub.toNat, dateReceived := true, isSet := c.timeReceived }) (reply q 0x15 .ok v)) ∧
    exec (.setTime q) s = .next (
      if 1439 < v ∨ (c.isSet = true ∧ (v + 60 < c.minute ∨ c.minute + 60 < v)) then
        after s (.setTime q) s (reply q 0x16 .range 0)
      else
        let n : Clock := { c with minute := v, second := 0, timeReceived := true, isSet := c.isSet || c.dateReceived }
        let m : HourMark := ⟨⟨c.day, c.weekday, c.minute / 60⟩, ⟨c.day, c.weekday, v / 60⟩, false, true⟩
        if v / 60 = c.minute / 60 then after s (.setTime q) (s.setClock n) (reply q 0x16 .ok v)
        else
          after s (.setTime q) (s.setClock { n with lastMarkDay := c.day, lastMarkHour := v / 60 })
            ([.hourMarkAtLight m, .hourMarkAtEnvelope m] ++ attention s .hourMark none ++ reply q 0x16 .ok v)) ∧
    exec (.unsetClock q) s = .next (
      after s (.unsetClock q) (s.setClock { c with isSet := false, dateReceived := false, timeReceived := false })
        (reply q 0x17 .ok 0))

/-! ## Envelope table -/

/-- WRITE STAGED: a field above 18 or gallery 6 is out of range; a pending commit and a loan violation refuse, gallery 7
refused whole by its lowest refusing gallery; and otherwise the value, clamped to the field's range, is staged in the
galleries named (R57, R58, R59, R60). -/
def Obligations.StagedWritten : Prop :=
  ∀ (q : Req) (s : State), Ready s .envelope → q.port = .conservation →
    let i : Instr := .writeStaged q
    let field : Option EnvField := envFields[q.sub.toNat]?
    let low : Nat := (envRange (field.getD .lmax)).1
    let high : Nat := (envRange (field.getD .lmax)).2
    let v : Nat := max low (min high q.value.toNat)
    exec i s = .next (
      match field with
      | none => after s i s (reply q 0x10 .range 0)
      | some f =>
        let barred (g : Gallery) : Bool := s.loanLock g && !loanPermits (loanDirection f) (envGet (s.active g) f) v
        if q.gallery = 6 then after s i s (reply q 0x10 .range 0)
        else
          match firstAddressed q.gallery fun g => (s.envStaged g).commitPending || barred g with
          | some g =>
            if (s.envStaged g).commitPending then after s i s (reply q 0x10 .pending (refusedBy q.gallery g 0))
            else
              after s i s (reply q 0x10 .locked
                (refusedBy q.gallery g (if q.gallery = 7 then 0 else envGet (s.active g) f)))
          | none =>
            after s i
              { s with
                env := .ofFn fun g =>
                  if addresses q.gallery g then { s.envStaged g with staged := envSet (s.envStaged g).staged f v }
                else s.envStaged g }
              (reply q 0x10 (if low ≤ q.value.toNat ∧ q.value.toNat ≤ high then .ok else .clamped) v))

/-- COMMIT, DISCARD and LOAN LOCK: COMMIT judges the pending flag, then the loan field by field, then the six checks, naming
the field or check that fails, and sets commit pending; DISCARD copies the active envelope back; LOAN LOCK is refused while
a commit is pending; and gallery 7 of COMMIT and LOAN LOCK is refused whole; and the other two masters have NOT_PERMITTED
(R61, R62, R63, R64, R69, R192; the data of an accepted COMMIT or LOAN LOCK for gallery 7, log entry 34). -/
def Obligations.CommitJudged : Prop :=
  ∀ (q : Req) (s : State), Ready s .envelope →
    let checks (e : Envelope) : List Bool := [decide (e.lmin ≤ e.lmax), decide (e.lclosed ≤ e.lmax), decide (e.lmax < e.lhard),
      decide (e.ldark < e.lhard), decide (e.tmin < e.tmax), decide (e.ostart < e.oend)]
    let locked (g : Gallery) : Option Nat :=
      (List.range 19).find? fun n => s.loanLock g &&
        match envFields[n]? with
        | some f => !loanPermits (loanDirection f) (envGet (s.active g) f) (envGet (s.envStaged g).staged f)
        | none => false
    let failed (g : Gallery) : Option Nat := (checks (s.envStaged g).staged).findIdx? (fun ok => !ok)
    let refusal (g : Gallery) : Option (Result × Nat) :=
      if (s.envStaged g).commitPending then some (.pending, 0)
      else
        match locked g, failed g with
        | some n, _ => some (.locked, n)
        | none, some n => some (.inconsistent, n + 1)
        | none, none => none
    let set : Bool := q.value ≠ 0
    let answer (i : Instr) (code : Nat) (refusal : Gallery → Option (Result × Nat)) (t : State) (data : Nat) : State :=
      if q.port ≠ .conservation then after s i s (reply q code .notPermitted 0)
      else if q.gallery = 6 then after s i s (reply q code .range 0)
      else
        match firstAddressed q.gallery fun g => (refusal g).isSome with
        | some g =>
          after s i s (reply q code ((refusal g).getD (.none, 0)).1 (refusedBy q.gallery g ((refusal g).getD (.none, 0)).2))
        | none => after s i t (reply q code .ok data)
    exec (.commit q) s = .next (answer (.commit q) 0x11 refusal
      { s with env := .ofFn fun g =>
          if addresses q.gallery g then { s.envStaged g with commitPending := true } else s.envStaged g } 0) ∧
    exec (.discard q) s = .next (answer (.discard q) 0x12 (fun _ => none)
      { s with env := .ofFn fun g => if addresses q.gallery g then ⟨s.active g, false⟩ else s.envStaged g } 0) ∧
    exec (.loanLock q) s = .next (answer (.loanLock q) 0x13
      (fun g => if (s.envStaged g).commitPending then some (.pending, 0) else none)
      { s with
        ret := { s.ret with
          env := .ofFn fun g => if addresses q.gallery g then ⟨s.active g, set⟩ else s.ret.env.get g } }
      (if set then 1 else 0))

/-- The hour mark at the envelope table: in every gallery with a commit pending the active envelope becomes the staged one,
the flag clears, the changed notices name the fields whose values differ and ENVELOPE_COMMITTED is sent; the other galleries
are not touched (R65, R66; the order of the galleries, log entry 35). -/
def Obligations.CommitApplied : Prop :=
  ∀ (m : HourMark) (s : State), Ready s .envelope →
    let i : Instr := .hourMarkAtEnvelope m
    let due (g : Gallery) : Bool := (s.envStaged g).commitPending
    let new (g : Gallery) : Envelope := (s.envStaged g).staged
    exec i s = .next (after s i
      { s with
        ret := { s.ret with env := .ofFn fun g => if due g then ⟨new g, s.loanLock g⟩ else s.ret.env.get g }
        env := .ofFn fun g => if due g then ⟨new g, false⟩ else s.envStaged g }
      (galleries.flatMap fun g =>
        let e : EnvelopeChange := ⟨g, new g, envFields.filter fun f => envGet (s.active g) f ≠ envGet (new g) f⟩
        if due g then
          [.envelopeChangedAtLight e, .envelopeChangedAtClimate e, .envelopeChangedAtDarkening e] ++
            attention s .envelopeCommitted (some g)
        else []))

/-! ## Light account unit -/

/-- A second mark at the light account unit, for every gallery: the accrual of *l* and *F*, exhaustion with its notices, the
rebase after a SET DATE, a recomputation where either calls for one, the over-counter and LUX_OVER, with all the notices they
send; and the row OVER_COUNTER_EXPIRY is the mark that opens LUX_OVER for its gallery (R74, R75, R76, R84, R85, R86, R87, R98,
R103, R104, R106, R108; the row, log entry 2, and the order of the galleries, log entry 35). -/
def Obligations.LightSecondAccrued : Prop :=
  ∀ (t : SecondStamp) (s : State), Ready s .light → ClockInv s →
    Next (exec (.secondMarkAtLight t) s) fun u =>
      (∀ g : Gallery,
        let a : Account := s.account g
        let r : LightRec := s.lightRec g
        let b : Account := u.account g
        let l : Nat := (inputOf r).1
        let acc : Account :=
          { a with hourAcc := min 943704000 (a.hourAcc + l * factorOf r / 256), lSub := a.lSub || (inputOf r).2 }
        let rebased : Bool := a.stamp.hour = s.clock.minute / 60 && a.stamp.day ≠ s.clock.day
        let again : Bool := overBudget acc r.env != a.exhausted || rebased
        let level : Nat := (u.lightRec g).allowance
        let counted : Nat :=
          if r.dark then 0 else if 10 * (level + r.env.lmax / 8) < l then min 120 (r.overCount + 1) else 0
        b = { acc with
          exhausted := overBudget acc r.env
          stamp := if rebased then ⟨s.clock.day, s.clock.weekday, a.stamp.hour⟩ else a.stamp
          doseShort := b.doseShort
          luxOver := if a.luxOver then decide (10 * level < l) else decide (counted = 120 ∧ r.overCount < 120) } ∧
        (u.lightRec g).overCount = counted ∧
        keepsCopies r (u.lightRec g) ∧ (u.lightRec g).startPending = r.startPending ∧
        (if again then Recomputed s u g else u.lightRec g = { r with overCount := counted } ∧ b.doseShort = a.doseShort)) ∧
      (u.inFlight = s.inFlight.erase (.secondMarkAtLight t) ++ galleries.flatMap fun g =>
        let a : Account := s.account g
        let r : LightRec := s.lightRec g
        let b : Account := u.account g
        let l : Nat := (inputOf r).1
        let acc : Account := { a with hourAcc := min 943704000 (a.hourAcc + l * factorOf r / 256) }
        let level : Nat := (u.lightRec g).allowance
        let told (x : LightRec) (short : Bool) : List Instr := recomputeNews s g x (u.lightRec g) short b.exhausted
        let first : List Instr := if overBudget acc r.env = a.exhausted then [] else told r a.doseShort
        let second : List Instr :=
          if a.stamp.hour = s.clock.minute / 60 ∧ a.stamp.day ≠ s.clock.day then
            if overBudget acc r.env = a.exhausted then told r a.doseShort else told (u.lightRec g) b.doseShort
          else []
        exhaustNews g acc r.env ++ first ++ second ++
          judgeNotice g .luxOver a.luxOver (decide ((u.lightRec g).overCount = 120 ∧ r.overCount < 120))
            (decide (l ≤ 10 * level)) (10 * (level + r.env.lmax / 8)) l) ∧
      (∀ g : Gallery, exec (.overCounterExpiry g t) s =
        .next (if (s.account g).luxOver = false ∧ (u.account g).luxOver = true then u else s))

/-- An hour mark at the light account unit, for every gallery: the fold with its hour close notice and the value notice of an
exhausted account, a pending start, a day step or a rollover, the renewed hour state, and the recomputation, with all the
notices they send (R77, R78, R79, R82, R83, R84, R86, R87, R98, R106; the order of the galleries, log entry 35). -/
def Obligations.HourFolded : Prop :=
  ∀ (m : HourMark) (s : State), Ready s .light → ClockInv s →
    Next (exec (.hourMarkAtLight m) s) fun u =>
      (∀ g : Gallery,
        let a : Account := s.account g
        let r : LightRec := s.lightRec g
        let b : Account := u.account g
        let total : Nat := a.carry + a.hourAcc
        let used : Nat := if a.period = none then a.used else min 4294967295 (a.used + total / 36000)
        let ends : Bool := m.dayFlag && (match a.period with | some d => decide (r.env.period ≤ d + 1) | none => false)
        b.hourAcc = 0 ∧ b.stamp = m.beginning ∧ b.schedule = ⟨r.env.ostart, r.env.oend, r.env.weekdays⟩ ∧
        b.lSub = false ∧ b.darkened = r.dark ∧ b.begunByChange = m.clockChanged ∧ b.uvHigh = a.uvHigh ∧
        b.luxOver = a.luxOver ∧ (u.lightRec g).startPending = false ∧ (u.lightRec g).overCount = r.overCount ∧
        (b.period, b.used, b.carry, b.lastUsed) = (
          if r.startPending then (some 0, 0, 0, if a.period = none then a.lastUsed else some used)
          else if ends then (some 0, 0, 0, some used)
          else (if m.dayFlag then a.period.map (· + 1) else a.period, used, total % 36000, a.lastUsed)) ∧
        (if r.startPending || ends then b.exhausted = overBudget b r.env else b.exhausted = a.exhausted) ∧
        keepsCopies r (u.lightRec g) ∧
        Recomputed s u g) ∧
      (u.inFlight = s.inFlight.erase (.hourMarkAtLight m) ++ galleries.flatMap fun g =>
        let a : Account := s.account g
        let r : LightRec := s.lightRec g
        let b : Account := u.account g
        let total : Nat := a.carry + a.hourAcc
        let used : Nat := if a.period = none then a.used else min 4294967295 (a.used + total / 36000)
        let flags : HourFlags := {
          openHour := isOpen a.schedule m.ending.weekday m.ending.hour
          darkened := a.darkened
          lSubstituted := a.lSub
          clockChanged := a.begunByChange || m.clockChanged
          powerGap := false
          noPeriod := a.period = none }
        [.hourCloseNotice ⟨g, m.ending.day, m.ending.hour, total / 36000, flags⟩] ++
          (if a.exhausted then [.valueNotice g .doseExhausted ((used * 36000 + total % 36000) / 3600000)] else []) ++
          (if b.exhausted = a.exhausted then [] else exhaustNews g { b with exhausted := a.exhausted } r.env) ++
          recomputeNews s g r (u.lightRec g) a.doseShort b.exhausted)

/-- The notices whose copies the light account unit keeps: channel states and tracked updates of L and U, the darkening state
and the envelope; with UV_HIGH judged on a U code and the allowance recomputed where the rules call for it, all the notices
sent, and every other gallery left alone. A darkening state that repeats the kept one recomputes nothing, and of not IDLE sets
the hour's darkened flag again (R73, R78, R80, R84, R85, R86, R87, R88, R98, R105, R106, R107; the repeated not-IDLE notice,
log entry 30; a tracked update of another kind, log entry 27; and that UV_HIGH comes last at an envelope change, log entry
35). -/
def Obligations.LightCopiesKept : Prop :=
  ∀ (g : Gallery) (o n : ChanState) (f1 f2 idle : Bool) (u : TrackedUpdate) (e : Envelope) (l : List EnvField) (s : State),
    Ready s .light → ClockInv s → u.chan.g = g →
    let a : Account := s.account g
    let r : LightRec := s.lightRec g
    let uv (x du uref : Nat) : Bool := if a.uvHigh then decide (uref - du < x) else decide (uref < x)
    let sent (t : State) (i : Instr) (l : List Instr) : Prop := t.inFlight = s.inFlight.erase i ++ l
    let told (t : State) : List Instr := recomputeNews s g r (t.lightRec g) a.doseShort (t.account g).exhausted
    let stays (t : State) (c : LightRec) : Prop :=
      KeepsOtherLight s t g ∧ keepsCopies c (t.lightRec g) ∧ (t.lightRec g).startPending = r.startPending
    let lux (i : Instr) (c : LightRec) (t : State) : Prop :=
      stays t c ∧ (t.lightRec g).overCount = r.overCount ∧ t.account g = { a with doseShort := (t.account g).doseShort } ∧
        (if (r.lState = .disabled) = (c.lState = .disabled) then t.lightRec g = c ∧ t.account g = a ∧ sent t i []
        else Recomputed s t g ∧ sent t i (told t))
    let li : Instr := .stateChangeAtLight ⟨⟨g, .lux⟩, o, n, f1, f2⟩
    let ui : Instr := .stateChangeAtLight ⟨⟨g, .uv⟩, o, n, f1, f2⟩
    let ti : Instr := .trackedUpdateAtLight u
    let di : Instr := .darkeningStateAtLight g idle
    let ei : Instr := .envelopeChangedAtLight ⟨g, e, l⟩
    Next (exec li s) (lux li { r with lState := n }) ∧
    exec ui s = .next (after s ui (s.setLight g { r with uState := n }) []) ∧
    Next (exec ti s) (fun t =>
      (u.chan.k = .lux → lux ti { r with lState := u.state, lCode := u.code } t) ∧
      (u.chan.k = .uv → KeepsOtherLight s t g ∧ t.lightRec g = { r with uCode := u.code, uState := u.state, uDu := u.du } ∧
        t.account g = { a with uvHigh := match u.code with | some x => uv x u.du r.env.uref | none => a.uvHigh } ∧
        sent t ti (uvNews g a.uvHigh u.code u.du r.env.uref)) ∧
      (u.chan.k ≠ .lux → u.chan.k ≠ .uv → t = after s ti s [])) ∧
    Next (exec di s) (fun t =>
      stays t { r with dark := idle } ∧
      t.account g = { a with darkened := a.darkened || idle, doseShort := (t.account g).doseShort } ∧
      (if r.dark = idle then t.lightRec g = r ∧ (t.account g).doseShort = a.doseShort ∧ sent t di []
        else Recomputed s t g ∧ (t.lightRec g).overCount = (if idle then 0 else r.overCount) ∧ sent t di (told t))) ∧
    Next (exec ei s) (fun t =>
      stays t { r with env := e } ∧ (t.lightRec g).overCount = r.overCount ∧ Recomputed s t g ∧
      t.account g = { a with
        exhausted := overBudget a e
        doseShort := (t.account g).doseShort
        schedule :=
          if a.stamp.day = s.clock.day ∧ a.stamp.hour = s.clock.minute / 60 then ⟨e.ostart, e.oend, e.weekdays⟩
          else a.schedule
        uvHigh := match r.uCode with | some x => uv x r.uDu e.uref | none => a.uvHigh } ∧
      sent t ei (exhaustNews g a e ++ told t ++ uvNews g a.uvHigh r.uCode r.uDu e.uref))

/-- START PERIOD, QUERY ALLOWANCE and DECLARE LEVEL: what each answers and sets, for one gallery and for all six, with
NOT_PERMITTED for the other two masters (R81, R101, R102). -/
def Obligations.LightRequestsAnswered : Prop :=
  ∀ (q : Req) (s : State), Ready s .light →
    let named : List Gallery := galleries.filter (addresses q.gallery)
    let all : Bool := q.gallery = 7
    let v : Nat := q.value.toNat
    (let new : Gallery → Bool := fun g => addresses q.gallery g && !(s.lightRec g).startPending
     exec (.startPeriod q) s = .next (
       if q.port ≠ .conservation then after s (.startPeriod q) s (reply q 0x14 .notPermitted 0)
       else if q.gallery = 6 then after s (.startPeriod q) s (reply q 0x14 .range 0)
       else
         after s (.startPeriod q)
           { s with light := .ofFn fun g =>
               if addresses q.gallery g then { s.lightRec g with startPending := true } else s.lightRec g }
           (reply q 0x14 (if galleries.any new then .accepted else .duplicate) (if all then maskOf new else 0)))) ∧
    exec (.queryAllowance q) s = .next (after s (.queryAllowance q) s (
      if q.port ≠ .lighting then reply q 0x08 .notPermitted 0
      else match galleryOf q.gallery.toNat, q.sub.toNat with
      | some g, 0 => reply q 0x08 .ok (s.lightRec g).allowance
      | some g, 1 => reply q 0x08 .ok (paceCode (s.lightRec g).pace)
      | some g, 2 => reply q 0x08 .ok ((s.lightRec g).declared.getD 0xFFFF)
      | some g, 3 => reply q 0x08 .ok ((s.lightRec g).hrem.getD 0xFFFF)
      | _, _ => reply q 0x08 .range 0)) ∧
    (let clamped : Gallery → Bool := fun g => addresses q.gallery g && decide ((s.lightRec g).allowance < v)
     exec (.declareLevel q) s = .next (
       if q.port ≠ .lighting then after s (.declareLevel q) s (reply q 0x09 .notPermitted 0)
       else if q.gallery = 6 then after s (.declareLevel q) s (reply q 0x09 .range 0)
       else
         after s (.declareLevel q)
           { s with light := .ofFn fun g =>
               if addresses q.gallery g then { s.lightRec g with
                 declared := if v = 0xFFFF then none else some (min v (s.lightRec g).allowance) }
               else s.lightRec g }
           (if v = 0xFFFF then reply q 0x09 .ok 0xFFFF
           else
             reply q 0x09 (if galleries.any clamped then .clamped else .ok)
               (if all then maskOf clamped else (named.map fun g => min v (s.lightRec g).allowance).sum))))

/-! ## Climate unit -/

/-- The windows of a gallery, over the aggregate copy and those of the 23 most recent records that have both extremes; and the
events on which the climate unit computes: a record written computes the bands from the windows, moves the setpoints into
them, judges the swings and sends BAND_CHANGED when a band moved; an aggregate change takes the new extremes, sets the spans
and judges the swings alone; an envelope change computes under the new envelope and then judges the limits (R111, R112, R113,
R114, R119, R120, R122; that the limits come after the computation, those of H first, is log
entry 9, and that the swing of H is judged before that of T, log entry 35). -/
def Obligations.BandsComputed : Prop :=
  ∀ (g : Gallery) (day hour : Nat) (a : AggregateChange) (e : EnvelopeChange) (s : State), Ready s .climate →
    let told (r r' : ClimateRec) : List Instr :=
      if r'.rh = r.rh ∧ r'.t = r.t then [] else attention s .bandChanged (some g)
    let r : ClimateRec := s.climateRec g
    let recent : List HourRecord := (List.range 23).filterMap fun k => s.record g k
    let pair (a b : Option Nat) : List (Nat × Nat) := match a, b with | some x, some y => [(x, y)] | _, _ => []
    let rhs : List (Nat × Nat) := recent.flatMap (fun x => pair x.rhMin x.rhMax) ++ pair r.agg.rhMin r.agg.rhMax
    let ts : List (Nat × Nat) := recent.flatMap (fun x => pair x.tMin x.tMax) ++ pair r.agg.tMin r.agg.tMax
    s.rhWindow g = ⟨(rhs.map Prod.fst).min?, (rhs.map Prod.snd).max?⟩ ∧
    s.tWindow g = ⟨(ts.map Prod.fst).min?, (ts.map Prod.snd).max?⟩ ∧
    (let b : ClimateRec := banded r (s.rhWindow g) (s.tWindow g)
    exec (.recordWrittenNotice g day hour) s = .next (after s (.recordWrittenNotice g day hour) (s.setClimate g (swung b))
      (swingNotices g b ++ told r b))) ∧
    (a.g = g →
      let s1 : State := s.setClimate g { r with agg := ⟨a.rhMin, a.rhMax, a.tMin, a.tMax⟩ }
      let b : ClimateRec := { s1.climateRec g with rhSpan := spanOf (s1.rhWindow g), tSpan := spanOf (s1.tWindow g) }
      exec (.aggregateChangeNotice a) s =
        .next (after s (.aggregateChangeNotice a) (s.setClimate g (swung b)) (swingNotices g b))) ∧
    (e.g = g →
      let b : ClimateRec := banded { r with env := e.env } (s.rhWindow g) (s.tWindow g)
      exec (.envelopeChangedAtClimate e) s = .next (after s (.envelopeChangedAtClimate e)
        (s.setClimate g (limitedT (limitedRh (swung b))))
        (swingNotices g b ++ told r b ++ limitNoticesRh g b ++ limitNoticesT g b)))

/-- The notices whose copies the climate unit keeps: the state of H and T channels, with the limit excursions closed when a
channel becomes DISABLED; their tracked updates, with the limits judged; and the climate master's presence, whose ABSENT
withdraws every setpoint (R110, R118, R119, R120, R121; a tracked update of another kind, log entry 27, and that a DISABLED
channel closes its high excursion first, log entry 35). -/
def Obligations.ClimateCopiesKept : Prop :=
  ∀ (g : Gallery) (k : Kind) (o n : ChanState) (f1 f2 : Bool) (u : TrackedUpdate) (p : Presence) (s : State),
    Ready s .climate → u.chan.g = g →
    let r : ClimateRec := s.climateRec g
    let i : Instr := .stateChangeAtClimate ⟨⟨g, k⟩, o, n, f1, f2⟩
    let shutH (r : ClimateRec) (n : ChanState) : ClimateRec :=
      if n = .disabled ∧ r.h.state ≠ .disabled then { r with h := { r.h with state := n }, rhHigh := false, rhLow := false }
      else { r with h := { r.h with state := n } }
    let shutT (r : ClimateRec) (n : ChanState) : ClimateRec :=
      if n = .disabled ∧ r.tc.state ≠ .disabled then { r with tc := { r.tc with state := n }, tHigh := false, tLow := false }
      else { r with tc := { r.tc with state := n } }
    let closing (n now : ChanState) (hi lo : ExcType) (fh fl : Bool) : List Instr :=
      if n = .disabled ∧ now ≠ .disabled then
        (if fh then [.closeNotice g hi] else []) ++ (if fl then [.closeNotice g lo] else [])
      else []
    (k = .rh → exec i s = .next (after s i (s.setClimate g (shutH r n)) (closing n r.h.state .rhHigh .rhLow r.rhHigh r.rhLow))) ∧
    (k = .temp → exec i s = .next (after s i (s.setClimate g (shutT r n)) (closing n r.tc.state .tHigh .tLow r.tHigh r.tLow))) ∧
    (k = .lux ∨ k = .uv → exec i s = .next (after s i s [])) ∧
    (let j : Instr := .trackedUpdateAtClimate u
    let h : ClimateRec := shutH { r with h := { r.h with code := u.code, du := u.du } } u.state
    let c : ClimateRec := shutT { r with tc := { r.tc with code := u.code, du := u.du } } u.state
    exec j s = .next (
      match u.chan.k with
      | .rh => after s j (s.setClimate g (limitedRh h))
          (closing u.state r.h.state .rhHigh .rhLow r.rhHigh r.rhLow ++ limitNoticesRh g h)
      | .temp => after s j (s.setClimate g (limitedT c))
          (closing u.state r.tc.state .tHigh .tLow r.tHigh r.tLow ++ limitNoticesT g c)
      | _ => after s j s [])) ∧
    exec (.presenceNoticeAtClimate p) s = .next (after s (.presenceNoticeAtClimate p)
      (if p = .absent then
        { s with climate := .ofFn fun g => { s.climateRec g with rhSet := none, tSet := none } }
      else s) [])

/-- QUERY BAND and DECLARE SETPOINT: what each answers and sets, for one gallery and for all six, with NOT_PERMITTED for the
other two masters (R116, R117). -/
def Obligations.ClimateRequestsAnswered : Prop :=
  ∀ (q : Req) (s : State), Ready s .climate →
    let v : Nat := q.value.toNat
    let collapse (r : ClimateRec) : Nat := (if r.rh.collapsed then 1 else 0) + (if r.t.collapsed then 2 else 0)
    exec (.queryBand q) s = .next (after s (.queryBand q) s (
      if q.port ≠ .climate then reply q 0x0C .notPermitted 0
      else match galleryOf q.gallery.toNat, q.sub.toNat with
      | some g, 0 => reply q 0x0C .ok (s.climateRec g).rh.low
      | some g, 1 => reply q 0x0C .ok (s.climateRec g).rh.high
      | some g, 2 => reply q 0x0C .ok (s.climateRec g).t.low
      | some g, 3 => reply q 0x0C .ok (s.climateRec g).t.high
      | some g, 4 => reply q 0x0C .ok ((s.climateRec g).rhSet.getD 0xFFFF)
      | some g, 5 => reply q 0x0C .ok ((s.climateRec g).tSet.getD 0xFFFF)
      | some g, 6 => reply q 0x0C .ok (collapse (s.climateRec g))
      | _, _ => reply q 0x0C .range 0)) ∧
    (let band (g : Gallery) : Band := if q.sub = 0 then (s.climateRec g).rh else (s.climateRec g).t
    let granted (g : Gallery) : Nat := max (band g).low (min (band g).high v)
    let set (g : Gallery) : Option Nat := if v = 0xFFFF then none else some (granted g)
    let clamped (g : Gallery) : Bool := addresses q.gallery g && granted g != v
    exec (.declareSetpoint q) s = .next (
      if q.port ≠ .climate then after s (.declareSetpoint q) s (reply q 0x0D .notPermitted 0)
      else if 2 ≤ q.sub.toNat ∨ q.gallery = 6 then after s (.declareSetpoint q) s (reply q 0x0D .range 0)
      else
        after s (.declareSetpoint q)
          { s with
            climate := .ofFn fun g =>
              if addresses q.gallery g then
                if q.sub = 0 then { s.climateRec g with rhSet := set g } else { s.climateRec g with tSet := set g }
              else s.climateRec g }
          (if v = 0xFFFF then reply q 0x0D .ok 0xFFFF
          else
            reply q 0x0D (if galleries.any clamped then .clamped else .ok)
              (if q.gallery = 7 then maskOf clamped else ((galleries.filter (addresses q.gallery)).map granted).sum))))

/-! ## History store -/

/-- A tracked update at the history store: a SAMPLE moves the extremes of its kind, a STATE that does not measure marks an H
or T hour incomplete, the kept copy follows, and a change of the four climate extremes is told (R126, R127, R128). -/
def Obligations.AggregatesGathered : Prop :=
  ∀ (u : TrackedUpdate) (s : State), Ready s .history →
    let i : Instr := .trackedUpdateAtHistory u
    let g : Gallery := u.chan.g
    let a : Aggregates := s.aggregates g
    let sampled : Bool := u.kind = .sample
    let spoils : Bool := u.kind = .state && (u.state != .ok || u.code == none)
    let low (m : Option Nat) : Option Nat := if sampled then (match u.code, m with
      | some x, some v => some (min v x)
      | some x, none => some x
      | none, _ => m) else m
    let high (m : Option Nat) : Option Nat := if sampled then (match u.code, m with
      | some x, some v => some (max v x)
      | some x, none => some x
      | none, _ => m) else m
    let b : Aggregates :=
      match u.chan.k with
      | .lux => { a with peakL := high a.peakL }
      | .uv => { a with uvMax := high a.uvMax }
      | .rh => { a with
          rhMin := low a.rhMin, rhMax := high a.rhMax, hState := u.state, hCode := u.code,
          hIncomplete := a.hIncomplete || spoils }
      | .temp => { a with
          tMin := low a.tMin, tMax := high a.tMax, tState := u.state, tCode := u.code,
          tIncomplete := a.tIncomplete || spoils }
    exec i s = .next (after s i (s.setAggregates g b)
      (if (b.rhMin, b.rhMax, b.tMin, b.tMax) = (a.rhMin, a.rhMax, a.tMin, a.tMax) then []
      else [.aggregateChangeNotice ⟨g, b.rhMin, b.rhMax, b.tMin, b.tMax⟩]))

/-- An hour close appends the hour's record: it is read back as the newest, the records before it keep their order, the counts
follow the three cases of an append with HISTORY_OVERRUN in the third, the other rings read as before, the aggregates restart,
and the climate unit is told (R125, R127, R128, R129, R130, R131, R132; the position of the first record of an empty ring, log
entry 36). -/
def Obligations.HourClosed : Prop :=
  ∀ (h : HourClose) (s : State), Ready s .history → RecordInv s →
    let i : Instr := .hourCloseNotice h
    let a : Aggregates := s.aggregates h.g
    let x : HourRecord := {
      day := h.day, hour := h.hour, flags := h.flags, hIncomplete := a.hIncomplete, tIncomplete := a.tIncomplete,
      dose := h.dose, peakL := a.peakL, uvMax := a.uvMax, rhMin := a.rhMin, rhMax := a.rhMax, tMin := a.tMin,
      tMax := a.tMax }
    let r : Ring := s.ring h.g
    Next (exec i s) fun t =>
      (t.record h.g 0 = some x) ∧
      (∀ k, k + 1 < (t.ring h.g).count → t.record h.g (k + 1) = s.record h.g k) ∧
      (∀ g : Gallery, g ≠ h.g → t.ring g = s.ring g ∧ (∀ k, t.record g k = s.record g k)) ∧
      ((t.ring h.g).base = r.base ∧ (t.ring h.g).length = r.length ∧
        t.ret.history.pendingPartition = s.ret.history.pendingPartition) ∧
      ((t.ring h.g).newest = some (match r.newest with | some p => if p + 1 = r.length then 0 else p + 1 | none => 0)) ∧
      (((t.ring h.g).count, (t.ring h.g).unread, (t.ring h.g).overrun) =
        if r.count < r.length then (r.count + 1, r.unread + 1, r.overrun)
        else if r.unread < r.count then (r.count, r.unread + 1, r.overrun)
        else (r.count, r.unread, true)) ∧
      (t.aggregates h.g = { a with
        peakL := none, uvMax := none, rhMin := none, rhMax := none, tMin := none, tMax := none
        hIncomplete := a.hState != .ok || a.hCode == none, tIncomplete := a.tState != .ok || a.tCode == none }) ∧
      (∀ g : Gallery, g ≠ h.g → t.aggregates g = s.aggregates g) ∧
      (t.inFlight = s.inFlight.erase i ++ (if r.length ≤ r.count ∧ r.count ≤ r.unread then
          attention s .historyOverrun (some h.g) else []) ++
        [.recordWrittenNotice h.g h.day h.hour, .aggregateChangeNotice ⟨h.g, none, none, none, none⟩])

/-- ADVANCE MARK marks the oldest unread records of each ring named and clears its overrun flag; PARTITION sets one pending
partition, INCONSISTENT above 512 slots, or withdraws it (R133, R134). -/
def Obligations.HistoryRequestsAnswered : Prop :=
  ∀ (q : Req) (s : State), Ready s .history → q.port = .conservation →
    let n : Nat := q.value.toNat
    let all : Bool := q.gallery = 7
    let clamped (g : Gallery) : Bool := addresses q.gallery g && decide ((s.ring g).unread < n)
    let v : Nat := max 24 (min 168 n)
    let lengths : PerGallery Nat :=
      match s.ret.history.pendingPartition with
      | some ls => ls
      | none => .ofFn fun g => (s.ring g).length
    let asked : PerGallery Nat := .ofFn fun g => if addresses q.gallery g then v else lengths.get g
    let sum : Nat := (galleries.map asked.get).sum
    exec (.advanceMark q) s = .next (
      if q.gallery = 6 then after s (.advanceMark q) s (reply q 0x1F .range 0)
      else
        after s (.advanceMark q)
          (s.setHistory { s.ret.history with
            rings := .ofFn fun g =>
              if addresses q.gallery g then { s.ring g with unread := (s.ring g).unread - n, overrun := false }
              else s.ring g })
          (reply q 0x1F (if galleries.any clamped then .clamped else .ok)
            (if all then maskOf clamped
            else ((galleries.filter (addresses q.gallery)).map fun g =>
              min n (s.ring g).unread + (if (s.ring g).overrun then 32768 else 0)).sum))) ∧
    exec (.partitionSet q) s = .next (
      if q.gallery = 6 then after s (.partitionSet q) s (reply q 0x1E .range 0)
      else if 512 < sum then after s (.partitionSet q) s (reply q 0x1E .inconsistent sum)
      else
        after s (.partitionSet q) (s.setHistory { s.ret.history with pendingPartition := some asked })
          (reply q 0x1E (if 24 ≤ n ∧ n ≤ 168 then .ok else .clamped) sum)) ∧
    exec (.partitionWithdraw q) s = .next (after s (.partitionWithdraw q)
      (s.setHistory { s.ret.history with pendingPartition := none }) (reply q 0x1E .ok 0))

/-- A day mark applies the pending partition: a ring whose place and length stay keeps its records; any other is emptied, but
for a newest record that carries the ending stamp; and nothing is pending after it. With none pending, or without the day
flag, nothing changes (R130, R135; a mark without the day flag, log entry 27). -/
def Obligations.PartitionApplied : Prop :=
  ∀ (m : HourMark) (s : State), Ready s .history → RecordInv s →
    let i : Instr := .dayMarkAtHistory m
    (m.dayFlag = false ∨ s.ret.history.pendingPartition = none → exec i s = .next (after s i s [])) ∧
    (∀ ls, s.ret.history.pendingPartition = some ls → m.dayFlag = true →
      Next (exec i s) fun t =>
        (t.ret.history.pendingPartition = none ∧ t.inFlight = s.inFlight.erase i ∧ t.agg = s.agg) ∧
        (∀ g : Gallery,
          let r : Ring := s.ring g
          let base : Nat := ((galleries.take (galleryNum g)).map ls.get).sum
          let kept : Option HourRecord :=
            (s.record g 0).filter fun x => decide (x.day = m.ending.day ∧ x.hour = m.ending.hour)
          (r.base = base → r.length = ls.get g → t.ring g = r ∧ (∀ k, t.record g k = s.record g k)) ∧
          (r.base ≠ base ∨ r.length ≠ ls.get g → kept = none → t.ring g = ⟨base, ls.get g, 0, none, 0, false⟩) ∧
          (r.base ≠ base ∨ r.length ≠ ls.get g → kept ≠ none →
            t.ring g = ⟨base, ls.get g, 1, some 0, min 1 r.unread, false⟩ ∧ t.record g 0 = kept)))

/-! ## Excursion log -/

/-- The owners' notices at the excursion log: an opening of an inactive type makes it active and takes an entry whose id is the
first from the next id on that no entry holds, in place of the oldest CLOSED entry when the pool is full, and none when all 32
are OPEN; a value, or an opening of an active type, moves the extreme of the OPEN entry; a closing stamps the entry, or
removes an acknowledged one (R138, R139, R140, R141, R142, R143, R144, R145; the extreme recorded for a value above 65535, log
entry 4). -/
def Obligations.LogNoticesTaken : Prop :=
  ∀ (g : Gallery) (y : ExcType) (limit v : Nat) (s : State), Ready s .log → LogInv s →
    let l : LogRetained := s.ret.log
    let stamp : SecondStamp := ⟨s.clock.day, s.clock.minute * 60 + s.clock.second⟩
    let mine (e : Entry) : Bool := e.g = g && e.type = y && e.closed == none
    let smallest : Bool := y = .doseShort || y = .rhLow || y = .tLow
    let kept (x : Nat) : Nat := if x ≤ 65535 then x else (Config.overrangeExtreme x).toNat
    let followed : State := s.setLogRet { l with
      pool := l.pool.map fun e =>
        if mine e then { e with extreme := kept (if smallest then min e.extreme v else max e.extreme v) } else e }
    let created (pool : List Entry) (overflow : Bool) (t : State) : Prop :=
      ∃ n : Nat, n < 33 ∧
        (let id (m : Nat) : Nat := (l.nextId + m) % 256
        (∀ e ∈ pool, e.id ≠ id n) ∧ (∀ m < n, ∃ e ∈ pool, e.id = id m) ∧
          t.ret.log = ⟨pool ++ [⟨id n, g, y, false, stamp, none, limit, kept v⟩], (id n + 1) % 256, overflow⟩)
    let oi : Instr := .openNotice g y limit v
    let active (t : State) : Prop := t.log.active = s.log.active.set g ((s.log.active.get g).set y true)
    (s.isActive g y = true → exec oi s = .next (after s oi followed [])) ∧
    (s.isActive g y = false → Next (exec oi s) fun t => active t ∧
      (l.pool.length < 32 → created l.pool l.overflow t ∧ t.log.sinceSelection = s.log.sinceSelection ∧
        t.inFlight = s.inFlight.erase oi ++ attention s .excursionOpened (some g)) ∧
      (l.pool.length = 32 → (∃ e ∈ l.pool, e.closed ≠ none) →
        created (l.pool.eraseP fun e => e.closed != none) true t ∧ t.log.sinceSelection = true ∧
          t.inFlight =
            s.inFlight.erase oi ++ attention s .excursionOverflow none ++ attention s .excursionOpened (some g)) ∧
      (l.pool.length = 32 → (∀ e ∈ l.pool, e.closed = none) →
        t.ret.log = { l with overflow := true } ∧ t.log.sinceSelection = true ∧
          t.inFlight = s.inFlight.erase oi ++ attention s .excursionOverflow none)) ∧
    exec (.valueNotice g y v) s =
      .next (after s (.valueNotice g y v) (if s.isActive g y then followed else s) []) ∧
    (let ci : Instr := .closeNotice g y
    exec ci s = .next (
      if s.isActive g y then
        after s ci
          ((s.setActiveType g y false).setLogRet { l with
            pool := (l.pool.filter fun e => !(mine e && e.acked)).map fun e =>
              if mine e then { e with closed := some stamp } else e })
          (if l.pool.any mine then attention s .excursionClosed (some g) else [])
      else after s ci s []))

/-- ACK EXCURSION: one entry by id and gallery, removed when CLOSED, marked when OPEN, with RANGE, NOT_FOUND and DUPLICATE;
or every CLOSED entry of the galleries named, with their count (R146, R147). -/
def Obligations.ExcursionsAcknowledged : Prop :=
  ∀ (q : Req) (s : State), Ready s .log → LogInv s → q.port = .conservation →
    let l : LogRetained := s.ret.log
    let n : Nat := q.value.toNat
    let gone (e : Entry) : Bool := addresses q.gallery e.g && e.closed != none
    exec (.ackExcursionOne q) s = .next (
      match galleryOf q.gallery.toNat with
      | none => after s (.ackExcursionOne q) s (reply q 0x20 .range 0)
      | some g =>
        if 255 < n then after s (.ackExcursionOne q) s (reply q 0x20 .range 0)
        else
          match l.pool.find? fun e => e.g = g && e.id = n with
          | none => after s (.ackExcursionOne q) s (reply q 0x20 .notFound 0)
          | some e =>
            if e.closed ≠ none then
              after s (.ackExcursionOne q) (s.setLogRet { l with pool := l.pool.filter fun d => d.id ≠ n })
                (reply q 0x20 .ok 1)
            else if e.acked then after s (.ackExcursionOne q) s (reply q 0x20 .duplicate 0)
            else
              after s (.ackExcursionOne q)
                (s.setLogRet { l with pool := l.pool.map fun d => if d.id = n then { d with acked := true } else d })
                (reply q 0x20 .ok 0)) ∧
    exec (.ackExcursionAllClosed q) s = .next (
      if q.gallery = 6 then after s (.ackExcursionAllClosed q) s (reply q 0x20 .range 0)
      else
        after s (.ackExcursionAllClosed q) (s.setLogRet { l with pool := l.pool.filter fun e => !gone e })
          (reply q 0x20 .ok (l.pool.filter gone).length))

/-! ## Darkening controller -/

/-- A second mark at the darkening controller, for every gallery: the course from ARMED to DARK, the hard-lux counter with
HARD_LUX joining at 60, and LUX_HARD, with all the notices they send; and the rows that name an expiry are the marks at which
it happens (R153, R154, R155, R156, R157, R160, R161; the rows, log entry 2, and the order of the galleries, log entry 35). -/
def Obligations.DarkeningSecond : Prop :=
  ∀ (m : SecondStamp) (s : State), Ready s .darkening →
    Next (exec (.secondMarkAtDarkening m) s) fun t =>
      t.ret.triggers = s.ret.triggers ∧
      (∀ g : Gallery,
        let x : DarkRec × SourceSet × Bool := darkOf s g
        let r : DarkRec := x.1
        let reached : Bool := glares r && decide (59 ≤ r.hardLux)
        let c : DarkRec × SourceSet × Bool := coursed x
        let n : Nat := if reached then 0 else if glares r then r.hardLux + 1 else 0
        let c1 : DarkRec × SourceSet × Bool := ({ c.1 with hardLux := n }, c.2)
        let j : DarkRec × SourceSet × Bool := if reached then joined (secondStamp s.clock) .hardLux false c1 else c1
        darkOf t g = ({ j.1 with luxHardOpen := hardAfter r reached }, j.2)) ∧
      (t.inFlight = s.inFlight.erase (.secondMarkAtDarkening m) ++ galleries.flatMap fun g =>
        let r : DarkRec := s.darkRec g
        let reached : Bool := glares r && decide (59 ≤ r.hardLux)
        courseNews s g (darkOf s g) ++ (if reached then joinNews s g false (coursed (darkOf s g)) else []) ++
          hardNews g r reached) ∧
      (∀ g : Gallery,
        let r : DarkRec := s.darkRec g
        let dark : Bool := match r.lCode with | some y => y ≤ 10 * r.env.ldark | none => false
        let row (c : Bool) : Answer := .next (if c then t else s)
        exec (.delayExpiry g m) s = row (r.state = .armed && decide (r.delayLeft.getD 0 ≤ 1)) ∧
        exec (.timeToDarkExpiry g m) s =
          row (r.state = .darkening && r.lState = .ok && !dark && decide (599 ≤ r.timeToDark)) ∧
        exec (.heldMinute g m) s = row (r.state = .dark && decide (59 ≤ r.heldSub)) ∧
        exec (.hardLuxCountExpiry g m) s = row (glares r && decide (59 ≤ r.hardLux)))

/-- DARKEN and RELEASE of the lighting and the conservation master: which galleries they change, how a source joins or
leaves, the immediate DARKEN that ends a running delay, the release of every source at once, the notices of each gallery, and
the replies (R153, R154, R155, R156, R158, R162, R163; what the rules leave open of the data, log entry 16, of the counters, log
entry 15, and the order of the galleries, log entry 35). -/
def Obligations.DarkenAndRelease : Prop :=
  ∀ (q : Req) (s : State), Ready s .darkening →
    let named (g : Gallery) : Bool := addresses q.gallery g
    let all : Bool := q.gallery = 7
    let state (t : State) : Nat := ((galleries.filter named).map fun g => darkStateCode (t.darkRec g).state).sum
    let now : SecondStamp := secondStamp s.clock
    let asks (g : Gallery) : Bool := named g && !(s.sources g).lightReq
    let held (g : Gallery) : Bool := named g && (s.sources g).lightReq
    let joins (g : Gallery) : Bool := named g && !(s.sources g).conservationReq
    let ends (g : Gallery) : Bool := named g && decide (q.sub = 1) && (s.darkRec g).state == .armed
    let full (g : Gallery) : Bool := named g && s.sources g != .empty
    let ended (x : DarkRec × SourceSet × Bool) : DarkRec × SourceSet × Bool :=
      entered (x.1.armedWith - x.1.delayLeft.getD 0) x
    let sent (t : State) (i : Instr) (news : Gallery → List Instr) (answer : List Instr) : Prop :=
      t.inFlight = s.inFlight.erase i ++ galleries.flatMap news ++ answer
    (q.port = .lighting →
      Next (exec (.lightingDarken q) s) (fun t => t.ret.triggers = s.ret.triggers ∧
        (∀ g : Gallery, darkOf t g = if asks g then joined now .lightReq false (darkOf s g) else darkOf s g) ∧
        sent t (.lightingDarken q) (fun g => if asks g then joinNews s g false (darkOf s g) else []) (
          if q.gallery = 6 then reply q 0x0A .range 0
          else reply q 0x0A (if galleries.any asks then .ok else .duplicate) (if all then maskOf asks else state t))) ∧
      Next (exec (.lightingRelease q) s) (fun t => t.ret.triggers = s.ret.triggers ∧
        (∀ g : Gallery, darkOf t g = if named g then left .lightReq .lightingRelease (darkOf s g) else darkOf s g) ∧
        sent t (.lightingRelease q) (fun g => if named g then leaveNews s g .lightReq (darkOf s g) else []) (
          if q.gallery = 6 then reply q 0x0B .range 0
          else if galleries.any held then reply q 0x0B .ok (if all then maskOf held else state t)
          else reply q 0x0B .notFound 0))) ∧
    (q.port = .conservation →
      Next (exec (.conservationDarken q) s) (fun t => t.ret.triggers = s.ret.triggers ∧
        (∀ g : Gallery, darkOf t g =
          if 2 ≤ q.sub.toNat then darkOf s g
          else
            let x := if joins g then joined now .conservationReq (q.sub = 1) (darkOf s g) else darkOf s g
            if ends g then ended x else x) ∧
        sent t (.conservationDarken q) (fun g =>
          if 2 ≤ q.sub.toNat then []
          else
            (if joins g then joinNews s g (q.sub = 1) (darkOf s g) else []) ++
              (if ends g then enterNews s g (s.darkRec g) else [])) (
          if 2 ≤ q.sub.toNat ∨ q.gallery = 6 then reply q 0x0A .range 0
          else
            reply q 0x0A (if galleries.any fun g => joins g || ends g then .ok else .duplicate)
              (if all then maskOf fun g => joins g || ends g else state t))) ∧
      Next (exec (.conservationRelease q) s) (fun t => t.ret.triggers = s.ret.triggers ∧
        (∀ g : Gallery, darkOf t g =
          if full g then
            let x := released .empty .conservationRelease (darkOf s g)
            ({ x.1 with hardLux := 0 }, x.2)
          else darkOf s g) ∧
        sent t (.conservationRelease q) (fun g => if full g then releaseNews s g .empty (darkOf s g) else []) (
          if q.gallery = 6 then reply q 0x0B .range 0
          else reply q 0x0B .ok (if all then maskOf full else if galleries.any full then 1 else 0))))

/-- The sources the part adds by itself and its trigger inputs: EXHAUST and LIGHT_SILENCE under their policy bits, a rise of
an input at the galleries of its mask, a fall with auto-release, and nothing of a rise or fall that repeats the level, with the
notices of each gallery; TRIGGER SETUP; and the copies the darkening controller keeps of its L channels and envelopes (R152,
R153, R154, R156, R158, R164, R165, R166; when a rise or fall acts, log entry 29; one that repeats the level, and a tracked
update of another kind, log entry 27; the counters that leaving sets to 0, log entry 15; and the order of the galleries, log
entry 35). -/
def Obligations.OwnSourcesJoin : Prop :=
  ∀ (g : Gallery) (yes : Bool) (p : Presence) (x : Trigger) (q : Req) (u : TrackedUpdate) (e : EnvelopeChange) (s : State),
    let now : SecondStamp := secondStamp s.clock
    let c : TriggerCfg := s.ret.triggers.get x
    let input : Source := match x with | .a => .inputA | .b => .inputB
    let fell : EndCause := match x with | .a => .inputAFall | .b => .inputBFall
    let level (v : Bool) : State := { s with trigger := s.trigger.set x v }
    let v : Nat := q.value.toNat
    let answer (x : Trigger) : State :=
      if 256 ≤ v then after s (.triggerSetup q) s (reply q 0x21 .range 0)
      else
        after s (.triggerSetup q) (s.setTriggerCfg x ⟨BitVec.ofNat 6 v, v.testBit 6, v.testBit 7⟩)
          (reply q 0x21 .ok (v + (if s.trigger.get x then 256 else 0)))
    let sent (t : State) (l : List Instr) (news : Gallery → List Instr) : Prop := t.inFlight = l ++ galleries.flatMap news
    (Ready s .darkening →
      Next (exec (.exhaustionChangeNotice g yes) s) (fun t => t.ret.triggers = s.ret.triggers ∧
        (∀ h : Gallery, darkOf t h = (
          if h ≠ g then darkOf s h
          else if yes then
            if (s.darkRec g).env.policy.testBit 0 then joined now .exhaust false (darkOf s g) else darkOf s g
          else left .exhaust .exhaustionCleared (darkOf s g))) ∧
        t.inFlight = s.inFlight.erase (.exhaustionChangeNotice g yes) ++ (
          if yes then if (s.darkRec g).env.policy.testBit 0 then joinNews s g false (darkOf s g) else []
          else leaveNews s g .exhaust (darkOf s g))) ∧
      Next (exec (.presenceNoticeAtDarkening p) s) (fun t => t.ret.triggers = s.ret.triggers ∧
        (∀ h : Gallery, darkOf t h = (
          if p = .absent then
            if (s.darkRec h).env.policy.testBit 1 then joined now .lightSilence false (darkOf s h) else darkOf s h
          else if p = .present then left .lightSilence .lightingPresent (darkOf s h)
          else darkOf s h)) ∧
        sent t (s.inFlight.erase (.presenceNoticeAtDarkening p)) (fun h =>
          if p = .absent then if (s.darkRec h).env.policy.testBit 1 then joinNews s h false (darkOf s h) else []
          else if p = .present then leaveNews s h .lightSilence (darkOf s h)
          else [])) ∧
      (s.trigger.get x = false → Next (exec (.triggerRise x) s) fun t =>
        Owned .darkening (level true) t ∧ t.ret.triggers = s.ret.triggers ∧
        (∀ h : Gallery, darkOf t h = (
          if c.disabled = false ∧ c.mask.getLsbD (galleryNum h) = true then joined now input false (darkOf s h)
          else darkOf s h)) ∧
        sent t s.inFlight fun h =>
          if c.disabled = false ∧ c.mask.getLsbD (galleryNum h) = true then joinNews s h false (darkOf s h) else []) ∧
      (s.trigger.get x = true → Next (exec (.triggerFall x) s) fun t =>
        Owned .darkening (level false) t ∧ t.ret.triggers = s.ret.triggers ∧
        (∀ h : Gallery, darkOf t h = if c.autoRelease then left input fell (darkOf s h) else darkOf s h) ∧
        sent t s.inFlight fun h => if c.autoRelease then leaveNews s h input (darkOf s h) else []) ∧
      (q.port = .conservation → exec (.triggerSetup q) s = .next (
        match q.sub.toNat with
        | 0 => answer .a
        | 1 => answer .b
        | _ => after s (.triggerSetup q) s (reply q 0x21 .range 0))) ∧
      exec (.trackedUpdateAtDarkening u) s = .next (after s (.trackedUpdateAtDarkening u)
        (if u.chan.k = .lux then
          s.setDark u.chan.g { s.darkRec u.chan.g with lCode := u.code, lState := u.state }
        else s) []) ∧
      exec (.envelopeChangedAtDarkening e) s = .next (after s (.envelopeChangedAtDarkening e)
        (s.setDark e.g { s.darkRec e.g with env := e.env }) [])) ∧
    (s.trigger.get x = true → exec (.triggerRise x) s = .next s) ∧
    (s.trigger.get x = false → exec (.triggerFall x) s = .next s) ∧
    (¬Ready s .darkening → s.trigger.get x = false → exec (.triggerRise x) s = .next (level true)) ∧
    (¬Ready s .darkening → s.trigger.get x = true → exec (.triggerFall x) s = .next (level false))

/-! ## Self-check sequencer -/

/-- CHECK, CANCEL CHECK and CHECK SETUP: which galleries join or leave the queue, the check an IDLE sequencer takes up, the
running check aborted as CANCELLED, CHECK_DONE for every gallery that completes or is cancelled, the setup's refusals, and the
replies (R171, R172, R173, R175, R176, R177, R178; the order in which a gallery-7 CANCEL CHECK takes the queued galleries, log
entry 35, and which refusal of a CHECK SETUP comes first, log entry 39). -/
def Obligations.CheckRequestsTaken : Prop :=
  ∀ (q : Req) (s : State), Ready s .sequencer → SeqInv s → q.port = .conservation →
    let v : Nat := q.value.toNat
    let all : Bool := q.gallery = 7
    let runs (g : Gallery) : Bool := match s.seq.run with | some r => r.g == g | none => false
    let queued (g : Gallery) : Bool := s.seq.queue.contains g
    let fresh (g : Gallery) : Bool := addresses q.gallery g && !runs g && !queued g
    let more : List Gallery := galleries.filter fresh
    let waiting : Sequencer := { s.seq with
      queue := s.seq.queue ++ more
      results := .ofFn fun g => if fresh g then { s.checkResult g with summary := .queued } else s.checkResult g }
    let gone (g : Gallery) : Bool := addresses q.gallery g && queued g
    let hit (g : Gallery) : Bool := addresses q.gallery g && (queued g || runs g)
    let cancelled : Sequencer := { s.seq with
      queue := s.seq.queue.filter fun g => !gone g
      results := .ofFn fun g => if gone g then ⟨.cancelled, .all .notRun, .all (.all .notRun)⟩ else s.checkResult g }
    Next (exec (.check q) s) (fun t =>
      t.ret.setup = s.ret.setup ∧
      (t.seq = if more = [] then s.seq else if s.seq.run = none then headsTaken s more waiting else waiting) ∧
      (t.inFlight = s.inFlight.erase (.check q) ++ (if s.seq.run = none then headsNews s more else []) ++ (
        if q.gallery = 6 then reply q 0x1B .range 0
        else if more = [] then reply q 0x1B .duplicate 0
        else reply q 0x1B .accepted (if all then maskOf fresh else 0)))) ∧
    Next (exec (.cancelCheck q) s) (fun t =>
      t.ret.setup = s.ret.setup ∧
      (t.seq =
        match s.seq.run with
        | some r =>
          if addresses q.gallery r.g then headsTaken s cancelled.queue (abortedWith .cancelled r cancelled) else cancelled
        | none => cancelled) ∧
      (t.inFlight = s.inFlight.erase (.cancelCheck q) ++
        (galleries.filter gone).flatMap (fun g => attention s .checkDone (some g)) ++
        (match s.seq.run with
        | some r => if addresses q.gallery r.g then abortNews s r cancelled.queue else []
        | none => []) ++
        (if q.gallery = 6 then reply q 0x1C .range 0
        else if galleries.any hit then reply q 0x1C .ok (if all then maskOf hit else 0)
        else reply q 0x1C .notFound 0))) ∧
    exec (.checkSetup q) s = .next (
      if 64 ≤ v then after s (.checkSetup q) s (reply q 0x1D .range 0)
      else if v % 16 = 0 then after s (.checkSetup q) s (reply q 0x1D .inconsistent 0)
      else
        after s (.checkSetup q)
          (s.setSetup ⟨⟨v.testBit 0, v.testBit 1, v.testBit 2, v.testBit 3⟩, v / 16⟩) (reply q 0x1D .ok v))

/-- The course of a check: a second mark counts the dwell, and at its end the sequencer awaits the reading (the row
DWELL_EXPIRY); a reading that is not awaited changes nothing but the condition it names; and a gallery that darkens aborts
its running check with CHECK_DONE, the next heads being taken up (R172, R173, R174, R175, R176; the row, log entry 2, and a
discarded reading, log entry 19). -/
def Obligations.CheckTimed : Prop :=
  ∀ (m : SecondStamp) (c : Chan) (x : CheckStep) (r : Reading) (g : Gallery) (yes : Bool) (s : State), Ready s .sequencer →
    SeqInv s →
    let i : Instr := .secondMarkAtSequencer m
    let left : Option CheckRun := s.seq.run.map fun y =>
      match y.phase with
      | .dwell n => { y with phase := if n = 1 then .awaiting else .dwell (n - 1) }
      | .awaiting => y
    let expires : Bool := match s.seq.run with | some y => y.phase == .dwell 1 | none => false
    let dark : Sequencer := { s.seq with dark := s.seq.dark.set g yes }
    exec i s = .next (after s i { s with seq := { s.seq with run := left } } []) ∧
    exec (.dwellExpiry m) s = (if expires then exec i s else .next s) ∧
    ((∀ y, s.seq.run = some y → ¬(y.g = c.g ∧ y.k = c.k ∧ y.step = x ∧ y.phase = .awaiting)) →
      exec (.stepReading c x r) s = .next (after s (.stepReading c x r)
        { s with seq := { s.seq with condition := if s.seq.condition = some (c, x) then none else s.seq.condition } } [])) ∧
    Next (exec (.darkeningStateAtSequencer g yes) s) (fun t =>
      t.ret.setup = s.ret.setup ∧
      t.seq = (
        match s.seq.run with
        | some y =>
          if yes = true ∧ y.g = g then
            headsTaken { s with seq := dark } s.seq.queue (abortedWith .abortedDarkening y dark)
          else dark
        | none => dark) ∧
      (t.inFlight = s.inFlight.erase (.darkeningStateAtSequencer g yes) ++ (
        match s.seq.run with
        | some y => if yes = true ∧ y.g = g then abortNews { s with seq := dark } y s.seq.queue else []
        | none => [])))

/-- The awaited step reading: it is judged by its step, and then the next enabled step begins, or the channel ends with its
worst verdict and the next channel of the gallery begins, or the gallery completes with CHECK_DONE and the next head is taken
up; a reading for a channel that is no longer CHECKING makes it SKIPPED (R172, R173, R174, R175; a reading of another shape,
log entry 19). -/
def Obligations.ReadingJudged : Prop :=
  ∀ (y : CheckRun) (r : Reading) (s : State), Ready s .sequencer → SeqInv s → s.seq.run = some y → y.phase = .awaiting →
    readingWf y.step r = true →
    let c : Chan := ⟨y.g, y.k⟩
    let i : Instr := .stepReading c y.step r
    let checking : Bool := (s.chan c).state = .checking
    let v : Verdict := verdictOf (s.cfg c) y.k y.step r
    let res : CheckResult := s.checkResult y.g
    let steps : PerStep Verdict := (res.steps.get y.k).set y.step v
    let next : Option CheckStep := if failed v then none else enabledFrom s (stepCode y.step + 1)
    let after' (r : CheckResult) (run : Option CheckRun) : Sequencer := { s.seq with
      results := s.seq.results.set y.g r
      run := run
      condition := run.map fun z => (⟨z.g, z.k⟩, z.step) }
    let rest : List Kind := kinds.drop (kindNum y.k + 1)
    let ended : Verdict := if checking then worst steps else .skipped
    let chans : PerKind Verdict := .ofFn fun k =>
      if k = y.k then ended
      else if k ∈ rest ∧ (firstKind s y.g (rest.take (kindNum k - kindNum y.k))).isNone then .skipped
      else res.chans.get k
    let closed : CheckResult := {
      summary := res.summary, chans := chans, steps := if checking then res.steps.set y.k steps else res.steps }
    let summary : Summary :=
      if (kindValues chans).any failed then .failed
      else if .warn ∈ kindValues chans then .warned
      else .passed
    let idle : Sequencer := { after' { closed with summary := summary } none with condition := none }
    Next (exec i s) fun t =>
      t.ret.setup = s.ret.setup ∧
      (t.seq =
        match checking, next with
        | true, some z =>
          after' { res with steps := res.steps.set y.k steps }
            (some ⟨y.g, y.k, z, .dwell (dwellSeconds s.ret.setup.dwellIdx)⟩)
        | _, _ =>
          match firstKind s y.g rest with
          | some k => after' closed (some (turnOf s y.g k))
          | none => headsTaken s s.seq.queue idle) ∧
      (t.inFlight = s.inFlight.erase i ++ (
        match checking, next with
        | true, some _ => []
        | _, _ =>
          (if checking then
            [.verdictNotice c (if failed (worst steps) then .fail else if worst steps = .warn then .warn else .pass)]
          else []) ++
          (match firstKind s y.g rest with
          | some k => [.channelEnterNotice ⟨y.g, k⟩]
          | none => attention s .checkDone (some y.g) ++ headsNews s s.seq.queue)))

/-! ## Master ports and attention -/

/-- The notices a port takes: the reply that becomes its pending reply; an attention, recorded when its cause is routed to
the port, enabled and not yet pending, with the line or the pulse it gives; and a second mark, which counts the silence of a
master that is not ABSENT and ends it at the timeout (the row SILENCE_TIMEOUT), the other ports and the block that listens
being told; and SILENCE SETUP, taken by the controller of the port it names (R182, R185, R186, R187, R189; the row, log
entry 2, the count of pulses, log entry 7, and whose controller takes SILENCE SETUP and its gallery field, log entries 11
and 40). -/
def Obligations.PortNoticesTaken : Prop :=
  ∀ (p : Port) (r : Reply) (c : Cause) (g : Option Gallery) (m : SecondStamp) (s : State), Ready s (.port p) →
    let k : PortRec := s.port p
    let fresh : Bool := heard c p && (k.causes.get c).enabled && !k.pending.contains ⟨c, g⟩
    let i : Instr := .attentionNotice p c g
    let j : Instr := .secondMarkAtPort p m
    let limit : Nat := match s.ret.timeouts.get p with | 0 => 2 | 1 => 10 | 2 => 60 | _ => 300
    let ends : Bool := k.presence != .absent && decide (limit ≤ k.silence + 1)
    let told : List Instr := if s.startComplete then
      (portList.filter (· != p)).map fun o => .attentionNotice o .masterPresence none else []
    let heardBy : List Instr :=
      match p with
      | .climate => [.presenceNoticeAtClimate .absent]
      | .lighting => [.presenceNoticeAtDarkening .absent]
      | .conservation => []
    exec (.replyNotice p r) s = .next (after s (.replyNotice p r) (s.setPort p { k with reply := r }) []) ∧
    exec i s = .next (after s i
      (if fresh then
        s.setPort p (driven { k with
          pending := k.pending ++ [⟨c, g⟩]
          pulses := if k.mode = .pulse ∧ k.masterEnable = true then k.pulses + 1 else k.pulses })
      else s) []) ∧
    exec j s = .next (
      if k.presence = .absent then after s j s []
      else if limit ≤ k.silence + 1 then
        after s j (s.setPort p { k with presence := .absent, silence := k.silence + 1 }) (told ++ heardBy)
      else after s j (s.setPort p { k with silence := k.silence + 1 }) []) ∧
    exec (.silenceTimeout p m) s = (if ends then exec j s else .next s) ∧
    (∀ q : Req, q.port = .conservation →
      let n : Nat := q.value.toNat
      (portList[q.sub.toNat]? = some p →
        exec (.silenceSetup q) s = .next (
          after s (.silenceSetup q) { s with ret := { s.ret with timeouts := s.ret.timeouts.set p (min 3 n) } }
            (reply q 0x22 (if n ≤ 3 then .ok else .clamped) (min 3 n)))) ∧
      (3 ≤ q.sub.toNat → p = .conservation →
        exec (.silenceSetup q) s = .next (after s (.silenceSetup q) s (reply q 0x22 .range 0))))

/-- The general requests at a port: NOP, SELECT with its refusals and the snapshot it takes, FETCH of a field of the
snapshot, NEXT ATTENTION of the highest entry, and SET ATTENTION and ATTENTION MODE with the line that follows (R149, R182,
R183, R184, R188, R189, R190; what the line holds in PULSE mode is log entry 7, which refusal of a channel SELECT
comes first, log entry 17, which refusal of a SET ATTENTION, log entry 38, the gallery field of SET ATTENTION and
ATTENTION MODE, log entry 40, and the sequencer state code, log entry 18). -/
def Obligations.PortRequestsTaken : Prop :=
  ∀ (q : Req) (s : State), Ready s (.port q.port) →
    let k : PortRec := s.port q.port
    let v : Nat := q.value.toNat
    let put (code : Nat) (r : Result) (data : Nat) (k : PortRec) : State :=
      s.setPort q.port { k with reply := replyTo q code r data }
    let level (a : Attention) : Nat := levelCode (k.causes.get a.cause).level
    let place (a : Attention) : Nat := match a.g with | some g => 1 + galleryNum g | none => 0
    let above (a b : Attention) : Bool := decide (
      level b < level a ∨ level a = level b ∧
        (causeNum a.cause < causeNum b.cause ∨ causeNum a.cause = causeNum b.cause ∧ place a ≤ place b))
    exec (.nop q) s = .next (after s (.nop q) (put 0x00 .ok 0 k) []) ∧
    exec (.select q) s = .next (after s (.select q) (
      if q.sub = 0 then put 0x01 .ok 0 { k with selection := none }
      else
        match copied s q with
        | .error r => put 0x01 r 0 { k with selection := none }
        | .ok l =>
          let t := put 0x01 .ok l.length { k with selection := some ⟨q.sub.toNat, l⟩ }
          if q.sub = 10 ∧ q.port = .conservation then { t with log := { t.log with sinceSelection := false } } else t) []) ∧
    exec (.fetch q) s = .next (after s (.fetch q) (
      match k.selection with
      | none => put 0x02 .noSelection 0 k
      | some x =>
        if v < x.fields.length then
          let f : Nat := (x.fields.getD v 0).toNat
          let t := put 0x02 .ok f k
          if q.port = .conservation ∧ x.kind = 10 ∧ v = 4 ∧ f = 1 ∧ s.log.sinceSelection = false then
            { t with ret := { t.ret with log := { t.ret.log with overflow := false } } }
          else t
        else put 0x02 .range 0 k) []) ∧
    exec (.nextAttention q) s = .next (after s (.nextAttention q) (
      match k.pending.find? fun a => k.pending.all (above a) with
      | none => put 0x03 .ok 0x00FF k
      | some a =>
        put 0x03 .ok (256 * causeNum a.cause + (match a.g with | some g => galleryNum g | none => 0xFF))
          (driven { k with pending := k.pending.erase a })) []) ∧
    exec (.setAttention q) s = .next (after s (.setAttention q) (
      match causeOf q.sub.toNat with
      | none => put 0x04 .range 0 k
      | some c =>
        let on : Bool := v.testBit 0
        if heard c q.port = false then put 0x04 .notPermitted 0 k
        else if 6 ≤ v then put 0x04 .range 0 k
        else
          put 0x04 .ok v (driven { k with
            causes := k.causes.set c ⟨on, match v / 2 with | 0 => .low | 1 => .mid | _ => .high⟩
            pending := if on then k.pending else k.pending.filter fun a => a.cause != c })) []) ∧
    exec (.attentionMode q) s = .next (after s (.attentionMode q) (
      if 4 ≤ v then put 0x05 .range 0 k
      else
        put 0x05 .ok v (driven { k with
          mode := if v.testBit 0 then .pulse else .level, masterEnable := v.testBit 1 })) [])

/-- A frame: FRAME_BEGIN keeps the pending reply it will shift out; a frame begun before a start had completed is discarded;
otherwise FRAME_END shifts out that reply to a master that addressed the part, and judges the length, the CRC and the panel,
which discard it with FRAME_ERROR or PANEL_MISMATCH, and then, with the master PRESENT, the request code: unknown, not
permitted, taken at once as a general request, or sent to its owner with the pending reply NONE (R180, R181, R182, R185; the
bits shifted out, past clock 48 free, the echo of a short frame and the data out kept on a discard are log entry 12; a
FRAME_BEGIN inside a frame and a FRAME_END outside one, log entries 12 and 27; which requests a port answers at once, log
entry 10; a sub-argument that no row carries, log entry 13; and bits 2 and 1 of that of CALIBRATE, log entry 14). -/
def Obligations.FramesJudged : Prop :=
  ∀ (p : Port) (bits : List Bool) (s : State),
    let w : PortLines := s.lines.get p
    let k : PortRec := s.port p
    let lined (x : PortLines) : State := { s with lines := s.lines.set p x }
    let byte (n : Nat) : Nat := (frameByte bits n).toNat
    let crc : Nat := (crc8 [frameByte bits 0, frameByte bits 1, frameByte bits 2, frameByte bits 3, frameByte bits 4]).toNat
    let mine : Bool := bits.take 2 == [s.straps.getLsbD 1, s.straps.getLsbD 0]
    let code : Nat := byte 0 % 64
    let q : Req := ⟨p, BitVec.ofNat 3 (byte 1 / 32), BitVec.ofNat 5 (byte 1 % 32), BitVec.ofNat 16 (256 * byte 2 + byte 3),
      BitVec.ofNat 8 (byte 4)⟩
    let plain (r : Result) : Reply := ⟨r, BitVec.ofNat 6 code, 0, BitVec.ofNat 8 (byte 4)⟩
    let told : List Instr := if k.presence = .present then [] else
      ((portList.filter (· != p)).map fun o => .attentionNotice o .masterPresence none) ++
        (match p with
          | .climate => [.presenceNoticeAtClimate .present]
          | .lighting => [.presenceNoticeAtDarkening .present]
          | .conservation => [])
    let sealed (t : State) : Answer := .next { t with checkCode := Config.checkCodeOf t.ret }
    exec (.frameBegin p) s = .next (
      if w.frame = none then lined { w with frame := some ⟨k.reply, !s.startComplete⟩ } else s) ∧
    (w.frame = none → exec (.frameEnd p bits) s = .next s) ∧
    (∀ f, w.frame = some f →
      (f.discard = true ∨ s.startComplete = false → exec (.frameEnd p bits) s = .next (lined { w with frame := none })) ∧
      (f.discard = false → s.startComplete = true →
        let sent : List Bool := (replyBytes (resultCode f.reply.result) f.reply).flatMap byteBits
        let out : List Bool := (List.range bits.length).map fun n =>
          if h : n < sent.length then sent[n] else Config.dataOutBeyond p w.overruns (n - 48)
        let t : State := lined ⟨none, if mine then some out else none,
          w.overruns + (if 48 < bits.length then 1 else 0)⟩
        let heard : State := { t.setPort p { k with presence := .present, silence := 0 } with inFlight := s.inFlight ++ told }
        let answered (r : Result) : State := heard.setPort p { heard.port p with reply := plain r }
        let taken (i : Instr) : Answer :=
          match exec i { heard with inFlight := [] } with
          | .next u => .next { u with inFlight := heard.inFlight }
          | a => a
        exec (.frameEnd p bits) s = (
          if bits.length ≠ 48 ∨ byte 5 ≠ crc then sealed (t.setPort p { k with reply := plain .frameError })
          else if mine = false then sealed (t.setPort p { k with reply := plain .panelMismatch })
          else
            match requestPorts code with
            | none => sealed (answered .unknownRequest)
            | some permitted =>
              if permitted p then
                match code with
                | 0 => taken (.nop q)
                | 1 => taken (.select q)
                | 2 => taken (.fetch q)
                | 3 => taken (.nextAttention q)
                | 4 => taken (.setAttention q)
                | 5 => taken (.attentionMode q)
                | _ => sealed { answered .none with inFlight := heard.inFlight ++ forwarded code q }
              else sealed (answered .notPermitted))))

/-! ## Supply, reset and starts -/

/-- The losses and returns of supply and reset: POWER_UP judges the retained domain by its latch and check code and begins a
warm or a cold start; MAIN_SUPPLY_LOSS and RESETN_ASSERT keep the retained domain alone, with SHADE released or following
the source sets; SUPPLY_LOSS_LATCH spoils it; RESETN_RELEASE begins a warm start; and each is ignored in the other phases
(R49, R50, R51, R52, R54, R159; what a lost part shows meanwhile is log entry 5, the phases log entry 24, and the start
notices log entries 8 and 21). -/
def Obligations.SupplyAndReset : Prop :=
  ∀ s : State,
    let infos (kind : StartKind) (c : Clock) : List Instr :=
      [Block.timeBase, .acquisition, .filter, .envelope, .light, .climate, .history, .log, .darkening, .sequencer,
        .port .climate, .port .lighting, .port .conservation].map fun b =>
          .startNotice b ⟨kind, c.day, c.weekday, c.minute, c.second, c.lastMarkDay, c.lastMarkHour⟩
    let starts (ret : Retained) (latch : Bool) (kind : StartKind) (last : LastStart) : State :=
      let ret : Retained := { ret with clock := { ret.clock with lastStart := last } }
      { s with
        phase := .running, awaiting := blocks, ret := ret, latch := latch, checkCode := Config.checkCodeOf ret
        inFlight := infos kind ret.clock, waiting := [] }
    let lost (t : State) : Prop :=
      t.ret = s.ret ∧ t.latch = s.latch ∧ t.checkCode = s.checkCode ∧ t.trigger = s.trigger ∧ t.inFlight = [] ∧
        t.waiting = [] ∧
        (∀ p : Port, t.lines.get p = { s.lines.get p with
          frame := (s.lines.get p).frame.map fun f => ⟨f.reply, true⟩ })
    exec .powerUp s = .next (
      if s.phase ≠ .unpowered then s
      else if s.latch = false ∧ s.checkCode = Config.checkCodeOf s.ret then starts s.ret s.latch .warm .warmPower
      else starts Retained.cold false .cold .cold) ∧
    exec .supplyLossLatch s = .next (if s.phase = .unpowered then { s with latch := true } else s) ∧
    exec .resetnRelease s = .next (if s.phase = .heldReset then starts s.ret s.latch .warm .warmReset else s) ∧
    (s.phase = .unpowered → exec .mainSupplyLoss s = .next s) ∧
    (s.phase ≠ .unpowered → Next (exec .mainSupplyLoss s) fun t =>
      lost t ∧ t.phase = .unpowered ∧ (∀ g : Gallery, t.shade.get g = false)) ∧
    (s.phase ≠ .running → exec .resetnAssert s = .next s) ∧
    (s.phase = .running → Next (exec .resetnAssert s) fun t =>
      lost t ∧ t.phase = .heldReset ∧ (∀ g : Gallery, t.shade.get g = decide (s.sources g ≠ .empty)))

/-- The start notice at the acquisition unit, the tracking filter bank, the envelope table, the history store, the excursion
log, the sequencer and the ports, at a cold and at a warm start; and what every start notice does: the block is no longer
awaited, the commands that waited for it stand first in flight in the order they arrived, the last one writes the last mark
stamp, and nothing but the block's own state changes (R20, R21, R36, R52, R71, R136, R137, R150, R151, R168, R179, R191; that
what waited stands ahead of what is in flight, log entry 1; what a start notice may read and when it acts, log entries 20, 21
and 23; the second of a closed stamp, log entry 8; and values that the rules give no field, such as the tracked value of an
UNINITIALISED tracker and the count of pulses, log entry 6). -/
def Obligations.StartNoticesTaken : Prop :=
  ∀ (b : Block) (i : StartInfo) (s : State), s.phase = .running → LogInv s →
    let cold : Bool := i.kind = .cold
    let others : List Block := s.awaiting.filter (· ≠ b)
    let clock : Clock :=
      if others = [] then { s.clock with lastMarkDay := s.clock.day, lastMarkHour := s.clock.minute / 60 } else s.clock
    let base : State := { s with
      awaiting := others, ret := { s.ret with clock := clock }, waiting := s.waiting.filter (blockOf · ≠ some b) }
    let opened (g : Gallery) (y : ExcType) : Bool :=
      s.ret.log.pool.any fun e => e.g == g && e.type == y && e.closed == none
    let sound (g : Gallery) : Bool := kinds.all fun k => begun s ⟨g, k⟩ != .fault .check
    let ends (e : Entry) : Bool := e.type == .sensorFault && e.closed == none && sound e.g
    Next (exec (.startNotice b i) s) fun t =>
      Owned (if b = .filter then .acquisition else b) base t ∧ t.clock = clock ∧
      (∃ l : List Instr,
        t.inFlight = s.waiting.filter (blockOf · = some b) ++ (s.inFlight.erase (.startNotice b i) ++ l)) ∧
      (b = .acquisition →
        (∀ c : Chan,
          t.cfg c = (if cold then ChanCfg.default c.k else s.cfg c) ∧ t.checkFault c = (!cold && s.checkFault c) ∧
          t.chan c = ⟨begun t c, 0, 0, none, none, none, ⟨none, .none, none, none⟩⟩) ∧
        t.acq.cal = none ∧
        (∀ g : Gallery, t.acq.faulted.get g = (kinds.filter fun k => begun t ⟨g, k⟩ = .fault .check).length)) ∧
      (b = .filter →
        t.acq = s.acq ∧ t.ret.checkFault = s.ret.checkFault ∧
        (∀ c : Chan,
          t.cfg c = (if cold then { s.cfg c with
            mode := .stepped, fast := defaultFast c.k, slow := defaultSlow c.k, hold := false } else s.cfg c) ∧
          t.tracker c = ⟨false, 0, 0, false, none, begun s c⟩ ∧
          (∀ n ∈ trackedNotices ⟨c, .state, none, begun s c, (s.cfg c).du⟩, n ∈ t.inFlight))) ∧
      (b = .envelope →
        (∀ g : Gallery,
          t.active g = (if cold then defaultEnvelope else s.active g) ∧ t.loanLock g = (!cold && s.loanLock g) ∧
          t.envStaged g = ⟨t.active g, false⟩)) ∧
      (b = .history →
        (∀ g : Gallery, t.aggregates g =
          ⟨none, none, none, none, none, none, true, true, begun s ⟨g, .rh⟩, none, begun s ⟨g, .temp⟩, none⟩) ∧
        (cold = true → t.ret.history = History.cold) ∧
        (cold = false → i.day = i.lastMarkDay ∨ s.ret.history.pendingPartition = none → t.ret.history = s.ret.history) ∧
        (∀ ls, s.ret.history.pendingPartition = some ls → cold = false → i.day ≠ i.lastMarkDay →
          t.ret.history.pendingPartition = none ∧ t.ret.history.slots = s.ret.history.slots ∧
          (∀ g : Gallery,
            let place : Nat := ((galleries.take (galleryNum g)).map ls.get).sum
            t.ring g = (if (s.ring g).base = place ∧ (s.ring g).length = ls.get g then s.ring g
              else ⟨place, ls.get g, 0, none, 0, false⟩)))) ∧
      (b = .log →
        t.log.sinceSelection = (!cold) ∧
        (∀ g : Gallery,
          (∀ y : ExcType, t.isActive g y = (!cold && opened g y && !(y == .sensorFault && sound g)))) ∧
        t.ret.log = (if cold then ⟨[], 0, false⟩ else { s.ret.log with
          pool := (s.ret.log.pool.filter fun e => !(ends e && e.acked)).map fun e =>
            if ends e then { e with closed := some (beganAt i) } else e })) ∧
      (b = .sequencer →
        t.seq = ⟨none, [], .all false, .all ⟨.none, .all .none, .all (.all .none)⟩, none⟩ ∧
        t.ret.setup = (if cold then ⟨⟨true, true, true, true⟩, 1⟩ else s.ret.setup)) ∧
      (∀ p : Port, b = .port p →
        t.port p = ⟨replyStart, none, .unknown, 0, .ofFn fun c => ⟨true, defaultLevel c⟩, [⟨.partRestarted, none⟩], .level,
          true, true, 0⟩ ∧
        t.ret.timeouts.get p = (if cold then 2 else s.ret.timeouts.get p) ∧ t.ret.log = s.ret.log ∧ t.log = s.log ∧
        (p = .climate → Instr.presenceNoticeAtClimate .unknown ∈ t.inFlight) ∧
        (p = .lighting → Instr.presenceNoticeAtDarkening .unknown ∈ t.inFlight))

/-- The start notice at the light account unit, the climate unit and the darkening controller: the account as a cold start
leaves it, or caught up by one fold with POWER_GAP and a day step for each day passed; the bands computed on the records;
and the sources a warm start keeps, each gallery that has one darkened at once (R90, R91, R92, R93, R100, R123, R124, R167,
R168, R169; the seconds of the stamps are log entry 8, and the copies, log entry 20). -/
def Obligations.StartsCaughtUp : Prop :=
  ∀ (i : StartInfo) (s : State), s.phase = .running → ClockInv s →
    let cold : Bool := i.kind = .cold
    Next (exec (.startNotice .light i) s) (fun t =>
      (∀ g : Gallery,
        let a : Account := s.account g
        let b : Account := t.account g
        let e : Envelope := s.active g
        let total : Nat := a.carry + a.hourAcc
        let same : Bool := a.stamp.day = i.day && a.stamp.hour = i.minute / 60
        let folded : Nat := if a.period = none then a.used else min 4294967295 (a.used + total / 36000)
        let x : Option Nat × Nat × Nat × Option Nat :=
          daysOn e.period ((i.day + 65536 - a.stamp.day) % 65536)
            (if same then (a.period, a.used, a.carry, a.lastUsed) else (a.period, folded, total % 36000, a.lastUsed))
        let flags : HourFlags :=
          ⟨isOpen a.schedule a.stamp.weekday a.stamp.hour, a.darkened, a.lSub, a.begunByChange, true, a.period = none⟩
        let was : State := (s.setLight g LightRec.cold).setAccount g (if cold then Account.cold else a)
        keepsCopies { LightRec.cold with
          lState := begun s ⟨g, .lux⟩, uState := begun s ⟨g, .uv⟩, uDu := (s.cfg ⟨g, .uv⟩).du, env := e } (t.lightRec g) ∧
        (t.lightRec g).overCount = 0 ∧ (t.lightRec g).startPending = false ∧ Recomputed was t g ∧
        (cold = true → b = ⟨none, 0, 0, 0, false, none, ⟨0, 0, 0⟩, ⟨10, 18, 127⟩, false, false, false, false, false, false⟩) ∧
        (cold = false →
          b = ⟨x.1, x.2.1, x.2.2.1, if same then a.hourAcc else 0, overBudget b e, x.2.2.2,
            ⟨i.day, i.weekday, i.minute / 60⟩, ⟨e.ostart, e.oend, e.weekdays⟩, false, false, false, a.uvHigh, b.doseShort,
            a.luxOver⟩ ∧
          (same = false →
            Instr.hourCloseNotice ⟨g, a.stamp.day, a.stamp.hour, total / 36000, flags⟩ ∈ t.inFlight)))) ∧
    Next (exec (.startNotice .climate i) s) (fun t =>
      (∀ g : Gallery,
        let s1 : State := s.setClimate g (climateBegun s i.kind g)
        let b : ClimateRec := banded (climateBegun s i.kind g) (s1.rhWindow g) (s1.tWindow g)
        t.climateRec g = swung b ∧ (∀ n ∈ swingNotices g b, n ∈ t.inFlight))) ∧
    Next (exec (.startNotice .darkening i) s) (fun t =>
      (∀ x : Trigger, t.ret.triggers.get x = if cold then ⟨0, false, false⟩ else s.ret.triggers.get x) ∧
      (∀ g : Gallery,
        let fell (x : Trigger) : Bool := (s.ret.triggers.get x).autoRelease && !(s.trigger.get x)
        let kept : SourceSet := { s.sources g with
          inputA := (s.sources g).inputA && !fell .a, inputB := (s.sources g).inputB && !fell .b }
        darkOf t g = (if cold then (darkBegun s g false, .empty, false) else redarkenedBy s i g kept) ∧
        (∀ n ∈ darkNotices g (decide (t.sources g ≠ .empty)), n ∈ t.inFlight)))
end

