-- ==== Sys2Proof/Laws/State.lean ====
section
/-! SUPPORT. What every update of one record leaves in every field of the state, one lemma for each field and update, and how
the reads of one record meet the updates of it. -/

namespace Sys2Proof.Machine

@[simp] theorem PerGallery.get_set_self {α : Type} (t : PerGallery α) (i : Gallery) (a : α) : (t.set i a).get i = a := by cases i <;> rfl

theorem PerGallery.get_set_ne {α : Type} (t : PerGallery α) (i j : Gallery) (a : α) (h : j ≠ i) : (t.set i a).get j = t.get j := by
  cases i <;> cases j <;> first | rfl | exact absurd rfl h

theorem PerGallery.get_set {α : Type} (t : PerGallery α) (i j : Gallery) (a : α) :
    (t.set i a).get j = if j = i then a else t.get j := by
  by_cases h : j = i
  · subst h
    simp
  · simp [h, PerGallery.get_set_ne _ _ _ _ h]

@[simp] theorem PerGallery.get_all {α : Type} (a : α) (i : Gallery) : (PerGallery.all a).get i = a := by cases i <;> rfl

@[simp] theorem PerGallery.get_ofFn {α : Type} (f : Gallery → α) (i : Gallery) : (PerGallery.ofFn f).get i = f i := by cases i <;> rfl

theorem PerGallery.ext_get {α : Type} {t u : PerGallery α} (h : ∀ i, t.get i = u.get i) : t = u := by
  cases t
  cases u
  simp only [PerGallery.mk.injEq]
  exact ⟨h .g0, h .g1, h .g2, h .g3, h .g4, h .g5⟩

@[simp] theorem PerKind.get_set_self {α : Type} (t : PerKind α) (i : Kind) (a : α) : (t.set i a).get i = a := by cases i <;> rfl

theorem PerKind.get_set_ne {α : Type} (t : PerKind α) (i j : Kind) (a : α) (h : j ≠ i) : (t.set i a).get j = t.get j := by
  cases i <;> cases j <;> first | rfl | exact absurd rfl h

theorem PerKind.get_set {α : Type} (t : PerKind α) (i j : Kind) (a : α) :
    (t.set i a).get j = if j = i then a else t.get j := by
  by_cases h : j = i
  · subst h
    simp
  · simp [h, PerKind.get_set_ne _ _ _ _ h]

@[simp] theorem PerKind.get_all {α : Type} (a : α) (i : Kind) : (PerKind.all a).get i = a := by cases i <;> rfl

@[simp] theorem PerKind.get_ofFn {α : Type} (f : Kind → α) (i : Kind) : (PerKind.ofFn f).get i = f i := by cases i <;> rfl

theorem PerKind.ext_get {α : Type} {t u : PerKind α} (h : ∀ i, t.get i = u.get i) : t = u := by
  cases t
  cases u
  simp only [PerKind.mk.injEq]
  exact ⟨h .lux, h .uv, h .rh, h .temp⟩

@[simp] theorem PerPort.get_set_self {α : Type} (t : PerPort α) (i : Port) (a : α) : (t.set i a).get i = a := by cases i <;> rfl

theorem PerPort.get_set_ne {α : Type} (t : PerPort α) (i j : Port) (a : α) (h : j ≠ i) : (t.set i a).get j = t.get j := by
  cases i <;> cases j <;> first | rfl | exact absurd rfl h

theorem PerPort.get_set {α : Type} (t : PerPort α) (i j : Port) (a : α) :
    (t.set i a).get j = if j = i then a else t.get j := by
  by_cases h : j = i
  · subst h
    simp
  · simp [h, PerPort.get_set_ne _ _ _ _ h]

@[simp] theorem PerPort.get_all {α : Type} (a : α) (i : Port) : (PerPort.all a).get i = a := by cases i <;> rfl

@[simp] theorem PerPort.get_ofFn {α : Type} (f : Port → α) (i : Port) : (PerPort.ofFn f).get i = f i := by cases i <;> rfl

theorem PerPort.ext_get {α : Type} {t u : PerPort α} (h : ∀ i, t.get i = u.get i) : t = u := by
  cases t
  cases u
  simp only [PerPort.mk.injEq]
  exact ⟨h .climate, h .lighting, h .conservation⟩

@[simp] theorem PerStep.get_set_self {α : Type} (t : PerStep α) (i : CheckStep) (a : α) : (t.set i a).get i = a := by cases i <;> rfl

theorem PerStep.get_set_ne {α : Type} (t : PerStep α) (i j : CheckStep) (a : α) (h : j ≠ i) : (t.set i a).get j = t.get j := by
  cases i <;> cases j <;> first | rfl | exact absurd rfl h

theorem PerStep.get_set {α : Type} (t : PerStep α) (i j : CheckStep) (a : α) :
    (t.set i a).get j = if j = i then a else t.get j := by
  by_cases h : j = i
  · subst h
    simp
  · simp [h, PerStep.get_set_ne _ _ _ _ h]

@[simp] theorem PerStep.get_all {α : Type} (a : α) (i : CheckStep) : (PerStep.all a).get i = a := by cases i <;> rfl

@[simp] theorem PerStep.get_ofFn {α : Type} (f : CheckStep → α) (i : CheckStep) : (PerStep.ofFn f).get i = f i := by cases i <;> rfl

theorem PerStep.ext_get {α : Type} {t u : PerStep α} (h : ∀ i, t.get i = u.get i) : t = u := by
  cases t
  cases u
  simp only [PerStep.mk.injEq]
  exact ⟨h .openInput, h .shortInput, h .reference, h .response⟩

@[simp] theorem PerTrigger.get_set_self {α : Type} (t : PerTrigger α) (i : Trigger) (a : α) : (t.set i a).get i = a := by cases i <;> rfl

theorem PerTrigger.get_set_ne {α : Type} (t : PerTrigger α) (i j : Trigger) (a : α) (h : j ≠ i) : (t.set i a).get j = t.get j := by
  cases i <;> cases j <;> first | rfl | exact absurd rfl h

theorem PerTrigger.get_set {α : Type} (t : PerTrigger α) (i j : Trigger) (a : α) :
    (t.set i a).get j = if j = i then a else t.get j := by
  by_cases h : j = i
  · subst h
    simp
  · simp [h, PerTrigger.get_set_ne _ _ _ _ h]

@[simp] theorem PerTrigger.get_all {α : Type} (a : α) (i : Trigger) : (PerTrigger.all a).get i = a := by cases i <;> rfl

@[simp] theorem PerTrigger.get_ofFn {α : Type} (f : Trigger → α) (i : Trigger) : (PerTrigger.ofFn f).get i = f i := by cases i <;> rfl

theorem PerTrigger.ext_get {α : Type} {t u : PerTrigger α} (h : ∀ i, t.get i = u.get i) : t = u := by
  cases t
  cases u
  simp only [PerTrigger.mk.injEq]
  exact ⟨h .a, h .b⟩

@[simp] theorem PerType.get_set_self {α : Type} (t : PerType α) (i : ExcType) (a : α) : (t.set i a).get i = a := by cases i <;> rfl

theorem PerType.get_set_ne {α : Type} (t : PerType α) (i j : ExcType) (a : α) (h : j ≠ i) : (t.set i a).get j = t.get j := by
  cases i <;> cases j <;> first | rfl | exact absurd rfl h

theorem PerType.get_set {α : Type} (t : PerType α) (i j : ExcType) (a : α) :
    (t.set i a).get j = if j = i then a else t.get j := by
  by_cases h : j = i
  · subst h
    simp
  · simp [h, PerType.get_set_ne _ _ _ _ h]

@[simp] theorem PerType.get_all {α : Type} (a : α) (i : ExcType) : (PerType.all a).get i = a := by cases i <;> rfl

@[simp] theorem PerType.get_ofFn {α : Type} (f : ExcType → α) (i : ExcType) : (PerType.ofFn f).get i = f i := by cases i <;> rfl

theorem PerType.ext_get {α : Type} {t u : PerType α} (h : ∀ i, t.get i = u.get i) : t = u := by
  cases t
  cases u
  simp only [PerType.mk.injEq]
  exact ⟨h .luxOver, h .luxHard, h .uvHigh, h .doseShort, h .doseExhausted, h .rhHigh, h .rhLow, h .rhSwing, h .tHigh, h .tLow, h .tSwing, h .sensorFault⟩

@[simp] theorem PerCause.get_set_self {α : Type} (t : PerCause α) (i : Cause) (a : α) : (t.set i a).get i = a := by cases i <;> rfl

theorem PerCause.get_set_ne {α : Type} (t : PerCause α) (i j : Cause) (a : α) (h : j ≠ i) : (t.set i a).get j = t.get j := by
  cases i <;> cases j <;> first | rfl | exact absurd rfl h

theorem PerCause.get_set {α : Type} (t : PerCause α) (i j : Cause) (a : α) :
    (t.set i a).get j = if j = i then a else t.get j := by
  by_cases h : j = i
  · subst h
    simp
  · simp [h, PerCause.get_set_ne _ _ _ _ h]

@[simp] theorem PerCause.get_all {α : Type} (a : α) (i : Cause) : (PerCause.all a).get i = a := by cases i <;> rfl

@[simp] theorem PerCause.get_ofFn {α : Type} (f : Cause → α) (i : Cause) : (PerCause.ofFn f).get i = f i := by cases i <;> rfl

theorem PerCause.ext_get {α : Type} {t u : PerCause α} (h : ∀ i, t.get i = u.get i) : t = u := by
  cases t
  cases u
  simp only [PerCause.mk.injEq]
  exact ⟨h .partRestarted, h .darkeningStarted, h .darkeningOutcome, h .channelFault, h .masterPresence, h .allowanceChanged, h .bandChanged, h .envelopeCommitted, h .excursionOpened, h .excursionClosed, h .checkDone, h .calibrationDone, h .hourMark, h .historyOverrun, h .excursionOverflow⟩

@[simp] theorem getChan_setChan_self {α : Type} (t : PerChan α) (c : Chan) (a : α) : getChan (setChan t c a) c = a := by
  simp [getChan, setChan]

theorem getChan_setChan_ne {α : Type} (t : PerChan α) (c d : Chan) (a : α) (h : d ≠ c) :
    getChan (setChan t c a) d = getChan t d := by
  obtain ⟨g, k⟩ := c
  obtain ⟨g', k'⟩ := d
  by_cases hg : g' = g
  · subst hg
    have hk : k' ≠ k := fun e => h (by rw [e])
    simp [getChan, setChan, PerKind.get_set_ne _ _ _ _ hk]
  · simp [getChan, setChan, PerGallery.get_set_ne _ _ _ _ hg]

theorem getChan_setChan {α : Type} (t : PerChan α) (c d : Chan) (a : α) :
    getChan (setChan t c a) d = if d = c then a else getChan t d := by
  by_cases h : d = c
  · subst h
    simp
  · simp [h, getChan_setChan_ne _ _ _ _ h]

/-! ### `State.setCfg` -/

@[simp] theorem State.setCfg_phase (s : State) (c : Chan) (v : ChanCfg) : (s.setCfg c v).phase = s.phase := rfl

@[simp] theorem State.setCfg_awaiting (s : State) (c : Chan) (v : ChanCfg) : (s.setCfg c v).awaiting = s.awaiting := rfl

@[simp] theorem State.setCfg_ret (s : State) (c : Chan) (v : ChanCfg) : (s.setCfg c v).ret = { s.ret with cfg := Machine.setChan s.ret.cfg c v } := rfl

@[simp] theorem State.setCfg_latch (s : State) (c : Chan) (v : ChanCfg) : (s.setCfg c v).latch = s.latch := rfl

@[simp] theorem State.setCfg_checkCode (s : State) (c : Chan) (v : ChanCfg) : (s.setCfg c v).checkCode = s.checkCode := rfl

@[simp] theorem State.setCfg_acq (s : State) (c : Chan) (v : ChanCfg) : (s.setCfg c v).acq = s.acq := rfl

@[simp] theorem State.setCfg_trackers (s : State) (c : Chan) (v : ChanCfg) : (s.setCfg c v).trackers = s.trackers := rfl

@[simp] theorem State.setCfg_env (s : State) (c : Chan) (v : ChanCfg) : (s.setCfg c v).env = s.env := rfl

@[simp] theorem State.setCfg_light (s : State) (c : Chan) (v : ChanCfg) : (s.setCfg c v).light = s.light := rfl

@[simp] theorem State.setCfg_climate (s : State) (c : Chan) (v : ChanCfg) : (s.setCfg c v).climate = s.climate := rfl

@[simp] theorem State.setCfg_agg (s : State) (c : Chan) (v : ChanCfg) : (s.setCfg c v).agg = s.agg := rfl

@[simp] theorem State.setCfg_log (s : State) (c : Chan) (v : ChanCfg) : (s.setCfg c v).log = s.log := rfl

@[simp] theorem State.setCfg_dark (s : State) (c : Chan) (v : ChanCfg) : (s.setCfg c v).dark = s.dark := rfl

@[simp] theorem State.setCfg_seq (s : State) (c : Chan) (v : ChanCfg) : (s.setCfg c v).seq = s.seq := rfl

@[simp] theorem State.setCfg_ports (s : State) (c : Chan) (v : ChanCfg) : (s.setCfg c v).ports = s.ports := rfl

@[simp] theorem State.setCfg_lines (s : State) (c : Chan) (v : ChanCfg) : (s.setCfg c v).lines = s.lines := rfl

@[simp] theorem State.setCfg_shade (s : State) (c : Chan) (v : ChanCfg) : (s.setCfg c v).shade = s.shade := rfl

@[simp] theorem State.setCfg_trigger (s : State) (c : Chan) (v : ChanCfg) : (s.setCfg c v).trigger = s.trigger := rfl

@[simp] theorem State.setCfg_straps (s : State) (c : Chan) (v : ChanCfg) : (s.setCfg c v).straps = s.straps := rfl

@[simp] theorem State.setCfg_inFlight (s : State) (c : Chan) (v : ChanCfg) : (s.setCfg c v).inFlight = s.inFlight := rfl

@[simp] theorem State.setCfg_waiting (s : State) (c : Chan) (v : ChanCfg) : (s.setCfg c v).waiting = s.waiting := rfl

@[simp] theorem State.setCfg_pending (s : State) (c : Chan) (v : ChanCfg) : (s.setCfg c v).pending = s.pending := rfl

/-! ### `State.setCheckFault` -/

@[simp] theorem State.setCheckFault_phase (s : State) (c : Chan) (v : Bool) : (s.setCheckFault c v).phase = s.phase := rfl

@[simp] theorem State.setCheckFault_awaiting (s : State) (c : Chan) (v : Bool) : (s.setCheckFault c v).awaiting = s.awaiting := rfl

@[simp] theorem State.setCheckFault_ret (s : State) (c : Chan) (v : Bool) : (s.setCheckFault c v).ret = { s.ret with checkFault := Machine.setChan s.ret.checkFault c v } := rfl

@[simp] theorem State.setCheckFault_latch (s : State) (c : Chan) (v : Bool) : (s.setCheckFault c v).latch = s.latch := rfl

@[simp] theorem State.setCheckFault_checkCode (s : State) (c : Chan) (v : Bool) : (s.setCheckFault c v).checkCode = s.checkCode := rfl

@[simp] theorem State.setCheckFault_acq (s : State) (c : Chan) (v : Bool) : (s.setCheckFault c v).acq = s.acq := rfl

@[simp] theorem State.setCheckFault_trackers (s : State) (c : Chan) (v : Bool) : (s.setCheckFault c v).trackers = s.trackers := rfl

@[simp] theorem State.setCheckFault_env (s : State) (c : Chan) (v : Bool) : (s.setCheckFault c v).env = s.env := rfl

@[simp] theorem State.setCheckFault_light (s : State) (c : Chan) (v : Bool) : (s.setCheckFault c v).light = s.light := rfl

@[simp] theorem State.setCheckFault_climate (s : State) (c : Chan) (v : Bool) : (s.setCheckFault c v).climate = s.climate := rfl

@[simp] theorem State.setCheckFault_agg (s : State) (c : Chan) (v : Bool) : (s.setCheckFault c v).agg = s.agg := rfl

@[simp] theorem State.setCheckFault_log (s : State) (c : Chan) (v : Bool) : (s.setCheckFault c v).log = s.log := rfl

@[simp] theorem State.setCheckFault_dark (s : State) (c : Chan) (v : Bool) : (s.setCheckFault c v).dark = s.dark := rfl

@[simp] theorem State.setCheckFault_seq (s : State) (c : Chan) (v : Bool) : (s.setCheckFault c v).seq = s.seq := rfl

@[simp] theorem State.setCheckFault_ports (s : State) (c : Chan) (v : Bool) : (s.setCheckFault c v).ports = s.ports := rfl

@[simp] theorem State.setCheckFault_lines (s : State) (c : Chan) (v : Bool) : (s.setCheckFault c v).lines = s.lines := rfl

@[simp] theorem State.setCheckFault_shade (s : State) (c : Chan) (v : Bool) : (s.setCheckFault c v).shade = s.shade := rfl

@[simp] theorem State.setCheckFault_trigger (s : State) (c : Chan) (v : Bool) : (s.setCheckFault c v).trigger = s.trigger := rfl

@[simp] theorem State.setCheckFault_straps (s : State) (c : Chan) (v : Bool) : (s.setCheckFault c v).straps = s.straps := rfl

@[simp] theorem State.setCheckFault_inFlight (s : State) (c : Chan) (v : Bool) : (s.setCheckFault c v).inFlight = s.inFlight := rfl

@[simp] theorem State.setCheckFault_waiting (s : State) (c : Chan) (v : Bool) : (s.setCheckFault c v).waiting = s.waiting := rfl

@[simp] theorem State.setCheckFault_pending (s : State) (c : Chan) (v : Bool) : (s.setCheckFault c v).pending = s.pending := rfl

/-! ### `State.setChan` -/

@[simp] theorem State.setChan_phase (s : State) (c : Chan) (v : ChanRec) : (s.setChan c v).phase = s.phase := rfl

@[simp] theorem State.setChan_awaiting (s : State) (c : Chan) (v : ChanRec) : (s.setChan c v).awaiting = s.awaiting := rfl

@[simp] theorem State.setChan_ret (s : State) (c : Chan) (v : ChanRec) : (s.setChan c v).ret = s.ret := rfl

@[simp] theorem State.setChan_latch (s : State) (c : Chan) (v : ChanRec) : (s.setChan c v).latch = s.latch := rfl

@[simp] theorem State.setChan_checkCode (s : State) (c : Chan) (v : ChanRec) : (s.setChan c v).checkCode = s.checkCode := rfl

@[simp] theorem State.setChan_acq (s : State) (c : Chan) (v : ChanRec) : (s.setChan c v).acq = { s.acq with chans := Machine.setChan s.acq.chans c v } := rfl

@[simp] theorem State.setChan_trackers (s : State) (c : Chan) (v : ChanRec) : (s.setChan c v).trackers = s.trackers := rfl

@[simp] theorem State.setChan_env (s : State) (c : Chan) (v : ChanRec) : (s.setChan c v).env = s.env := rfl

@[simp] theorem State.setChan_light (s : State) (c : Chan) (v : ChanRec) : (s.setChan c v).light = s.light := rfl

@[simp] theorem State.setChan_climate (s : State) (c : Chan) (v : ChanRec) : (s.setChan c v).climate = s.climate := rfl

@[simp] theorem State.setChan_agg (s : State) (c : Chan) (v : ChanRec) : (s.setChan c v).agg = s.agg := rfl

@[simp] theorem State.setChan_log (s : State) (c : Chan) (v : ChanRec) : (s.setChan c v).log = s.log := rfl

@[simp] theorem State.setChan_dark (s : State) (c : Chan) (v : ChanRec) : (s.setChan c v).dark = s.dark := rfl

@[simp] theorem State.setChan_seq (s : State) (c : Chan) (v : ChanRec) : (s.setChan c v).seq = s.seq := rfl

@[simp] theorem State.setChan_ports (s : State) (c : Chan) (v : ChanRec) : (s.setChan c v).ports = s.ports := rfl

@[simp] theorem State.setChan_lines (s : State) (c : Chan) (v : ChanRec) : (s.setChan c v).lines = s.lines := rfl

@[simp] theorem State.setChan_shade (s : State) (c : Chan) (v : ChanRec) : (s.setChan c v).shade = s.shade := rfl

@[simp] theorem State.setChan_trigger (s : State) (c : Chan) (v : ChanRec) : (s.setChan c v).trigger = s.trigger := rfl

@[simp] theorem State.setChan_straps (s : State) (c : Chan) (v : ChanRec) : (s.setChan c v).straps = s.straps := rfl

@[simp] theorem State.setChan_inFlight (s : State) (c : Chan) (v : ChanRec) : (s.setChan c v).inFlight = s.inFlight := rfl

@[simp] theorem State.setChan_waiting (s : State) (c : Chan) (v : ChanRec) : (s.setChan c v).waiting = s.waiting := rfl

@[simp] theorem State.setChan_pending (s : State) (c : Chan) (v : ChanRec) : (s.setChan c v).pending = s.pending := rfl

/-! ### `State.setCal` -/

@[simp] theorem State.setCal_phase (s : State) (v : Option CalContext) : (s.setCal v).phase = s.phase := rfl

@[simp] theorem State.setCal_awaiting (s : State) (v : Option CalContext) : (s.setCal v).awaiting = s.awaiting := rfl

@[simp] theorem State.setCal_ret (s : State) (v : Option CalContext) : (s.setCal v).ret = s.ret := rfl

@[simp] theorem State.setCal_latch (s : State) (v : Option CalContext) : (s.setCal v).latch = s.latch := rfl

@[simp] theorem State.setCal_checkCode (s : State) (v : Option CalContext) : (s.setCal v).checkCode = s.checkCode := rfl

@[simp] theorem State.setCal_acq (s : State) (v : Option CalContext) : (s.setCal v).acq = { s.acq with cal := v } := rfl

@[simp] theorem State.setCal_trackers (s : State) (v : Option CalContext) : (s.setCal v).trackers = s.trackers := rfl

@[simp] theorem State.setCal_env (s : State) (v : Option CalContext) : (s.setCal v).env = s.env := rfl

@[simp] theorem State.setCal_light (s : State) (v : Option CalContext) : (s.setCal v).light = s.light := rfl

@[simp] theorem State.setCal_climate (s : State) (v : Option CalContext) : (s.setCal v).climate = s.climate := rfl

@[simp] theorem State.setCal_agg (s : State) (v : Option CalContext) : (s.setCal v).agg = s.agg := rfl

@[simp] theorem State.setCal_log (s : State) (v : Option CalContext) : (s.setCal v).log = s.log := rfl

@[simp] theorem State.setCal_dark (s : State) (v : Option CalContext) : (s.setCal v).dark = s.dark := rfl

@[simp] theorem State.setCal_seq (s : State) (v : Option CalContext) : (s.setCal v).seq = s.seq := rfl

@[simp] theorem State.setCal_ports (s : State) (v : Option CalContext) : (s.setCal v).ports = s.ports := rfl

@[simp] theorem State.setCal_lines (s : State) (v : Option CalContext) : (s.setCal v).lines = s.lines := rfl

@[simp] theorem State.setCal_shade (s : State) (v : Option CalContext) : (s.setCal v).shade = s.shade := rfl

@[simp] theorem State.setCal_trigger (s : State) (v : Option CalContext) : (s.setCal v).trigger = s.trigger := rfl

@[simp] theorem State.setCal_straps (s : State) (v : Option CalContext) : (s.setCal v).straps = s.straps := rfl

@[simp] theorem State.setCal_inFlight (s : State) (v : Option CalContext) : (s.setCal v).inFlight = s.inFlight := rfl

@[simp] theorem State.setCal_waiting (s : State) (v : Option CalContext) : (s.setCal v).waiting = s.waiting := rfl

@[simp] theorem State.setCal_pending (s : State) (v : Option CalContext) : (s.setCal v).pending = s.pending := rfl

/-! ### `State.setFaulted` -/

@[simp] theorem State.setFaulted_phase (s : State) (g : Gallery) (n : Nat) : (s.setFaulted g n).phase = s.phase := rfl

@[simp] theorem State.setFaulted_awaiting (s : State) (g : Gallery) (n : Nat) : (s.setFaulted g n).awaiting = s.awaiting := rfl

@[simp] theorem State.setFaulted_ret (s : State) (g : Gallery) (n : Nat) : (s.setFaulted g n).ret = s.ret := rfl

@[simp] theorem State.setFaulted_latch (s : State) (g : Gallery) (n : Nat) : (s.setFaulted g n).latch = s.latch := rfl

@[simp] theorem State.setFaulted_checkCode (s : State) (g : Gallery) (n : Nat) : (s.setFaulted g n).checkCode = s.checkCode := rfl

@[simp] theorem State.setFaulted_acq (s : State) (g : Gallery) (n : Nat) : (s.setFaulted g n).acq = { s.acq with faulted := s.acq.faulted.set g n } := rfl

@[simp] theorem State.setFaulted_trackers (s : State) (g : Gallery) (n : Nat) : (s.setFaulted g n).trackers = s.trackers := rfl

@[simp] theorem State.setFaulted_env (s : State) (g : Gallery) (n : Nat) : (s.setFaulted g n).env = s.env := rfl

@[simp] theorem State.setFaulted_light (s : State) (g : Gallery) (n : Nat) : (s.setFaulted g n).light = s.light := rfl

@[simp] theorem State.setFaulted_climate (s : State) (g : Gallery) (n : Nat) : (s.setFaulted g n).climate = s.climate := rfl

@[simp] theorem State.setFaulted_agg (s : State) (g : Gallery) (n : Nat) : (s.setFaulted g n).agg = s.agg := rfl

@[simp] theorem State.setFaulted_log (s : State) (g : Gallery) (n : Nat) : (s.setFaulted g n).log = s.log := rfl

@[simp] theorem State.setFaulted_dark (s : State) (g : Gallery) (n : Nat) : (s.setFaulted g n).dark = s.dark := rfl

@[simp] theorem State.setFaulted_seq (s : State) (g : Gallery) (n : Nat) : (s.setFaulted g n).seq = s.seq := rfl

@[simp] theorem State.setFaulted_ports (s : State) (g : Gallery) (n : Nat) : (s.setFaulted g n).ports = s.ports := rfl

@[simp] theorem State.setFaulted_lines (s : State) (g : Gallery) (n : Nat) : (s.setFaulted g n).lines = s.lines := rfl

@[simp] theorem State.setFaulted_shade (s : State) (g : Gallery) (n : Nat) : (s.setFaulted g n).shade = s.shade := rfl

@[simp] theorem State.setFaulted_trigger (s : State) (g : Gallery) (n : Nat) : (s.setFaulted g n).trigger = s.trigger := rfl

@[simp] theorem State.setFaulted_straps (s : State) (g : Gallery) (n : Nat) : (s.setFaulted g n).straps = s.straps := rfl

@[simp] theorem State.setFaulted_inFlight (s : State) (g : Gallery) (n : Nat) : (s.setFaulted g n).inFlight = s.inFlight := rfl

@[simp] theorem State.setFaulted_waiting (s : State) (g : Gallery) (n : Nat) : (s.setFaulted g n).waiting = s.waiting := rfl

@[simp] theorem State.setFaulted_pending (s : State) (g : Gallery) (n : Nat) : (s.setFaulted g n).pending = s.pending := rfl

/-! ### `State.setTracker` -/

@[simp] theorem State.setTracker_phase (s : State) (c : Chan) (v : Tracker) : (s.setTracker c v).phase = s.phase := rfl

@[simp] theorem State.setTracker_awaiting (s : State) (c : Chan) (v : Tracker) : (s.setTracker c v).awaiting = s.awaiting := rfl

@[simp] theorem State.setTracker_ret (s : State) (c : Chan) (v : Tracker) : (s.setTracker c v).ret = s.ret := rfl

@[simp] theorem State.setTracker_latch (s : State) (c : Chan) (v : Tracker) : (s.setTracker c v).latch = s.latch := rfl

@[simp] theorem State.setTracker_checkCode (s : State) (c : Chan) (v : Tracker) : (s.setTracker c v).checkCode = s.checkCode := rfl

@[simp] theorem State.setTracker_acq (s : State) (c : Chan) (v : Tracker) : (s.setTracker c v).acq = s.acq := rfl

@[simp] theorem State.setTracker_trackers (s : State) (c : Chan) (v : Tracker) : (s.setTracker c v).trackers = Machine.setChan s.trackers c v := rfl

@[simp] theorem State.setTracker_env (s : State) (c : Chan) (v : Tracker) : (s.setTracker c v).env = s.env := rfl

@[simp] theorem State.setTracker_light (s : State) (c : Chan) (v : Tracker) : (s.setTracker c v).light = s.light := rfl

@[simp] theorem State.setTracker_climate (s : State) (c : Chan) (v : Tracker) : (s.setTracker c v).climate = s.climate := rfl

@[simp] theorem State.setTracker_agg (s : State) (c : Chan) (v : Tracker) : (s.setTracker c v).agg = s.agg := rfl

@[simp] theorem State.setTracker_log (s : State) (c : Chan) (v : Tracker) : (s.setTracker c v).log = s.log := rfl

@[simp] theorem State.setTracker_dark (s : State) (c : Chan) (v : Tracker) : (s.setTracker c v).dark = s.dark := rfl

@[simp] theorem State.setTracker_seq (s : State) (c : Chan) (v : Tracker) : (s.setTracker c v).seq = s.seq := rfl

@[simp] theorem State.setTracker_ports (s : State) (c : Chan) (v : Tracker) : (s.setTracker c v).ports = s.ports := rfl

@[simp] theorem State.setTracker_lines (s : State) (c : Chan) (v : Tracker) : (s.setTracker c v).lines = s.lines := rfl

@[simp] theorem State.setTracker_shade (s : State) (c : Chan) (v : Tracker) : (s.setTracker c v).shade = s.shade := rfl

@[simp] theorem State.setTracker_trigger (s : State) (c : Chan) (v : Tracker) : (s.setTracker c v).trigger = s.trigger := rfl

@[simp] theorem State.setTracker_straps (s : State) (c : Chan) (v : Tracker) : (s.setTracker c v).straps = s.straps := rfl

@[simp] theorem State.setTracker_inFlight (s : State) (c : Chan) (v : Tracker) : (s.setTracker c v).inFlight = s.inFlight := rfl

@[simp] theorem State.setTracker_waiting (s : State) (c : Chan) (v : Tracker) : (s.setTracker c v).waiting = s.waiting := rfl

@[simp] theorem State.setTracker_pending (s : State) (c : Chan) (v : Tracker) : (s.setTracker c v).pending = s.pending := rfl

/-! ### `State.setClock` -/

@[simp] theorem State.setClock_phase (s : State) (v : Clock) : (s.setClock v).phase = s.phase := rfl

@[simp] theorem State.setClock_awaiting (s : State) (v : Clock) : (s.setClock v).awaiting = s.awaiting := rfl

@[simp] theorem State.setClock_ret (s : State) (v : Clock) : (s.setClock v).ret = { s.ret with clock := v } := rfl

@[simp] theorem State.setClock_latch (s : State) (v : Clock) : (s.setClock v).latch = s.latch := rfl

@[simp] theorem State.setClock_checkCode (s : State) (v : Clock) : (s.setClock v).checkCode = s.checkCode := rfl

@[simp] theorem State.setClock_acq (s : State) (v : Clock) : (s.setClock v).acq = s.acq := rfl

@[simp] theorem State.setClock_trackers (s : State) (v : Clock) : (s.setClock v).trackers = s.trackers := rfl

@[simp] theorem State.setClock_env (s : State) (v : Clock) : (s.setClock v).env = s.env := rfl

@[simp] theorem State.setClock_light (s : State) (v : Clock) : (s.setClock v).light = s.light := rfl

@[simp] theorem State.setClock_climate (s : State) (v : Clock) : (s.setClock v).climate = s.climate := rfl

@[simp] theorem State.setClock_agg (s : State) (v : Clock) : (s.setClock v).agg = s.agg := rfl

@[simp] theorem State.setClock_log (s : State) (v : Clock) : (s.setClock v).log = s.log := rfl

@[simp] theorem State.setClock_dark (s : State) (v : Clock) : (s.setClock v).dark = s.dark := rfl

@[simp] theorem State.setClock_seq (s : State) (v : Clock) : (s.setClock v).seq = s.seq := rfl

@[simp] theorem State.setClock_ports (s : State) (v : Clock) : (s.setClock v).ports = s.ports := rfl

@[simp] theorem State.setClock_lines (s : State) (v : Clock) : (s.setClock v).lines = s.lines := rfl

@[simp] theorem State.setClock_shade (s : State) (v : Clock) : (s.setClock v).shade = s.shade := rfl

@[simp] theorem State.setClock_trigger (s : State) (v : Clock) : (s.setClock v).trigger = s.trigger := rfl

@[simp] theorem State.setClock_straps (s : State) (v : Clock) : (s.setClock v).straps = s.straps := rfl

@[simp] theorem State.setClock_inFlight (s : State) (v : Clock) : (s.setClock v).inFlight = s.inFlight := rfl

@[simp] theorem State.setClock_waiting (s : State) (v : Clock) : (s.setClock v).waiting = s.waiting := rfl

@[simp] theorem State.setClock_pending (s : State) (v : Clock) : (s.setClock v).pending = s.pending := rfl

/-! ### `State.setEnvRet` -/

@[simp] theorem State.setEnvRet_phase (s : State) (g : Gallery) (v : EnvRetained) : (s.setEnvRet g v).phase = s.phase := rfl

@[simp] theorem State.setEnvRet_awaiting (s : State) (g : Gallery) (v : EnvRetained) : (s.setEnvRet g v).awaiting = s.awaiting := rfl

@[simp] theorem State.setEnvRet_ret (s : State) (g : Gallery) (v : EnvRetained) : (s.setEnvRet g v).ret = { s.ret with env := s.ret.env.set g v } := rfl

@[simp] theorem State.setEnvRet_latch (s : State) (g : Gallery) (v : EnvRetained) : (s.setEnvRet g v).latch = s.latch := rfl

@[simp] theorem State.setEnvRet_checkCode (s : State) (g : Gallery) (v : EnvRetained) : (s.setEnvRet g v).checkCode = s.checkCode := rfl

@[simp] theorem State.setEnvRet_acq (s : State) (g : Gallery) (v : EnvRetained) : (s.setEnvRet g v).acq = s.acq := rfl

@[simp] theorem State.setEnvRet_trackers (s : State) (g : Gallery) (v : EnvRetained) : (s.setEnvRet g v).trackers = s.trackers := rfl

@[simp] theorem State.setEnvRet_env (s : State) (g : Gallery) (v : EnvRetained) : (s.setEnvRet g v).env = s.env := rfl

@[simp] theorem State.setEnvRet_light (s : State) (g : Gallery) (v : EnvRetained) : (s.setEnvRet g v).light = s.light := rfl

@[simp] theorem State.setEnvRet_climate (s : State) (g : Gallery) (v : EnvRetained) : (s.setEnvRet g v).climate = s.climate := rfl

@[simp] theorem State.setEnvRet_agg (s : State) (g : Gallery) (v : EnvRetained) : (s.setEnvRet g v).agg = s.agg := rfl

@[simp] theorem State.setEnvRet_log (s : State) (g : Gallery) (v : EnvRetained) : (s.setEnvRet g v).log = s.log := rfl

@[simp] theorem State.setEnvRet_dark (s : State) (g : Gallery) (v : EnvRetained) : (s.setEnvRet g v).dark = s.dark := rfl

@[simp] theorem State.setEnvRet_seq (s : State) (g : Gallery) (v : EnvRetained) : (s.setEnvRet g v).seq = s.seq := rfl

@[simp] theorem State.setEnvRet_ports (s : State) (g : Gallery) (v : EnvRetained) : (s.setEnvRet g v).ports = s.ports := rfl

@[simp] theorem State.setEnvRet_lines (s : State) (g : Gallery) (v : EnvRetained) : (s.setEnvRet g v).lines = s.lines := rfl

@[simp] theorem State.setEnvRet_shade (s : State) (g : Gallery) (v : EnvRetained) : (s.setEnvRet g v).shade = s.shade := rfl

@[simp] theorem State.setEnvRet_trigger (s : State) (g : Gallery) (v : EnvRetained) : (s.setEnvRet g v).trigger = s.trigger := rfl

@[simp] theorem State.setEnvRet_straps (s : State) (g : Gallery) (v : EnvRetained) : (s.setEnvRet g v).straps = s.straps := rfl

@[simp] theorem State.setEnvRet_inFlight (s : State) (g : Gallery) (v : EnvRetained) : (s.setEnvRet g v).inFlight = s.inFlight := rfl

@[simp] theorem State.setEnvRet_waiting (s : State) (g : Gallery) (v : EnvRetained) : (s.setEnvRet g v).waiting = s.waiting := rfl

@[simp] theorem State.setEnvRet_pending (s : State) (g : Gallery) (v : EnvRetained) : (s.setEnvRet g v).pending = s.pending := rfl

/-! ### `State.setEnvStaged` -/

@[simp] theorem State.setEnvStaged_phase (s : State) (g : Gallery) (v : EnvStaged) : (s.setEnvStaged g v).phase = s.phase := rfl

@[simp] theorem State.setEnvStaged_awaiting (s : State) (g : Gallery) (v : EnvStaged) : (s.setEnvStaged g v).awaiting = s.awaiting := rfl

@[simp] theorem State.setEnvStaged_ret (s : State) (g : Gallery) (v : EnvStaged) : (s.setEnvStaged g v).ret = s.ret := rfl

@[simp] theorem State.setEnvStaged_latch (s : State) (g : Gallery) (v : EnvStaged) : (s.setEnvStaged g v).latch = s.latch := rfl

@[simp] theorem State.setEnvStaged_checkCode (s : State) (g : Gallery) (v : EnvStaged) : (s.setEnvStaged g v).checkCode = s.checkCode := rfl

@[simp] theorem State.setEnvStaged_acq (s : State) (g : Gallery) (v : EnvStaged) : (s.setEnvStaged g v).acq = s.acq := rfl

@[simp] theorem State.setEnvStaged_trackers (s : State) (g : Gallery) (v : EnvStaged) : (s.setEnvStaged g v).trackers = s.trackers := rfl

@[simp] theorem State.setEnvStaged_env (s : State) (g : Gallery) (v : EnvStaged) : (s.setEnvStaged g v).env = s.env.set g v := rfl

@[simp] theorem State.setEnvStaged_light (s : State) (g : Gallery) (v : EnvStaged) : (s.setEnvStaged g v).light = s.light := rfl

@[simp] theorem State.setEnvStaged_climate (s : State) (g : Gallery) (v : EnvStaged) : (s.setEnvStaged g v).climate = s.climate := rfl

@[simp] theorem State.setEnvStaged_agg (s : State) (g : Gallery) (v : EnvStaged) : (s.setEnvStaged g v).agg = s.agg := rfl

@[simp] theorem State.setEnvStaged_log (s : State) (g : Gallery) (v : EnvStaged) : (s.setEnvStaged g v).log = s.log := rfl

@[simp] theorem State.setEnvStaged_dark (s : State) (g : Gallery) (v : EnvStaged) : (s.setEnvStaged g v).dark = s.dark := rfl

@[simp] theorem State.setEnvStaged_seq (s : State) (g : Gallery) (v : EnvStaged) : (s.setEnvStaged g v).seq = s.seq := rfl

@[simp] theorem State.setEnvStaged_ports (s : State) (g : Gallery) (v : EnvStaged) : (s.setEnvStaged g v).ports = s.ports := rfl

@[simp] theorem State.setEnvStaged_lines (s : State) (g : Gallery) (v : EnvStaged) : (s.setEnvStaged g v).lines = s.lines := rfl

@[simp] theorem State.setEnvStaged_shade (s : State) (g : Gallery) (v : EnvStaged) : (s.setEnvStaged g v).shade = s.shade := rfl

@[simp] theorem State.setEnvStaged_trigger (s : State) (g : Gallery) (v : EnvStaged) : (s.setEnvStaged g v).trigger = s.trigger := rfl

@[simp] theorem State.setEnvStaged_straps (s : State) (g : Gallery) (v : EnvStaged) : (s.setEnvStaged g v).straps = s.straps := rfl

@[simp] theorem State.setEnvStaged_inFlight (s : State) (g : Gallery) (v : EnvStaged) : (s.setEnvStaged g v).inFlight = s.inFlight := rfl

@[simp] theorem State.setEnvStaged_waiting (s : State) (g : Gallery) (v : EnvStaged) : (s.setEnvStaged g v).waiting = s.waiting := rfl

@[simp] theorem State.setEnvStaged_pending (s : State) (g : Gallery) (v : EnvStaged) : (s.setEnvStaged g v).pending = s.pending := rfl

/-! ### `State.setAccount` -/

@[simp] theorem State.setAccount_phase (s : State) (g : Gallery) (v : Account) : (s.setAccount g v).phase = s.phase := rfl

@[simp] theorem State.setAccount_awaiting (s : State) (g : Gallery) (v : Account) : (s.setAccount g v).awaiting = s.awaiting := rfl

@[simp] theorem State.setAccount_ret (s : State) (g : Gallery) (v : Account) : (s.setAccount g v).ret = { s.ret with accounts := s.ret.accounts.set g v } := rfl

@[simp] theorem State.setAccount_latch (s : State) (g : Gallery) (v : Account) : (s.setAccount g v).latch = s.latch := rfl

@[simp] theorem State.setAccount_checkCode (s : State) (g : Gallery) (v : Account) : (s.setAccount g v).checkCode = s.checkCode := rfl

@[simp] theorem State.setAccount_acq (s : State) (g : Gallery) (v : Account) : (s.setAccount g v).acq = s.acq := rfl

@[simp] theorem State.setAccount_trackers (s : State) (g : Gallery) (v : Account) : (s.setAccount g v).trackers = s.trackers := rfl

@[simp] theorem State.setAccount_env (s : State) (g : Gallery) (v : Account) : (s.setAccount g v).env = s.env := rfl

@[simp] theorem State.setAccount_light (s : State) (g : Gallery) (v : Account) : (s.setAccount g v).light = s.light := rfl

@[simp] theorem State.setAccount_climate (s : State) (g : Gallery) (v : Account) : (s.setAccount g v).climate = s.climate := rfl

@[simp] theorem State.setAccount_agg (s : State) (g : Gallery) (v : Account) : (s.setAccount g v).agg = s.agg := rfl

@[simp] theorem State.setAccount_log (s : State) (g : Gallery) (v : Account) : (s.setAccount g v).log = s.log := rfl

@[simp] theorem State.setAccount_dark (s : State) (g : Gallery) (v : Account) : (s.setAccount g v).dark = s.dark := rfl

@[simp] theorem State.setAccount_seq (s : State) (g : Gallery) (v : Account) : (s.setAccount g v).seq = s.seq := rfl

@[simp] theorem State.setAccount_ports (s : State) (g : Gallery) (v : Account) : (s.setAccount g v).ports = s.ports := rfl

@[simp] theorem State.setAccount_lines (s : State) (g : Gallery) (v : Account) : (s.setAccount g v).lines = s.lines := rfl

@[simp] theorem State.setAccount_shade (s : State) (g : Gallery) (v : Account) : (s.setAccount g v).shade = s.shade := rfl

@[simp] theorem State.setAccount_trigger (s : State) (g : Gallery) (v : Account) : (s.setAccount g v).trigger = s.trigger := rfl

@[simp] theorem State.setAccount_straps (s : State) (g : Gallery) (v : Account) : (s.setAccount g v).straps = s.straps := rfl

@[simp] theorem State.setAccount_inFlight (s : State) (g : Gallery) (v : Account) : (s.setAccount g v).inFlight = s.inFlight := rfl

@[simp] theorem State.setAccount_waiting (s : State) (g : Gallery) (v : Account) : (s.setAccount g v).waiting = s.waiting := rfl

@[simp] theorem State.setAccount_pending (s : State) (g : Gallery) (v : Account) : (s.setAccount g v).pending = s.pending := rfl

/-! ### `State.setLight` -/

@[simp] theorem State.setLight_phase (s : State) (g : Gallery) (v : LightRec) : (s.setLight g v).phase = s.phase := rfl

@[simp] theorem State.setLight_awaiting (s : State) (g : Gallery) (v : LightRec) : (s.setLight g v).awaiting = s.awaiting := rfl

@[simp] theorem State.setLight_ret (s : State) (g : Gallery) (v : LightRec) : (s.setLight g v).ret = s.ret := rfl

@[simp] theorem State.setLight_latch (s : State) (g : Gallery) (v : LightRec) : (s.setLight g v).latch = s.latch := rfl

@[simp] theorem State.setLight_checkCode (s : State) (g : Gallery) (v : LightRec) : (s.setLight g v).checkCode = s.checkCode := rfl

@[simp] theorem State.setLight_acq (s : State) (g : Gallery) (v : LightRec) : (s.setLight g v).acq = s.acq := rfl

@[simp] theorem State.setLight_trackers (s : State) (g : Gallery) (v : LightRec) : (s.setLight g v).trackers = s.trackers := rfl

@[simp] theorem State.setLight_env (s : State) (g : Gallery) (v : LightRec) : (s.setLight g v).env = s.env := rfl

@[simp] theorem State.setLight_light (s : State) (g : Gallery) (v : LightRec) : (s.setLight g v).light = s.light.set g v := rfl

@[simp] theorem State.setLight_climate (s : State) (g : Gallery) (v : LightRec) : (s.setLight g v).climate = s.climate := rfl

@[simp] theorem State.setLight_agg (s : State) (g : Gallery) (v : LightRec) : (s.setLight g v).agg = s.agg := rfl

@[simp] theorem State.setLight_log (s : State) (g : Gallery) (v : LightRec) : (s.setLight g v).log = s.log := rfl

@[simp] theorem State.setLight_dark (s : State) (g : Gallery) (v : LightRec) : (s.setLight g v).dark = s.dark := rfl

@[simp] theorem State.setLight_seq (s : State) (g : Gallery) (v : LightRec) : (s.setLight g v).seq = s.seq := rfl

@[simp] theorem State.setLight_ports (s : State) (g : Gallery) (v : LightRec) : (s.setLight g v).ports = s.ports := rfl

@[simp] theorem State.setLight_lines (s : State) (g : Gallery) (v : LightRec) : (s.setLight g v).lines = s.lines := rfl

@[simp] theorem State.setLight_shade (s : State) (g : Gallery) (v : LightRec) : (s.setLight g v).shade = s.shade := rfl

@[simp] theorem State.setLight_trigger (s : State) (g : Gallery) (v : LightRec) : (s.setLight g v).trigger = s.trigger := rfl

@[simp] theorem State.setLight_straps (s : State) (g : Gallery) (v : LightRec) : (s.setLight g v).straps = s.straps := rfl

@[simp] theorem State.setLight_inFlight (s : State) (g : Gallery) (v : LightRec) : (s.setLight g v).inFlight = s.inFlight := rfl

@[simp] theorem State.setLight_waiting (s : State) (g : Gallery) (v : LightRec) : (s.setLight g v).waiting = s.waiting := rfl

@[simp] theorem State.setLight_pending (s : State) (g : Gallery) (v : LightRec) : (s.setLight g v).pending = s.pending := rfl

/-! ### `State.setClimate` -/

@[simp] theorem State.setClimate_phase (s : State) (g : Gallery) (v : ClimateRec) : (s.setClimate g v).phase = s.phase := rfl

@[simp] theorem State.setClimate_awaiting (s : State) (g : Gallery) (v : ClimateRec) : (s.setClimate g v).awaiting = s.awaiting := rfl

@[simp] theorem State.setClimate_ret (s : State) (g : Gallery) (v : ClimateRec) : (s.setClimate g v).ret = s.ret := rfl

@[simp] theorem State.setClimate_latch (s : State) (g : Gallery) (v : ClimateRec) : (s.setClimate g v).latch = s.latch := rfl

@[simp] theorem State.setClimate_checkCode (s : State) (g : Gallery) (v : ClimateRec) : (s.setClimate g v).checkCode = s.checkCode := rfl

@[simp] theorem State.setClimate_acq (s : State) (g : Gallery) (v : ClimateRec) : (s.setClimate g v).acq = s.acq := rfl

@[simp] theorem State.setClimate_trackers (s : State) (g : Gallery) (v : ClimateRec) : (s.setClimate g v).trackers = s.trackers := rfl

@[simp] theorem State.setClimate_env (s : State) (g : Gallery) (v : ClimateRec) : (s.setClimate g v).env = s.env := rfl

@[simp] theorem State.setClimate_light (s : State) (g : Gallery) (v : ClimateRec) : (s.setClimate g v).light = s.light := rfl

@[simp] theorem State.setClimate_climate (s : State) (g : Gallery) (v : ClimateRec) : (s.setClimate g v).climate = s.climate.set g v := rfl

@[simp] theorem State.setClimate_agg (s : State) (g : Gallery) (v : ClimateRec) : (s.setClimate g v).agg = s.agg := rfl

@[simp] theorem State.setClimate_log (s : State) (g : Gallery) (v : ClimateRec) : (s.setClimate g v).log = s.log := rfl

@[simp] theorem State.setClimate_dark (s : State) (g : Gallery) (v : ClimateRec) : (s.setClimate g v).dark = s.dark := rfl

@[simp] theorem State.setClimate_seq (s : State) (g : Gallery) (v : ClimateRec) : (s.setClimate g v).seq = s.seq := rfl

@[simp] theorem State.setClimate_ports (s : State) (g : Gallery) (v : ClimateRec) : (s.setClimate g v).ports = s.ports := rfl

@[simp] theorem State.setClimate_lines (s : State) (g : Gallery) (v : ClimateRec) : (s.setClimate g v).lines = s.lines := rfl

@[simp] theorem State.setClimate_shade (s : State) (g : Gallery) (v : ClimateRec) : (s.setClimate g v).shade = s.shade := rfl

@[simp] theorem State.setClimate_trigger (s : State) (g : Gallery) (v : ClimateRec) : (s.setClimate g v).trigger = s.trigger := rfl

@[simp] theorem State.setClimate_straps (s : State) (g : Gallery) (v : ClimateRec) : (s.setClimate g v).straps = s.straps := rfl

@[simp] theorem State.setClimate_inFlight (s : State) (g : Gallery) (v : ClimateRec) : (s.setClimate g v).inFlight = s.inFlight := rfl

@[simp] theorem State.setClimate_waiting (s : State) (g : Gallery) (v : ClimateRec) : (s.setClimate g v).waiting = s.waiting := rfl

@[simp] theorem State.setClimate_pending (s : State) (g : Gallery) (v : ClimateRec) : (s.setClimate g v).pending = s.pending := rfl

/-! ### `State.setHistory` -/

@[simp] theorem State.setHistory_phase (s : State) (v : History) : (s.setHistory v).phase = s.phase := rfl

@[simp] theorem State.setHistory_awaiting (s : State) (v : History) : (s.setHistory v).awaiting = s.awaiting := rfl

@[simp] theorem State.setHistory_ret (s : State) (v : History) : (s.setHistory v).ret = { s.ret with history := v } := rfl

@[simp] theorem State.setHistory_latch (s : State) (v : History) : (s.setHistory v).latch = s.latch := rfl

@[simp] theorem State.setHistory_checkCode (s : State) (v : History) : (s.setHistory v).checkCode = s.checkCode := rfl

@[simp] theorem State.setHistory_acq (s : State) (v : History) : (s.setHistory v).acq = s.acq := rfl

@[simp] theorem State.setHistory_trackers (s : State) (v : History) : (s.setHistory v).trackers = s.trackers := rfl

@[simp] theorem State.setHistory_env (s : State) (v : History) : (s.setHistory v).env = s.env := rfl

@[simp] theorem State.setHistory_light (s : State) (v : History) : (s.setHistory v).light = s.light := rfl

@[simp] theorem State.setHistory_climate (s : State) (v : History) : (s.setHistory v).climate = s.climate := rfl

@[simp] theorem State.setHistory_agg (s : State) (v : History) : (s.setHistory v).agg = s.agg := rfl

@[simp] theorem State.setHistory_log (s : State) (v : History) : (s.setHistory v).log = s.log := rfl

@[simp] theorem State.setHistory_dark (s : State) (v : History) : (s.setHistory v).dark = s.dark := rfl

@[simp] theorem State.setHistory_seq (s : State) (v : History) : (s.setHistory v).seq = s.seq := rfl

@[simp] theorem State.setHistory_ports (s : State) (v : History) : (s.setHistory v).ports = s.ports := rfl

@[simp] theorem State.setHistory_lines (s : State) (v : History) : (s.setHistory v).lines = s.lines := rfl

@[simp] theorem State.setHistory_shade (s : State) (v : History) : (s.setHistory v).shade = s.shade := rfl

@[simp] theorem State.setHistory_trigger (s : State) (v : History) : (s.setHistory v).trigger = s.trigger := rfl

@[simp] theorem State.setHistory_straps (s : State) (v : History) : (s.setHistory v).straps = s.straps := rfl

@[simp] theorem State.setHistory_inFlight (s : State) (v : History) : (s.setHistory v).inFlight = s.inFlight := rfl

@[simp] theorem State.setHistory_waiting (s : State) (v : History) : (s.setHistory v).waiting = s.waiting := rfl

@[simp] theorem State.setHistory_pending (s : State) (v : History) : (s.setHistory v).pending = s.pending := rfl

/-! ### `State.setRing` -/

@[simp] theorem State.setRing_phase (s : State) (g : Gallery) (v : Ring) : (s.setRing g v).phase = s.phase := rfl

@[simp] theorem State.setRing_awaiting (s : State) (g : Gallery) (v : Ring) : (s.setRing g v).awaiting = s.awaiting := rfl

@[simp] theorem State.setRing_ret (s : State) (g : Gallery) (v : Ring) : (s.setRing g v).ret = { s.ret with history := { s.ret.history with rings := s.ret.history.rings.set g v } } := rfl

@[simp] theorem State.setRing_latch (s : State) (g : Gallery) (v : Ring) : (s.setRing g v).latch = s.latch := rfl

@[simp] theorem State.setRing_checkCode (s : State) (g : Gallery) (v : Ring) : (s.setRing g v).checkCode = s.checkCode := rfl

@[simp] theorem State.setRing_acq (s : State) (g : Gallery) (v : Ring) : (s.setRing g v).acq = s.acq := rfl

@[simp] theorem State.setRing_trackers (s : State) (g : Gallery) (v : Ring) : (s.setRing g v).trackers = s.trackers := rfl

@[simp] theorem State.setRing_env (s : State) (g : Gallery) (v : Ring) : (s.setRing g v).env = s.env := rfl

@[simp] theorem State.setRing_light (s : State) (g : Gallery) (v : Ring) : (s.setRing g v).light = s.light := rfl

@[simp] theorem State.setRing_climate (s : State) (g : Gallery) (v : Ring) : (s.setRing g v).climate = s.climate := rfl

@[simp] theorem State.setRing_agg (s : State) (g : Gallery) (v : Ring) : (s.setRing g v).agg = s.agg := rfl

@[simp] theorem State.setRing_log (s : State) (g : Gallery) (v : Ring) : (s.setRing g v).log = s.log := rfl

@[simp] theorem State.setRing_dark (s : State) (g : Gallery) (v : Ring) : (s.setRing g v).dark = s.dark := rfl

@[simp] theorem State.setRing_seq (s : State) (g : Gallery) (v : Ring) : (s.setRing g v).seq = s.seq := rfl

@[simp] theorem State.setRing_ports (s : State) (g : Gallery) (v : Ring) : (s.setRing g v).ports = s.ports := rfl

@[simp] theorem State.setRing_lines (s : State) (g : Gallery) (v : Ring) : (s.setRing g v).lines = s.lines := rfl

@[simp] theorem State.setRing_shade (s : State) (g : Gallery) (v : Ring) : (s.setRing g v).shade = s.shade := rfl

@[simp] theorem State.setRing_trigger (s : State) (g : Gallery) (v : Ring) : (s.setRing g v).trigger = s.trigger := rfl

@[simp] theorem State.setRing_straps (s : State) (g : Gallery) (v : Ring) : (s.setRing g v).straps = s.straps := rfl

@[simp] theorem State.setRing_inFlight (s : State) (g : Gallery) (v : Ring) : (s.setRing g v).inFlight = s.inFlight := rfl

@[simp] theorem State.setRing_waiting (s : State) (g : Gallery) (v : Ring) : (s.setRing g v).waiting = s.waiting := rfl

@[simp] theorem State.setRing_pending (s : State) (g : Gallery) (v : Ring) : (s.setRing g v).pending = s.pending := rfl

/-! ### `State.setAggregates` -/

@[simp] theorem State.setAggregates_phase (s : State) (g : Gallery) (v : Aggregates) : (s.setAggregates g v).phase = s.phase := rfl

@[simp] theorem State.setAggregates_awaiting (s : State) (g : Gallery) (v : Aggregates) : (s.setAggregates g v).awaiting = s.awaiting := rfl

@[simp] theorem State.setAggregates_ret (s : State) (g : Gallery) (v : Aggregates) : (s.setAggregates g v).ret = s.ret := rfl

@[simp] theorem State.setAggregates_latch (s : State) (g : Gallery) (v : Aggregates) : (s.setAggregates g v).latch = s.latch := rfl

@[simp] theorem State.setAggregates_checkCode (s : State) (g : Gallery) (v : Aggregates) : (s.setAggregates g v).checkCode = s.checkCode := rfl

@[simp] theorem State.setAggregates_acq (s : State) (g : Gallery) (v : Aggregates) : (s.setAggregates g v).acq = s.acq := rfl

@[simp] theorem State.setAggregates_trackers (s : State) (g : Gallery) (v : Aggregates) : (s.setAggregates g v).trackers = s.trackers := rfl

@[simp] theorem State.setAggregates_env (s : State) (g : Gallery) (v : Aggregates) : (s.setAggregates g v).env = s.env := rfl

@[simp] theorem State.setAggregates_light (s : State) (g : Gallery) (v : Aggregates) : (s.setAggregates g v).light = s.light := rfl

@[simp] theorem State.setAggregates_climate (s : State) (g : Gallery) (v : Aggregates) : (s.setAggregates g v).climate = s.climate := rfl

@[simp] theorem State.setAggregates_agg (s : State) (g : Gallery) (v : Aggregates) : (s.setAggregates g v).agg = s.agg.set g v := rfl

@[simp] theorem State.setAggregates_log (s : State) (g : Gallery) (v : Aggregates) : (s.setAggregates g v).log = s.log := rfl

@[simp] theorem State.setAggregates_dark (s : State) (g : Gallery) (v : Aggregates) : (s.setAggregates g v).dark = s.dark := rfl

@[simp] theorem State.setAggregates_seq (s : State) (g : Gallery) (v : Aggregates) : (s.setAggregates g v).seq = s.seq := rfl

@[simp] theorem State.setAggregates_ports (s : State) (g : Gallery) (v : Aggregates) : (s.setAggregates g v).ports = s.ports := rfl

@[simp] theorem State.setAggregates_lines (s : State) (g : Gallery) (v : Aggregates) : (s.setAggregates g v).lines = s.lines := rfl

@[simp] theorem State.setAggregates_shade (s : State) (g : Gallery) (v : Aggregates) : (s.setAggregates g v).shade = s.shade := rfl

@[simp] theorem State.setAggregates_trigger (s : State) (g : Gallery) (v : Aggregates) : (s.setAggregates g v).trigger = s.trigger := rfl

@[simp] theorem State.setAggregates_straps (s : State) (g : Gallery) (v : Aggregates) : (s.setAggregates g v).straps = s.straps := rfl

@[simp] theorem State.setAggregates_inFlight (s : State) (g : Gallery) (v : Aggregates) : (s.setAggregates g v).inFlight = s.inFlight := rfl

@[simp] theorem State.setAggregates_waiting (s : State) (g : Gallery) (v : Aggregates) : (s.setAggregates g v).waiting = s.waiting := rfl

@[simp] theorem State.setAggregates_pending (s : State) (g : Gallery) (v : Aggregates) : (s.setAggregates g v).pending = s.pending := rfl

/-! ### `State.setLogRet` -/

@[simp] theorem State.setLogRet_phase (s : State) (v : LogRetained) : (s.setLogRet v).phase = s.phase := rfl

@[simp] theorem State.setLogRet_awaiting (s : State) (v : LogRetained) : (s.setLogRet v).awaiting = s.awaiting := rfl

@[simp] theorem State.setLogRet_ret (s : State) (v : LogRetained) : (s.setLogRet v).ret = { s.ret with log := v } := rfl

@[simp] theorem State.setLogRet_latch (s : State) (v : LogRetained) : (s.setLogRet v).latch = s.latch := rfl

@[simp] theorem State.setLogRet_checkCode (s : State) (v : LogRetained) : (s.setLogRet v).checkCode = s.checkCode := rfl

@[simp] theorem State.setLogRet_acq (s : State) (v : LogRetained) : (s.setLogRet v).acq = s.acq := rfl

@[simp] theorem State.setLogRet_trackers (s : State) (v : LogRetained) : (s.setLogRet v).trackers = s.trackers := rfl

@[simp] theorem State.setLogRet_env (s : State) (v : LogRetained) : (s.setLogRet v).env = s.env := rfl

@[simp] theorem State.setLogRet_light (s : State) (v : LogRetained) : (s.setLogRet v).light = s.light := rfl

@[simp] theorem State.setLogRet_climate (s : State) (v : LogRetained) : (s.setLogRet v).climate = s.climate := rfl

@[simp] theorem State.setLogRet_agg (s : State) (v : LogRetained) : (s.setLogRet v).agg = s.agg := rfl

@[simp] theorem State.setLogRet_log (s : State) (v : LogRetained) : (s.setLogRet v).log = s.log := rfl

@[simp] theorem State.setLogRet_dark (s : State) (v : LogRetained) : (s.setLogRet v).dark = s.dark := rfl

@[simp] theorem State.setLogRet_seq (s : State) (v : LogRetained) : (s.setLogRet v).seq = s.seq := rfl

@[simp] theorem State.setLogRet_ports (s : State) (v : LogRetained) : (s.setLogRet v).ports = s.ports := rfl

@[simp] theorem State.setLogRet_lines (s : State) (v : LogRetained) : (s.setLogRet v).lines = s.lines := rfl

@[simp] theorem State.setLogRet_shade (s : State) (v : LogRetained) : (s.setLogRet v).shade = s.shade := rfl

@[simp] theorem State.setLogRet_trigger (s : State) (v : LogRetained) : (s.setLogRet v).trigger = s.trigger := rfl

@[simp] theorem State.setLogRet_straps (s : State) (v : LogRetained) : (s.setLogRet v).straps = s.straps := rfl

@[simp] theorem State.setLogRet_inFlight (s : State) (v : LogRetained) : (s.setLogRet v).inFlight = s.inFlight := rfl

@[simp] theorem State.setLogRet_waiting (s : State) (v : LogRetained) : (s.setLogRet v).waiting = s.waiting := rfl

@[simp] theorem State.setLogRet_pending (s : State) (v : LogRetained) : (s.setLogRet v).pending = s.pending := rfl

/-! ### `State.setActiveType` -/

@[simp] theorem State.setActiveType_phase (s : State) (g : Gallery) (t : ExcType) (v : Bool) : (s.setActiveType g t v).phase = s.phase := rfl

@[simp] theorem State.setActiveType_awaiting (s : State) (g : Gallery) (t : ExcType) (v : Bool) : (s.setActiveType g t v).awaiting = s.awaiting := rfl

@[simp] theorem State.setActiveType_ret (s : State) (g : Gallery) (t : ExcType) (v : Bool) : (s.setActiveType g t v).ret = s.ret := rfl

@[simp] theorem State.setActiveType_latch (s : State) (g : Gallery) (t : ExcType) (v : Bool) : (s.setActiveType g t v).latch = s.latch := rfl

@[simp] theorem State.setActiveType_checkCode (s : State) (g : Gallery) (t : ExcType) (v : Bool) : (s.setActiveType g t v).checkCode = s.checkCode := rfl

@[simp] theorem State.setActiveType_acq (s : State) (g : Gallery) (t : ExcType) (v : Bool) : (s.setActiveType g t v).acq = s.acq := rfl

@[simp] theorem State.setActiveType_trackers (s : State) (g : Gallery) (t : ExcType) (v : Bool) : (s.setActiveType g t v).trackers = s.trackers := rfl

@[simp] theorem State.setActiveType_env (s : State) (g : Gallery) (t : ExcType) (v : Bool) : (s.setActiveType g t v).env = s.env := rfl

@[simp] theorem State.setActiveType_light (s : State) (g : Gallery) (t : ExcType) (v : Bool) : (s.setActiveType g t v).light = s.light := rfl

@[simp] theorem State.setActiveType_climate (s : State) (g : Gallery) (t : ExcType) (v : Bool) : (s.setActiveType g t v).climate = s.climate := rfl

@[simp] theorem State.setActiveType_agg (s : State) (g : Gallery) (t : ExcType) (v : Bool) : (s.setActiveType g t v).agg = s.agg := rfl

@[simp] theorem State.setActiveType_log (s : State) (g : Gallery) (t : ExcType) (v : Bool) : (s.setActiveType g t v).log = { s.log with active := s.log.active.set g ((s.log.active.get g).set t v) } := rfl

@[simp] theorem State.setActiveType_dark (s : State) (g : Gallery) (t : ExcType) (v : Bool) : (s.setActiveType g t v).dark = s.dark := rfl

@[simp] theorem State.setActiveType_seq (s : State) (g : Gallery) (t : ExcType) (v : Bool) : (s.setActiveType g t v).seq = s.seq := rfl

@[simp] theorem State.setActiveType_ports (s : State) (g : Gallery) (t : ExcType) (v : Bool) : (s.setActiveType g t v).ports = s.ports := rfl

@[simp] theorem State.setActiveType_lines (s : State) (g : Gallery) (t : ExcType) (v : Bool) : (s.setActiveType g t v).lines = s.lines := rfl

@[simp] theorem State.setActiveType_shade (s : State) (g : Gallery) (t : ExcType) (v : Bool) : (s.setActiveType g t v).shade = s.shade := rfl

@[simp] theorem State.setActiveType_trigger (s : State) (g : Gallery) (t : ExcType) (v : Bool) : (s.setActiveType g t v).trigger = s.trigger := rfl

@[simp] theorem State.setActiveType_straps (s : State) (g : Gallery) (t : ExcType) (v : Bool) : (s.setActiveType g t v).straps = s.straps := rfl

@[simp] theorem State.setActiveType_inFlight (s : State) (g : Gallery) (t : ExcType) (v : Bool) : (s.setActiveType g t v).inFlight = s.inFlight := rfl

@[simp] theorem State.setActiveType_waiting (s : State) (g : Gallery) (t : ExcType) (v : Bool) : (s.setActiveType g t v).waiting = s.waiting := rfl

@[simp] theorem State.setActiveType_pending (s : State) (g : Gallery) (t : ExcType) (v : Bool) : (s.setActiveType g t v).pending = s.pending := rfl

/-! ### `State.setMarker` -/

@[simp] theorem State.setMarker_phase (s : State) (v : Bool) : (s.setMarker v).phase = s.phase := rfl

@[simp] theorem State.setMarker_awaiting (s : State) (v : Bool) : (s.setMarker v).awaiting = s.awaiting := rfl

@[simp] theorem State.setMarker_ret (s : State) (v : Bool) : (s.setMarker v).ret = s.ret := rfl

@[simp] theorem State.setMarker_latch (s : State) (v : Bool) : (s.setMarker v).latch = s.latch := rfl

@[simp] theorem State.setMarker_checkCode (s : State) (v : Bool) : (s.setMarker v).checkCode = s.checkCode := rfl

@[simp] theorem State.setMarker_acq (s : State) (v : Bool) : (s.setMarker v).acq = s.acq := rfl

@[simp] theorem State.setMarker_trackers (s : State) (v : Bool) : (s.setMarker v).trackers = s.trackers := rfl

@[simp] theorem State.setMarker_env (s : State) (v : Bool) : (s.setMarker v).env = s.env := rfl

@[simp] theorem State.setMarker_light (s : State) (v : Bool) : (s.setMarker v).light = s.light := rfl

@[simp] theorem State.setMarker_climate (s : State) (v : Bool) : (s.setMarker v).climate = s.climate := rfl

@[simp] theorem State.setMarker_agg (s : State) (v : Bool) : (s.setMarker v).agg = s.agg := rfl

@[simp] theorem State.setMarker_log (s : State) (v : Bool) : (s.setMarker v).log = { s.log with sinceSelection := v } := rfl

@[simp] theorem State.setMarker_dark (s : State) (v : Bool) : (s.setMarker v).dark = s.dark := rfl

@[simp] theorem State.setMarker_seq (s : State) (v : Bool) : (s.setMarker v).seq = s.seq := rfl

@[simp] theorem State.setMarker_ports (s : State) (v : Bool) : (s.setMarker v).ports = s.ports := rfl

@[simp] theorem State.setMarker_lines (s : State) (v : Bool) : (s.setMarker v).lines = s.lines := rfl

@[simp] theorem State.setMarker_shade (s : State) (v : Bool) : (s.setMarker v).shade = s.shade := rfl

@[simp] theorem State.setMarker_trigger (s : State) (v : Bool) : (s.setMarker v).trigger = s.trigger := rfl

@[simp] theorem State.setMarker_straps (s : State) (v : Bool) : (s.setMarker v).straps = s.straps := rfl

@[simp] theorem State.setMarker_inFlight (s : State) (v : Bool) : (s.setMarker v).inFlight = s.inFlight := rfl

@[simp] theorem State.setMarker_waiting (s : State) (v : Bool) : (s.setMarker v).waiting = s.waiting := rfl

@[simp] theorem State.setMarker_pending (s : State) (v : Bool) : (s.setMarker v).pending = s.pending := rfl

/-! ### `State.setDark` -/

@[simp] theorem State.setDark_phase (s : State) (g : Gallery) (v : DarkRec) : (s.setDark g v).phase = s.phase := rfl

@[simp] theorem State.setDark_awaiting (s : State) (g : Gallery) (v : DarkRec) : (s.setDark g v).awaiting = s.awaiting := rfl

@[simp] theorem State.setDark_ret (s : State) (g : Gallery) (v : DarkRec) : (s.setDark g v).ret = s.ret := rfl

@[simp] theorem State.setDark_latch (s : State) (g : Gallery) (v : DarkRec) : (s.setDark g v).latch = s.latch := rfl

@[simp] theorem State.setDark_checkCode (s : State) (g : Gallery) (v : DarkRec) : (s.setDark g v).checkCode = s.checkCode := rfl

@[simp] theorem State.setDark_acq (s : State) (g : Gallery) (v : DarkRec) : (s.setDark g v).acq = s.acq := rfl

@[simp] theorem State.setDark_trackers (s : State) (g : Gallery) (v : DarkRec) : (s.setDark g v).trackers = s.trackers := rfl

@[simp] theorem State.setDark_env (s : State) (g : Gallery) (v : DarkRec) : (s.setDark g v).env = s.env := rfl

@[simp] theorem State.setDark_light (s : State) (g : Gallery) (v : DarkRec) : (s.setDark g v).light = s.light := rfl

@[simp] theorem State.setDark_climate (s : State) (g : Gallery) (v : DarkRec) : (s.setDark g v).climate = s.climate := rfl

@[simp] theorem State.setDark_agg (s : State) (g : Gallery) (v : DarkRec) : (s.setDark g v).agg = s.agg := rfl

@[simp] theorem State.setDark_log (s : State) (g : Gallery) (v : DarkRec) : (s.setDark g v).log = s.log := rfl

@[simp] theorem State.setDark_dark (s : State) (g : Gallery) (v : DarkRec) : (s.setDark g v).dark = s.dark.set g v := rfl

@[simp] theorem State.setDark_seq (s : State) (g : Gallery) (v : DarkRec) : (s.setDark g v).seq = s.seq := rfl

@[simp] theorem State.setDark_ports (s : State) (g : Gallery) (v : DarkRec) : (s.setDark g v).ports = s.ports := rfl

@[simp] theorem State.setDark_lines (s : State) (g : Gallery) (v : DarkRec) : (s.setDark g v).lines = s.lines := rfl

@[simp] theorem State.setDark_shade (s : State) (g : Gallery) (v : DarkRec) : (s.setDark g v).shade = s.shade := rfl

@[simp] theorem State.setDark_trigger (s : State) (g : Gallery) (v : DarkRec) : (s.setDark g v).trigger = s.trigger := rfl

@[simp] theorem State.setDark_straps (s : State) (g : Gallery) (v : DarkRec) : (s.setDark g v).straps = s.straps := rfl

@[simp] theorem State.setDark_inFlight (s : State) (g : Gallery) (v : DarkRec) : (s.setDark g v).inFlight = s.inFlight := rfl

@[simp] theorem State.setDark_waiting (s : State) (g : Gallery) (v : DarkRec) : (s.setDark g v).waiting = s.waiting := rfl

@[simp] theorem State.setDark_pending (s : State) (g : Gallery) (v : DarkRec) : (s.setDark g v).pending = s.pending := rfl

/-! ### `State.setSources` -/

@[simp] theorem State.setSources_phase (s : State) (g : Gallery) (v : SourceSet) : (s.setSources g v).phase = s.phase := rfl

@[simp] theorem State.setSources_awaiting (s : State) (g : Gallery) (v : SourceSet) : (s.setSources g v).awaiting = s.awaiting := rfl

@[simp] theorem State.setSources_ret (s : State) (g : Gallery) (v : SourceSet) : (s.setSources g v).ret = { s.ret with sources := s.ret.sources.set g v } := rfl

@[simp] theorem State.setSources_latch (s : State) (g : Gallery) (v : SourceSet) : (s.setSources g v).latch = s.latch := rfl

@[simp] theorem State.setSources_checkCode (s : State) (g : Gallery) (v : SourceSet) : (s.setSources g v).checkCode = s.checkCode := rfl

@[simp] theorem State.setSources_acq (s : State) (g : Gallery) (v : SourceSet) : (s.setSources g v).acq = s.acq := rfl

@[simp] theorem State.setSources_trackers (s : State) (g : Gallery) (v : SourceSet) : (s.setSources g v).trackers = s.trackers := rfl

@[simp] theorem State.setSources_env (s : State) (g : Gallery) (v : SourceSet) : (s.setSources g v).env = s.env := rfl

@[simp] theorem State.setSources_light (s : State) (g : Gallery) (v : SourceSet) : (s.setSources g v).light = s.light := rfl

@[simp] theorem State.setSources_climate (s : State) (g : Gallery) (v : SourceSet) : (s.setSources g v).climate = s.climate := rfl

@[simp] theorem State.setSources_agg (s : State) (g : Gallery) (v : SourceSet) : (s.setSources g v).agg = s.agg := rfl

@[simp] theorem State.setSources_log (s : State) (g : Gallery) (v : SourceSet) : (s.setSources g v).log = s.log := rfl

@[simp] theorem State.setSources_dark (s : State) (g : Gallery) (v : SourceSet) : (s.setSources g v).dark = s.dark := rfl

@[simp] theorem State.setSources_seq (s : State) (g : Gallery) (v : SourceSet) : (s.setSources g v).seq = s.seq := rfl

@[simp] theorem State.setSources_ports (s : State) (g : Gallery) (v : SourceSet) : (s.setSources g v).ports = s.ports := rfl

@[simp] theorem State.setSources_lines (s : State) (g : Gallery) (v : SourceSet) : (s.setSources g v).lines = s.lines := rfl

@[simp] theorem State.setSources_shade (s : State) (g : Gallery) (v : SourceSet) : (s.setSources g v).shade = s.shade := rfl

@[simp] theorem State.setSources_trigger (s : State) (g : Gallery) (v : SourceSet) : (s.setSources g v).trigger = s.trigger := rfl

@[simp] theorem State.setSources_straps (s : State) (g : Gallery) (v : SourceSet) : (s.setSources g v).straps = s.straps := rfl

@[simp] theorem State.setSources_inFlight (s : State) (g : Gallery) (v : SourceSet) : (s.setSources g v).inFlight = s.inFlight := rfl

@[simp] theorem State.setSources_waiting (s : State) (g : Gallery) (v : SourceSet) : (s.setSources g v).waiting = s.waiting := rfl

@[simp] theorem State.setSources_pending (s : State) (g : Gallery) (v : SourceSet) : (s.setSources g v).pending = s.pending := rfl

/-! ### `State.setShade` -/

@[simp] theorem State.setShade_phase (s : State) (g : Gallery) (v : Bool) : (s.setShade g v).phase = s.phase := rfl

@[simp] theorem State.setShade_awaiting (s : State) (g : Gallery) (v : Bool) : (s.setShade g v).awaiting = s.awaiting := rfl

@[simp] theorem State.setShade_ret (s : State) (g : Gallery) (v : Bool) : (s.setShade g v).ret = s.ret := rfl

@[simp] theorem State.setShade_latch (s : State) (g : Gallery) (v : Bool) : (s.setShade g v).latch = s.latch := rfl

@[simp] theorem State.setShade_checkCode (s : State) (g : Gallery) (v : Bool) : (s.setShade g v).checkCode = s.checkCode := rfl

@[simp] theorem State.setShade_acq (s : State) (g : Gallery) (v : Bool) : (s.setShade g v).acq = s.acq := rfl

@[simp] theorem State.setShade_trackers (s : State) (g : Gallery) (v : Bool) : (s.setShade g v).trackers = s.trackers := rfl

@[simp] theorem State.setShade_env (s : State) (g : Gallery) (v : Bool) : (s.setShade g v).env = s.env := rfl

@[simp] theorem State.setShade_light (s : State) (g : Gallery) (v : Bool) : (s.setShade g v).light = s.light := rfl

@[simp] theorem State.setShade_climate (s : State) (g : Gallery) (v : Bool) : (s.setShade g v).climate = s.climate := rfl

@[simp] theorem State.setShade_agg (s : State) (g : Gallery) (v : Bool) : (s.setShade g v).agg = s.agg := rfl

@[simp] theorem State.setShade_log (s : State) (g : Gallery) (v : Bool) : (s.setShade g v).log = s.log := rfl

@[simp] theorem State.setShade_dark (s : State) (g : Gallery) (v : Bool) : (s.setShade g v).dark = s.dark := rfl

@[simp] theorem State.setShade_seq (s : State) (g : Gallery) (v : Bool) : (s.setShade g v).seq = s.seq := rfl

@[simp] theorem State.setShade_ports (s : State) (g : Gallery) (v : Bool) : (s.setShade g v).ports = s.ports := rfl

@[simp] theorem State.setShade_lines (s : State) (g : Gallery) (v : Bool) : (s.setShade g v).lines = s.lines := rfl

@[simp] theorem State.setShade_shade (s : State) (g : Gallery) (v : Bool) : (s.setShade g v).shade = s.shade.set g v := rfl

@[simp] theorem State.setShade_trigger (s : State) (g : Gallery) (v : Bool) : (s.setShade g v).trigger = s.trigger := rfl

@[simp] theorem State.setShade_straps (s : State) (g : Gallery) (v : Bool) : (s.setShade g v).straps = s.straps := rfl

@[simp] theorem State.setShade_inFlight (s : State) (g : Gallery) (v : Bool) : (s.setShade g v).inFlight = s.inFlight := rfl

@[simp] theorem State.setShade_waiting (s : State) (g : Gallery) (v : Bool) : (s.setShade g v).waiting = s.waiting := rfl

@[simp] theorem State.setShade_pending (s : State) (g : Gallery) (v : Bool) : (s.setShade g v).pending = s.pending := rfl

/-! ### `State.setTriggerCfg` -/

@[simp] theorem State.setTriggerCfg_phase (s : State) (x : Trigger) (v : TriggerCfg) : (s.setTriggerCfg x v).phase = s.phase := rfl

@[simp] theorem State.setTriggerCfg_awaiting (s : State) (x : Trigger) (v : TriggerCfg) : (s.setTriggerCfg x v).awaiting = s.awaiting := rfl

@[simp] theorem State.setTriggerCfg_ret (s : State) (x : Trigger) (v : TriggerCfg) : (s.setTriggerCfg x v).ret = { s.ret with triggers := s.ret.triggers.set x v } := rfl

@[simp] theorem State.setTriggerCfg_latch (s : State) (x : Trigger) (v : TriggerCfg) : (s.setTriggerCfg x v).latch = s.latch := rfl

@[simp] theorem State.setTriggerCfg_checkCode (s : State) (x : Trigger) (v : TriggerCfg) : (s.setTriggerCfg x v).checkCode = s.checkCode := rfl

@[simp] theorem State.setTriggerCfg_acq (s : State) (x : Trigger) (v : TriggerCfg) : (s.setTriggerCfg x v).acq = s.acq := rfl

@[simp] theorem State.setTriggerCfg_trackers (s : State) (x : Trigger) (v : TriggerCfg) : (s.setTriggerCfg x v).trackers = s.trackers := rfl

@[simp] theorem State.setTriggerCfg_env (s : State) (x : Trigger) (v : TriggerCfg) : (s.setTriggerCfg x v).env = s.env := rfl

@[simp] theorem State.setTriggerCfg_light (s : State) (x : Trigger) (v : TriggerCfg) : (s.setTriggerCfg x v).light = s.light := rfl

@[simp] theorem State.setTriggerCfg_climate (s : State) (x : Trigger) (v : TriggerCfg) : (s.setTriggerCfg x v).climate = s.climate := rfl

@[simp] theorem State.setTriggerCfg_agg (s : State) (x : Trigger) (v : TriggerCfg) : (s.setTriggerCfg x v).agg = s.agg := rfl

@[simp] theorem State.setTriggerCfg_log (s : State) (x : Trigger) (v : TriggerCfg) : (s.setTriggerCfg x v).log = s.log := rfl

@[simp] theorem State.setTriggerCfg_dark (s : State) (x : Trigger) (v : TriggerCfg) : (s.setTriggerCfg x v).dark = s.dark := rfl

@[simp] theorem State.setTriggerCfg_seq (s : State) (x : Trigger) (v : TriggerCfg) : (s.setTriggerCfg x v).seq = s.seq := rfl

@[simp] theorem State.setTriggerCfg_ports (s : State) (x : Trigger) (v : TriggerCfg) : (s.setTriggerCfg x v).ports = s.ports := rfl

@[simp] theorem State.setTriggerCfg_lines (s : State) (x : Trigger) (v : TriggerCfg) : (s.setTriggerCfg x v).lines = s.lines := rfl

@[simp] theorem State.setTriggerCfg_shade (s : State) (x : Trigger) (v : TriggerCfg) : (s.setTriggerCfg x v).shade = s.shade := rfl

@[simp] theorem State.setTriggerCfg_trigger (s : State) (x : Trigger) (v : TriggerCfg) : (s.setTriggerCfg x v).trigger = s.trigger := rfl

@[simp] theorem State.setTriggerCfg_straps (s : State) (x : Trigger) (v : TriggerCfg) : (s.setTriggerCfg x v).straps = s.straps := rfl

@[simp] theorem State.setTriggerCfg_inFlight (s : State) (x : Trigger) (v : TriggerCfg) : (s.setTriggerCfg x v).inFlight = s.inFlight := rfl

@[simp] theorem State.setTriggerCfg_waiting (s : State) (x : Trigger) (v : TriggerCfg) : (s.setTriggerCfg x v).waiting = s.waiting := rfl

@[simp] theorem State.setTriggerCfg_pending (s : State) (x : Trigger) (v : TriggerCfg) : (s.setTriggerCfg x v).pending = s.pending := rfl

/-! ### `State.setTriggerLevel` -/

@[simp] theorem State.setTriggerLevel_phase (s : State) (x : Trigger) (v : Bool) : (s.setTriggerLevel x v).phase = s.phase := rfl

@[simp] theorem State.setTriggerLevel_awaiting (s : State) (x : Trigger) (v : Bool) : (s.setTriggerLevel x v).awaiting = s.awaiting := rfl

@[simp] theorem State.setTriggerLevel_ret (s : State) (x : Trigger) (v : Bool) : (s.setTriggerLevel x v).ret = s.ret := rfl

@[simp] theorem State.setTriggerLevel_latch (s : State) (x : Trigger) (v : Bool) : (s.setTriggerLevel x v).latch = s.latch := rfl

@[simp] theorem State.setTriggerLevel_checkCode (s : State) (x : Trigger) (v : Bool) : (s.setTriggerLevel x v).checkCode = s.checkCode := rfl

@[simp] theorem State.setTriggerLevel_acq (s : State) (x : Trigger) (v : Bool) : (s.setTriggerLevel x v).acq = s.acq := rfl

@[simp] theorem State.setTriggerLevel_trackers (s : State) (x : Trigger) (v : Bool) : (s.setTriggerLevel x v).trackers = s.trackers := rfl

@[simp] theorem State.setTriggerLevel_env (s : State) (x : Trigger) (v : Bool) : (s.setTriggerLevel x v).env = s.env := rfl

@[simp] theorem State.setTriggerLevel_light (s : State) (x : Trigger) (v : Bool) : (s.setTriggerLevel x v).light = s.light := rfl

@[simp] theorem State.setTriggerLevel_climate (s : State) (x : Trigger) (v : Bool) : (s.setTriggerLevel x v).climate = s.climate := rfl

@[simp] theorem State.setTriggerLevel_agg (s : State) (x : Trigger) (v : Bool) : (s.setTriggerLevel x v).agg = s.agg := rfl

@[simp] theorem State.setTriggerLevel_log (s : State) (x : Trigger) (v : Bool) : (s.setTriggerLevel x v).log = s.log := rfl

@[simp] theorem State.setTriggerLevel_dark (s : State) (x : Trigger) (v : Bool) : (s.setTriggerLevel x v).dark = s.dark := rfl

@[simp] theorem State.setTriggerLevel_seq (s : State) (x : Trigger) (v : Bool) : (s.setTriggerLevel x v).seq = s.seq := rfl

@[simp] theorem State.setTriggerLevel_ports (s : State) (x : Trigger) (v : Bool) : (s.setTriggerLevel x v).ports = s.ports := rfl

@[simp] theorem State.setTriggerLevel_lines (s : State) (x : Trigger) (v : Bool) : (s.setTriggerLevel x v).lines = s.lines := rfl

@[simp] theorem State.setTriggerLevel_shade (s : State) (x : Trigger) (v : Bool) : (s.setTriggerLevel x v).shade = s.shade := rfl

@[simp] theorem State.setTriggerLevel_trigger (s : State) (x : Trigger) (v : Bool) : (s.setTriggerLevel x v).trigger = s.trigger.set x v := rfl

@[simp] theorem State.setTriggerLevel_straps (s : State) (x : Trigger) (v : Bool) : (s.setTriggerLevel x v).straps = s.straps := rfl

@[simp] theorem State.setTriggerLevel_inFlight (s : State) (x : Trigger) (v : Bool) : (s.setTriggerLevel x v).inFlight = s.inFlight := rfl

@[simp] theorem State.setTriggerLevel_waiting (s : State) (x : Trigger) (v : Bool) : (s.setTriggerLevel x v).waiting = s.waiting := rfl

@[simp] theorem State.setTriggerLevel_pending (s : State) (x : Trigger) (v : Bool) : (s.setTriggerLevel x v).pending = s.pending := rfl

/-! ### `State.setSeq` -/

@[simp] theorem State.setSeq_phase (s : State) (v : Sequencer) : (s.setSeq v).phase = s.phase := rfl

@[simp] theorem State.setSeq_awaiting (s : State) (v : Sequencer) : (s.setSeq v).awaiting = s.awaiting := rfl

@[simp] theorem State.setSeq_ret (s : State) (v : Sequencer) : (s.setSeq v).ret = s.ret := rfl

@[simp] theorem State.setSeq_latch (s : State) (v : Sequencer) : (s.setSeq v).latch = s.latch := rfl

@[simp] theorem State.setSeq_checkCode (s : State) (v : Sequencer) : (s.setSeq v).checkCode = s.checkCode := rfl

@[simp] theorem State.setSeq_acq (s : State) (v : Sequencer) : (s.setSeq v).acq = s.acq := rfl

@[simp] theorem State.setSeq_trackers (s : State) (v : Sequencer) : (s.setSeq v).trackers = s.trackers := rfl

@[simp] theorem State.setSeq_env (s : State) (v : Sequencer) : (s.setSeq v).env = s.env := rfl

@[simp] theorem State.setSeq_light (s : State) (v : Sequencer) : (s.setSeq v).light = s.light := rfl

@[simp] theorem State.setSeq_climate (s : State) (v : Sequencer) : (s.setSeq v).climate = s.climate := rfl

@[simp] theorem State.setSeq_agg (s : State) (v : Sequencer) : (s.setSeq v).agg = s.agg := rfl

@[simp] theorem State.setSeq_log (s : State) (v : Sequencer) : (s.setSeq v).log = s.log := rfl

@[simp] theorem State.setSeq_dark (s : State) (v : Sequencer) : (s.setSeq v).dark = s.dark := rfl

@[simp] theorem State.setSeq_seq (s : State) (v : Sequencer) : (s.setSeq v).seq = v := rfl

@[simp] theorem State.setSeq_ports (s : State) (v : Sequencer) : (s.setSeq v).ports = s.ports := rfl

@[simp] theorem State.setSeq_lines (s : State) (v : Sequencer) : (s.setSeq v).lines = s.lines := rfl

@[simp] theorem State.setSeq_shade (s : State) (v : Sequencer) : (s.setSeq v).shade = s.shade := rfl

@[simp] theorem State.setSeq_trigger (s : State) (v : Sequencer) : (s.setSeq v).trigger = s.trigger := rfl

@[simp] theorem State.setSeq_straps (s : State) (v : Sequencer) : (s.setSeq v).straps = s.straps := rfl

@[simp] theorem State.setSeq_inFlight (s : State) (v : Sequencer) : (s.setSeq v).inFlight = s.inFlight := rfl

@[simp] theorem State.setSeq_waiting (s : State) (v : Sequencer) : (s.setSeq v).waiting = s.waiting := rfl

@[simp] theorem State.setSeq_pending (s : State) (v : Sequencer) : (s.setSeq v).pending = s.pending := rfl

/-! ### `State.setCheckResult` -/

@[simp] theorem State.setCheckResult_phase (s : State) (g : Gallery) (v : CheckResult) : (s.setCheckResult g v).phase = s.phase := rfl

@[simp] theorem State.setCheckResult_awaiting (s : State) (g : Gallery) (v : CheckResult) : (s.setCheckResult g v).awaiting = s.awaiting := rfl

@[simp] theorem State.setCheckResult_ret (s : State) (g : Gallery) (v : CheckResult) : (s.setCheckResult g v).ret = s.ret := rfl

@[simp] theorem State.setCheckResult_latch (s : State) (g : Gallery) (v : CheckResult) : (s.setCheckResult g v).latch = s.latch := rfl

@[simp] theorem State.setCheckResult_checkCode (s : State) (g : Gallery) (v : CheckResult) : (s.setCheckResult g v).checkCode = s.checkCode := rfl

@[simp] theorem State.setCheckResult_acq (s : State) (g : Gallery) (v : CheckResult) : (s.setCheckResult g v).acq = s.acq := rfl

@[simp] theorem State.setCheckResult_trackers (s : State) (g : Gallery) (v : CheckResult) : (s.setCheckResult g v).trackers = s.trackers := rfl

@[simp] theorem State.setCheckResult_env (s : State) (g : Gallery) (v : CheckResult) : (s.setCheckResult g v).env = s.env := rfl

@[simp] theorem State.setCheckResult_light (s : State) (g : Gallery) (v : CheckResult) : (s.setCheckResult g v).light = s.light := rfl

@[simp] theorem State.setCheckResult_climate (s : State) (g : Gallery) (v : CheckResult) : (s.setCheckResult g v).climate = s.climate := rfl

@[simp] theorem State.setCheckResult_agg (s : State) (g : Gallery) (v : CheckResult) : (s.setCheckResult g v).agg = s.agg := rfl

@[simp] theorem State.setCheckResult_log (s : State) (g : Gallery) (v : CheckResult) : (s.setCheckResult g v).log = s.log := rfl

@[simp] theorem State.setCheckResult_dark (s : State) (g : Gallery) (v : CheckResult) : (s.setCheckResult g v).dark = s.dark := rfl

@[simp] theorem State.setCheckResult_seq (s : State) (g : Gallery) (v : CheckResult) : (s.setCheckResult g v).seq = { s.seq with results := s.seq.results.set g v } := rfl

@[simp] theorem State.setCheckResult_ports (s : State) (g : Gallery) (v : CheckResult) : (s.setCheckResult g v).ports = s.ports := rfl

@[simp] theorem State.setCheckResult_lines (s : State) (g : Gallery) (v : CheckResult) : (s.setCheckResult g v).lines = s.lines := rfl

@[simp] theorem State.setCheckResult_shade (s : State) (g : Gallery) (v : CheckResult) : (s.setCheckResult g v).shade = s.shade := rfl

@[simp] theorem State.setCheckResult_trigger (s : State) (g : Gallery) (v : CheckResult) : (s.setCheckResult g v).trigger = s.trigger := rfl

@[simp] theorem State.setCheckResult_straps (s : State) (g : Gallery) (v : CheckResult) : (s.setCheckResult g v).straps = s.straps := rfl

@[simp] theorem State.setCheckResult_inFlight (s : State) (g : Gallery) (v : CheckResult) : (s.setCheckResult g v).inFlight = s.inFlight := rfl

@[simp] theorem State.setCheckResult_waiting (s : State) (g : Gallery) (v : CheckResult) : (s.setCheckResult g v).waiting = s.waiting := rfl

@[simp] theorem State.setCheckResult_pending (s : State) (g : Gallery) (v : CheckResult) : (s.setCheckResult g v).pending = s.pending := rfl

/-! ### `State.setSetup` -/

@[simp] theorem State.setSetup_phase (s : State) (v : CheckSetup) : (s.setSetup v).phase = s.phase := rfl

@[simp] theorem State.setSetup_awaiting (s : State) (v : CheckSetup) : (s.setSetup v).awaiting = s.awaiting := rfl

@[simp] theorem State.setSetup_ret (s : State) (v : CheckSetup) : (s.setSetup v).ret = { s.ret with setup := v } := rfl

@[simp] theorem State.setSetup_latch (s : State) (v : CheckSetup) : (s.setSetup v).latch = s.latch := rfl

@[simp] theorem State.setSetup_checkCode (s : State) (v : CheckSetup) : (s.setSetup v).checkCode = s.checkCode := rfl

@[simp] theorem State.setSetup_acq (s : State) (v : CheckSetup) : (s.setSetup v).acq = s.acq := rfl

@[simp] theorem State.setSetup_trackers (s : State) (v : CheckSetup) : (s.setSetup v).trackers = s.trackers := rfl

@[simp] theorem State.setSetup_env (s : State) (v : CheckSetup) : (s.setSetup v).env = s.env := rfl

@[simp] theorem State.setSetup_light (s : State) (v : CheckSetup) : (s.setSetup v).light = s.light := rfl

@[simp] theorem State.setSetup_climate (s : State) (v : CheckSetup) : (s.setSetup v).climate = s.climate := rfl

@[simp] theorem State.setSetup_agg (s : State) (v : CheckSetup) : (s.setSetup v).agg = s.agg := rfl

@[simp] theorem State.setSetup_log (s : State) (v : CheckSetup) : (s.setSetup v).log = s.log := rfl

@[simp] theorem State.setSetup_dark (s : State) (v : CheckSetup) : (s.setSetup v).dark = s.dark := rfl

@[simp] theorem State.setSetup_seq (s : State) (v : CheckSetup) : (s.setSetup v).seq = s.seq := rfl

@[simp] theorem State.setSetup_ports (s : State) (v : CheckSetup) : (s.setSetup v).ports = s.ports := rfl

@[simp] theorem State.setSetup_lines (s : State) (v : CheckSetup) : (s.setSetup v).lines = s.lines := rfl

@[simp] theorem State.setSetup_shade (s : State) (v : CheckSetup) : (s.setSetup v).shade = s.shade := rfl

@[simp] theorem State.setSetup_trigger (s : State) (v : CheckSetup) : (s.setSetup v).trigger = s.trigger := rfl

@[simp] theorem State.setSetup_straps (s : State) (v : CheckSetup) : (s.setSetup v).straps = s.straps := rfl

@[simp] theorem State.setSetup_inFlight (s : State) (v : CheckSetup) : (s.setSetup v).inFlight = s.inFlight := rfl

@[simp] theorem State.setSetup_waiting (s : State) (v : CheckSetup) : (s.setSetup v).waiting = s.waiting := rfl

@[simp] theorem State.setSetup_pending (s : State) (v : CheckSetup) : (s.setSetup v).pending = s.pending := rfl

/-! ### `State.setPort` -/

@[simp] theorem State.setPort_phase (s : State) (p : Port) (v : PortRec) : (s.setPort p v).phase = s.phase := rfl

@[simp] theorem State.setPort_awaiting (s : State) (p : Port) (v : PortRec) : (s.setPort p v).awaiting = s.awaiting := rfl

@[simp] theorem State.setPort_ret (s : State) (p : Port) (v : PortRec) : (s.setPort p v).ret = s.ret := rfl

@[simp] theorem State.setPort_latch (s : State) (p : Port) (v : PortRec) : (s.setPort p v).latch = s.latch := rfl

@[simp] theorem State.setPort_checkCode (s : State) (p : Port) (v : PortRec) : (s.setPort p v).checkCode = s.checkCode := rfl

@[simp] theorem State.setPort_acq (s : State) (p : Port) (v : PortRec) : (s.setPort p v).acq = s.acq := rfl

@[simp] theorem State.setPort_trackers (s : State) (p : Port) (v : PortRec) : (s.setPort p v).trackers = s.trackers := rfl

@[simp] theorem State.setPort_env (s : State) (p : Port) (v : PortRec) : (s.setPort p v).env = s.env := rfl

@[simp] theorem State.setPort_light (s : State) (p : Port) (v : PortRec) : (s.setPort p v).light = s.light := rfl

@[simp] theorem State.setPort_climate (s : State) (p : Port) (v : PortRec) : (s.setPort p v).climate = s.climate := rfl

@[simp] theorem State.setPort_agg (s : State) (p : Port) (v : PortRec) : (s.setPort p v).agg = s.agg := rfl

@[simp] theorem State.setPort_log (s : State) (p : Port) (v : PortRec) : (s.setPort p v).log = s.log := rfl

@[simp] theorem State.setPort_dark (s : State) (p : Port) (v : PortRec) : (s.setPort p v).dark = s.dark := rfl

@[simp] theorem State.setPort_seq (s : State) (p : Port) (v : PortRec) : (s.setPort p v).seq = s.seq := rfl

@[simp] theorem State.setPort_ports (s : State) (p : Port) (v : PortRec) : (s.setPort p v).ports = s.ports.set p v := rfl

@[simp] theorem State.setPort_lines (s : State) (p : Port) (v : PortRec) : (s.setPort p v).lines = s.lines := rfl

@[simp] theorem State.setPort_shade (s : State) (p : Port) (v : PortRec) : (s.setPort p v).shade = s.shade := rfl

@[simp] theorem State.setPort_trigger (s : State) (p : Port) (v : PortRec) : (s.setPort p v).trigger = s.trigger := rfl

@[simp] theorem State.setPort_straps (s : State) (p : Port) (v : PortRec) : (s.setPort p v).straps = s.straps := rfl

@[simp] theorem State.setPort_inFlight (s : State) (p : Port) (v : PortRec) : (s.setPort p v).inFlight = s.inFlight := rfl

@[simp] theorem State.setPort_waiting (s : State) (p : Port) (v : PortRec) : (s.setPort p v).waiting = s.waiting := rfl

@[simp] theorem State.setPort_pending (s : State) (p : Port) (v : PortRec) : (s.setPort p v).pending = s.pending := rfl

/-! ### `State.setLines` -/

@[simp] theorem State.setLines_phase (s : State) (p : Port) (v : PortLines) : (s.setLines p v).phase = s.phase := rfl

@[simp] theorem State.setLines_awaiting (s : State) (p : Port) (v : PortLines) : (s.setLines p v).awaiting = s.awaiting := rfl

@[simp] theorem State.setLines_ret (s : State) (p : Port) (v : PortLines) : (s.setLines p v).ret = s.ret := rfl

@[simp] theorem State.setLines_latch (s : State) (p : Port) (v : PortLines) : (s.setLines p v).latch = s.latch := rfl

@[simp] theorem State.setLines_checkCode (s : State) (p : Port) (v : PortLines) : (s.setLines p v).checkCode = s.checkCode := rfl

@[simp] theorem State.setLines_acq (s : State) (p : Port) (v : PortLines) : (s.setLines p v).acq = s.acq := rfl

@[simp] theorem State.setLines_trackers (s : State) (p : Port) (v : PortLines) : (s.setLines p v).trackers = s.trackers := rfl

@[simp] theorem State.setLines_env (s : State) (p : Port) (v : PortLines) : (s.setLines p v).env = s.env := rfl

@[simp] theorem State.setLines_light (s : State) (p : Port) (v : PortLines) : (s.setLines p v).light = s.light := rfl

@[simp] theorem State.setLines_climate (s : State) (p : Port) (v : PortLines) : (s.setLines p v).climate = s.climate := rfl

@[simp] theorem State.setLines_agg (s : State) (p : Port) (v : PortLines) : (s.setLines p v).agg = s.agg := rfl

@[simp] theorem State.setLines_log (s : State) (p : Port) (v : PortLines) : (s.setLines p v).log = s.log := rfl

@[simp] theorem State.setLines_dark (s : State) (p : Port) (v : PortLines) : (s.setLines p v).dark = s.dark := rfl

@[simp] theorem State.setLines_seq (s : State) (p : Port) (v : PortLines) : (s.setLines p v).seq = s.seq := rfl

@[simp] theorem State.setLines_ports (s : State) (p : Port) (v : PortLines) : (s.setLines p v).ports = s.ports := rfl

@[simp] theorem State.setLines_lines (s : State) (p : Port) (v : PortLines) : (s.setLines p v).lines = s.lines.set p v := rfl

@[simp] theorem State.setLines_shade (s : State) (p : Port) (v : PortLines) : (s.setLines p v).shade = s.shade := rfl

@[simp] theorem State.setLines_trigger (s : State) (p : Port) (v : PortLines) : (s.setLines p v).trigger = s.trigger := rfl

@[simp] theorem State.setLines_straps (s : State) (p : Port) (v : PortLines) : (s.setLines p v).straps = s.straps := rfl

@[simp] theorem State.setLines_inFlight (s : State) (p : Port) (v : PortLines) : (s.setLines p v).inFlight = s.inFlight := rfl

@[simp] theorem State.setLines_waiting (s : State) (p : Port) (v : PortLines) : (s.setLines p v).waiting = s.waiting := rfl

@[simp] theorem State.setLines_pending (s : State) (p : Port) (v : PortLines) : (s.setLines p v).pending = s.pending := rfl

/-! ### `State.setTimeout` -/

@[simp] theorem State.setTimeout_phase (s : State) (p : Port) (n : Nat) : (s.setTimeout p n).phase = s.phase := rfl

@[simp] theorem State.setTimeout_awaiting (s : State) (p : Port) (n : Nat) : (s.setTimeout p n).awaiting = s.awaiting := rfl

@[simp] theorem State.setTimeout_ret (s : State) (p : Port) (n : Nat) : (s.setTimeout p n).ret = { s.ret with timeouts := s.ret.timeouts.set p n } := rfl

@[simp] theorem State.setTimeout_latch (s : State) (p : Port) (n : Nat) : (s.setTimeout p n).latch = s.latch := rfl

@[simp] theorem State.setTimeout_checkCode (s : State) (p : Port) (n : Nat) : (s.setTimeout p n).checkCode = s.checkCode := rfl

@[simp] theorem State.setTimeout_acq (s : State) (p : Port) (n : Nat) : (s.setTimeout p n).acq = s.acq := rfl

@[simp] theorem State.setTimeout_trackers (s : State) (p : Port) (n : Nat) : (s.setTimeout p n).trackers = s.trackers := rfl

@[simp] theorem State.setTimeout_env (s : State) (p : Port) (n : Nat) : (s.setTimeout p n).env = s.env := rfl

@[simp] theorem State.setTimeout_light (s : State) (p : Port) (n : Nat) : (s.setTimeout p n).light = s.light := rfl

@[simp] theorem State.setTimeout_climate (s : State) (p : Port) (n : Nat) : (s.setTimeout p n).climate = s.climate := rfl

@[simp] theorem State.setTimeout_agg (s : State) (p : Port) (n : Nat) : (s.setTimeout p n).agg = s.agg := rfl

@[simp] theorem State.setTimeout_log (s : State) (p : Port) (n : Nat) : (s.setTimeout p n).log = s.log := rfl

@[simp] theorem State.setTimeout_dark (s : State) (p : Port) (n : Nat) : (s.setTimeout p n).dark = s.dark := rfl

@[simp] theorem State.setTimeout_seq (s : State) (p : Port) (n : Nat) : (s.setTimeout p n).seq = s.seq := rfl

@[simp] theorem State.setTimeout_ports (s : State) (p : Port) (n : Nat) : (s.setTimeout p n).ports = s.ports := rfl

@[simp] theorem State.setTimeout_lines (s : State) (p : Port) (n : Nat) : (s.setTimeout p n).lines = s.lines := rfl

@[simp] theorem State.setTimeout_shade (s : State) (p : Port) (n : Nat) : (s.setTimeout p n).shade = s.shade := rfl

@[simp] theorem State.setTimeout_trigger (s : State) (p : Port) (n : Nat) : (s.setTimeout p n).trigger = s.trigger := rfl

@[simp] theorem State.setTimeout_straps (s : State) (p : Port) (n : Nat) : (s.setTimeout p n).straps = s.straps := rfl

@[simp] theorem State.setTimeout_inFlight (s : State) (p : Port) (n : Nat) : (s.setTimeout p n).inFlight = s.inFlight := rfl

@[simp] theorem State.setTimeout_waiting (s : State) (p : Port) (n : Nat) : (s.setTimeout p n).waiting = s.waiting := rfl

@[simp] theorem State.setTimeout_pending (s : State) (p : Port) (n : Nat) : (s.setTimeout p n).pending = s.pending := rfl

/-! ### `State.send` -/

@[simp] theorem State.send_phase (s : State) (c : Instr) : (s.send c).phase = s.phase := rfl

@[simp] theorem State.send_awaiting (s : State) (c : Instr) : (s.send c).awaiting = s.awaiting := rfl

@[simp] theorem State.send_ret (s : State) (c : Instr) : (s.send c).ret = s.ret := rfl

@[simp] theorem State.send_latch (s : State) (c : Instr) : (s.send c).latch = s.latch := rfl

@[simp] theorem State.send_checkCode (s : State) (c : Instr) : (s.send c).checkCode = s.checkCode := rfl

@[simp] theorem State.send_acq (s : State) (c : Instr) : (s.send c).acq = s.acq := rfl

@[simp] theorem State.send_trackers (s : State) (c : Instr) : (s.send c).trackers = s.trackers := rfl

@[simp] theorem State.send_env (s : State) (c : Instr) : (s.send c).env = s.env := rfl

@[simp] theorem State.send_light (s : State) (c : Instr) : (s.send c).light = s.light := rfl

@[simp] theorem State.send_climate (s : State) (c : Instr) : (s.send c).climate = s.climate := rfl

@[simp] theorem State.send_agg (s : State) (c : Instr) : (s.send c).agg = s.agg := rfl

@[simp] theorem State.send_log (s : State) (c : Instr) : (s.send c).log = s.log := rfl

@[simp] theorem State.send_dark (s : State) (c : Instr) : (s.send c).dark = s.dark := rfl

@[simp] theorem State.send_seq (s : State) (c : Instr) : (s.send c).seq = s.seq := rfl

@[simp] theorem State.send_ports (s : State) (c : Instr) : (s.send c).ports = s.ports := rfl

@[simp] theorem State.send_lines (s : State) (c : Instr) : (s.send c).lines = s.lines := rfl

@[simp] theorem State.send_shade (s : State) (c : Instr) : (s.send c).shade = s.shade := rfl

@[simp] theorem State.send_trigger (s : State) (c : Instr) : (s.send c).trigger = s.trigger := rfl

@[simp] theorem State.send_straps (s : State) (c : Instr) : (s.send c).straps = s.straps := rfl

@[simp] theorem State.send_inFlight (s : State) (c : Instr) : (s.send c).inFlight = s.inFlight ++ [c] := rfl

@[simp] theorem State.send_waiting (s : State) (c : Instr) : (s.send c).waiting = s.waiting := rfl

@[simp] theorem State.send_pending (s : State) (c : Instr) : (s.send c).pending = s.pending := rfl

/-! ### `State.take` -/

@[simp] theorem State.take_phase (s : State) (c : Instr) : (s.take c).phase = s.phase := rfl

@[simp] theorem State.take_awaiting (s : State) (c : Instr) : (s.take c).awaiting = s.awaiting := rfl

@[simp] theorem State.take_ret (s : State) (c : Instr) : (s.take c).ret = s.ret := rfl

@[simp] theorem State.take_latch (s : State) (c : Instr) : (s.take c).latch = s.latch := rfl

@[simp] theorem State.take_checkCode (s : State) (c : Instr) : (s.take c).checkCode = s.checkCode := rfl

@[simp] theorem State.take_acq (s : State) (c : Instr) : (s.take c).acq = s.acq := rfl

@[simp] theorem State.take_trackers (s : State) (c : Instr) : (s.take c).trackers = s.trackers := rfl

@[simp] theorem State.take_env (s : State) (c : Instr) : (s.take c).env = s.env := rfl

@[simp] theorem State.take_light (s : State) (c : Instr) : (s.take c).light = s.light := rfl

@[simp] theorem State.take_climate (s : State) (c : Instr) : (s.take c).climate = s.climate := rfl

@[simp] theorem State.take_agg (s : State) (c : Instr) : (s.take c).agg = s.agg := rfl

@[simp] theorem State.take_log (s : State) (c : Instr) : (s.take c).log = s.log := rfl

@[simp] theorem State.take_dark (s : State) (c : Instr) : (s.take c).dark = s.dark := rfl

@[simp] theorem State.take_seq (s : State) (c : Instr) : (s.take c).seq = s.seq := rfl

@[simp] theorem State.take_ports (s : State) (c : Instr) : (s.take c).ports = s.ports := rfl

@[simp] theorem State.take_lines (s : State) (c : Instr) : (s.take c).lines = s.lines := rfl

@[simp] theorem State.take_shade (s : State) (c : Instr) : (s.take c).shade = s.shade := rfl

@[simp] theorem State.take_trigger (s : State) (c : Instr) : (s.take c).trigger = s.trigger := rfl

@[simp] theorem State.take_straps (s : State) (c : Instr) : (s.take c).straps = s.straps := rfl

@[simp] theorem State.take_inFlight (s : State) (c : Instr) : (s.take c).inFlight = s.inFlight.erase c := rfl

@[simp] theorem State.take_waiting (s : State) (c : Instr) : (s.take c).waiting = s.waiting := rfl

@[simp] theorem State.take_pending (s : State) (c : Instr) : (s.take c).pending = s.pending := rfl

/-! ### `State.seal` -/

@[simp] theorem State.seal_phase (s : State) : (s.seal).phase = s.phase := rfl

@[simp] theorem State.seal_awaiting (s : State) : (s.seal).awaiting = s.awaiting := rfl

@[simp] theorem State.seal_ret (s : State) : (s.seal).ret = s.ret := rfl

@[simp] theorem State.seal_latch (s : State) : (s.seal).latch = s.latch := rfl

@[simp] theorem State.seal_checkCode (s : State) : (s.seal).checkCode = Config.checkCodeOf s.ret := rfl

@[simp] theorem State.seal_acq (s : State) : (s.seal).acq = s.acq := rfl

@[simp] theorem State.seal_trackers (s : State) : (s.seal).trackers = s.trackers := rfl

@[simp] theorem State.seal_env (s : State) : (s.seal).env = s.env := rfl

@[simp] theorem State.seal_light (s : State) : (s.seal).light = s.light := rfl

@[simp] theorem State.seal_climate (s : State) : (s.seal).climate = s.climate := rfl

@[simp] theorem State.seal_agg (s : State) : (s.seal).agg = s.agg := rfl

@[simp] theorem State.seal_log (s : State) : (s.seal).log = s.log := rfl

@[simp] theorem State.seal_dark (s : State) : (s.seal).dark = s.dark := rfl

@[simp] theorem State.seal_seq (s : State) : (s.seal).seq = s.seq := rfl

@[simp] theorem State.seal_ports (s : State) : (s.seal).ports = s.ports := rfl

@[simp] theorem State.seal_lines (s : State) : (s.seal).lines = s.lines := rfl

@[simp] theorem State.seal_shade (s : State) : (s.seal).shade = s.shade := rfl

@[simp] theorem State.seal_trigger (s : State) : (s.seal).trigger = s.trigger := rfl

@[simp] theorem State.seal_straps (s : State) : (s.seal).straps = s.straps := rfl

@[simp] theorem State.seal_inFlight (s : State) : (s.seal).inFlight = s.inFlight := rfl

@[simp] theorem State.seal_waiting (s : State) : (s.seal).waiting = s.waiting := rfl

@[simp] theorem State.seal_pending (s : State) : (s.seal).pending = s.pending := rfl

/-! ### Reads through `State.cfg` -/

@[simp] theorem State.cfg_setCheckFault (s : State) (c : Chan) (v : Bool) (d : Chan) : (s.setCheckFault c v).cfg d = s.cfg d := rfl

@[simp] theorem State.cfg_setChan (s : State) (c : Chan) (v : ChanRec) (d : Chan) : (s.setChan c v).cfg d = s.cfg d := rfl

@[simp] theorem State.cfg_setCal (s : State) (v : Option CalContext) (d : Chan) : (s.setCal v).cfg d = s.cfg d := rfl

@[simp] theorem State.cfg_setFaulted (s : State) (g : Gallery) (n : Nat) (d : Chan) : (s.setFaulted g n).cfg d = s.cfg d := rfl

@[simp] theorem State.cfg_setTracker (s : State) (c : Chan) (v : Tracker) (d : Chan) : (s.setTracker c v).cfg d = s.cfg d := rfl

@[simp] theorem State.cfg_setClock (s : State) (v : Clock) (d : Chan) : (s.setClock v).cfg d = s.cfg d := rfl

@[simp] theorem State.cfg_setEnvRet (s : State) (g : Gallery) (v : EnvRetained) (d : Chan) : (s.setEnvRet g v).cfg d = s.cfg d := rfl

@[simp] theorem State.cfg_setEnvStaged (s : State) (g : Gallery) (v : EnvStaged) (d : Chan) : (s.setEnvStaged g v).cfg d = s.cfg d := rfl

@[simp] theorem State.cfg_setAccount (s : State) (g : Gallery) (v : Account) (d : Chan) : (s.setAccount g v).cfg d = s.cfg d := rfl

@[simp] theorem State.cfg_setLight (s : State) (g : Gallery) (v : LightRec) (d : Chan) : (s.setLight g v).cfg d = s.cfg d := rfl

@[simp] theorem State.cfg_setClimate (s : State) (g : Gallery) (v : ClimateRec) (d : Chan) : (s.setClimate g v).cfg d = s.cfg d := rfl

@[simp] theorem State.cfg_setHistory (s : State) (v : History) (d : Chan) : (s.setHistory v).cfg d = s.cfg d := rfl

@[simp] theorem State.cfg_setRing (s : State) (g : Gallery) (v : Ring) (d : Chan) : (s.setRing g v).cfg d = s.cfg d := rfl

@[simp] theorem State.cfg_setAggregates (s : State) (g : Gallery) (v : Aggregates) (d : Chan) : (s.setAggregates g v).cfg d = s.cfg d := rfl

@[simp] theorem State.cfg_setLogRet (s : State) (v : LogRetained) (d : Chan) : (s.setLogRet v).cfg d = s.cfg d := rfl

@[simp] theorem State.cfg_setActiveType (s : State) (g : Gallery) (t : ExcType) (v : Bool) (d : Chan) : (s.setActiveType g t v).cfg d = s.cfg d := rfl

@[simp] theorem State.cfg_setMarker (s : State) (v : Bool) (d : Chan) : (s.setMarker v).cfg d = s.cfg d := rfl

@[simp] theorem State.cfg_setDark (s : State) (g : Gallery) (v : DarkRec) (d : Chan) : (s.setDark g v).cfg d = s.cfg d := rfl

@[simp] theorem State.cfg_setSources (s : State) (g : Gallery) (v : SourceSet) (d : Chan) : (s.setSources g v).cfg d = s.cfg d := rfl

@[simp] theorem State.cfg_setShade (s : State) (g : Gallery) (v : Bool) (d : Chan) : (s.setShade g v).cfg d = s.cfg d := rfl

@[simp] theorem State.cfg_setTriggerCfg (s : State) (x : Trigger) (v : TriggerCfg) (d : Chan) : (s.setTriggerCfg x v).cfg d = s.cfg d := rfl

@[simp] theorem State.cfg_setTriggerLevel (s : State) (x : Trigger) (v : Bool) (d : Chan) : (s.setTriggerLevel x v).cfg d = s.cfg d := rfl

@[simp] theorem State.cfg_setSeq (s : State) (v : Sequencer) (d : Chan) : (s.setSeq v).cfg d = s.cfg d := rfl

@[simp] theorem State.cfg_setCheckResult (s : State) (g : Gallery) (v : CheckResult) (d : Chan) : (s.setCheckResult g v).cfg d = s.cfg d := rfl

@[simp] theorem State.cfg_setSetup (s : State) (v : CheckSetup) (d : Chan) : (s.setSetup v).cfg d = s.cfg d := rfl

@[simp] theorem State.cfg_setPort (s : State) (p : Port) (v : PortRec) (d : Chan) : (s.setPort p v).cfg d = s.cfg d := rfl

@[simp] theorem State.cfg_setLines (s : State) (p : Port) (v : PortLines) (d : Chan) : (s.setLines p v).cfg d = s.cfg d := rfl

@[simp] theorem State.cfg_setTimeout (s : State) (p : Port) (n : Nat) (d : Chan) : (s.setTimeout p n).cfg d = s.cfg d := rfl

@[simp] theorem State.cfg_send (s : State) (c : Instr) (d : Chan) : (s.send c).cfg d = s.cfg d := rfl

@[simp] theorem State.cfg_take (s : State) (c : Instr) (d : Chan) : (s.take c).cfg d = s.cfg d := rfl

@[simp] theorem State.cfg_seal (s : State) (d : Chan) : (s.seal).cfg d = s.cfg d := rfl

/-! ### Reads through `State.checkFault` -/

@[simp] theorem State.checkFault_setCfg (s : State) (c : Chan) (v : ChanCfg) (d : Chan) : (s.setCfg c v).checkFault d = s.checkFault d := rfl

@[simp] theorem State.checkFault_setChan (s : State) (c : Chan) (v : ChanRec) (d : Chan) : (s.setChan c v).checkFault d = s.checkFault d := rfl

@[simp] theorem State.checkFault_setCal (s : State) (v : Option CalContext) (d : Chan) : (s.setCal v).checkFault d = s.checkFault d := rfl

@[simp] theorem State.checkFault_setFaulted (s : State) (g : Gallery) (n : Nat) (d : Chan) : (s.setFaulted g n).checkFault d = s.checkFault d := rfl

@[simp] theorem State.checkFault_setTracker (s : State) (c : Chan) (v : Tracker) (d : Chan) : (s.setTracker c v).checkFault d = s.checkFault d := rfl

@[simp] theorem State.checkFault_setClock (s : State) (v : Clock) (d : Chan) : (s.setClock v).checkFault d = s.checkFault d := rfl

@[simp] theorem State.checkFault_setEnvRet (s : State) (g : Gallery) (v : EnvRetained) (d : Chan) : (s.setEnvRet g v).checkFault d = s.checkFault d := rfl

@[simp] theorem State.checkFault_setEnvStaged (s : State) (g : Gallery) (v : EnvStaged) (d : Chan) : (s.setEnvStaged g v).checkFault d = s.checkFault d := rfl

@[simp] theorem State.checkFault_setAccount (s : State) (g : Gallery) (v : Account) (d : Chan) : (s.setAccount g v).checkFault d = s.checkFault d := rfl

@[simp] theorem State.checkFault_setLight (s : State) (g : Gallery) (v : LightRec) (d : Chan) : (s.setLight g v).checkFault d = s.checkFault d := rfl

@[simp] theorem State.checkFault_setClimate (s : State) (g : Gallery) (v : ClimateRec) (d : Chan) : (s.setClimate g v).checkFault d = s.checkFault d := rfl

@[simp] theorem State.checkFault_setHistory (s : State) (v : History) (d : Chan) : (s.setHistory v).checkFault d = s.checkFault d := rfl

@[simp] theorem State.checkFault_setRing (s : State) (g : Gallery) (v : Ring) (d : Chan) : (s.setRing g v).checkFault d = s.checkFault d := rfl

@[simp] theorem State.checkFault_setAggregates (s : State) (g : Gallery) (v : Aggregates) (d : Chan) : (s.setAggregates g v).checkFault d = s.checkFault d := rfl

@[simp] theorem State.checkFault_setLogRet (s : State) (v : LogRetained) (d : Chan) : (s.setLogRet v).checkFault d = s.checkFault d := rfl

@[simp] theorem State.checkFault_setActiveType (s : State) (g : Gallery) (t : ExcType) (v : Bool) (d : Chan) : (s.setActiveType g t v).checkFault d = s.checkFault d := rfl

@[simp] theorem State.checkFault_setMarker (s : State) (v : Bool) (d : Chan) : (s.setMarker v).checkFault d = s.checkFault d := rfl

@[simp] theorem State.checkFault_setDark (s : State) (g : Gallery) (v : DarkRec) (d : Chan) : (s.setDark g v).checkFault d = s.checkFault d := rfl

@[simp] theorem State.checkFault_setSources (s : State) (g : Gallery) (v : SourceSet) (d : Chan) : (s.setSources g v).checkFault d = s.checkFault d := rfl

@[simp] theorem State.checkFault_setShade (s : State) (g : Gallery) (v : Bool) (d : Chan) : (s.setShade g v).checkFault d = s.checkFault d := rfl

@[simp] theorem State.checkFault_setTriggerCfg (s : State) (x : Trigger) (v : TriggerCfg) (d : Chan) : (s.setTriggerCfg x v).checkFault d = s.checkFault d := rfl

@[simp] theorem State.checkFault_setTriggerLevel (s : State) (x : Trigger) (v : Bool) (d : Chan) : (s.setTriggerLevel x v).checkFault d = s.checkFault d := rfl

@[simp] theorem State.checkFault_setSeq (s : State) (v : Sequencer) (d : Chan) : (s.setSeq v).checkFault d = s.checkFault d := rfl

@[simp] theorem State.checkFault_setCheckResult (s : State) (g : Gallery) (v : CheckResult) (d : Chan) : (s.setCheckResult g v).checkFault d = s.checkFault d := rfl

@[simp] theorem State.checkFault_setSetup (s : State) (v : CheckSetup) (d : Chan) : (s.setSetup v).checkFault d = s.checkFault d := rfl

@[simp] theorem State.checkFault_setPort (s : State) (p : Port) (v : PortRec) (d : Chan) : (s.setPort p v).checkFault d = s.checkFault d := rfl

@[simp] theorem State.checkFault_setLines (s : State) (p : Port) (v : PortLines) (d : Chan) : (s.setLines p v).checkFault d = s.checkFault d := rfl

@[simp] theorem State.checkFault_setTimeout (s : State) (p : Port) (n : Nat) (d : Chan) : (s.setTimeout p n).checkFault d = s.checkFault d := rfl

@[simp] theorem State.checkFault_send (s : State) (c : Instr) (d : Chan) : (s.send c).checkFault d = s.checkFault d := rfl

@[simp] theorem State.checkFault_take (s : State) (c : Instr) (d : Chan) : (s.take c).checkFault d = s.checkFault d := rfl

@[simp] theorem State.checkFault_seal (s : State) (d : Chan) : (s.seal).checkFault d = s.checkFault d := rfl

/-! ### Reads through `State.chan` -/

@[simp] theorem State.chan_setCfg (s : State) (c : Chan) (v : ChanCfg) (d : Chan) : (s.setCfg c v).chan d = s.chan d := rfl

@[simp] theorem State.chan_setCheckFault (s : State) (c : Chan) (v : Bool) (d : Chan) : (s.setCheckFault c v).chan d = s.chan d := rfl

@[simp] theorem State.chan_setCal (s : State) (v : Option CalContext) (d : Chan) : (s.setCal v).chan d = s.chan d := rfl

@[simp] theorem State.chan_setFaulted (s : State) (g : Gallery) (n : Nat) (d : Chan) : (s.setFaulted g n).chan d = s.chan d := rfl

@[simp] theorem State.chan_setTracker (s : State) (c : Chan) (v : Tracker) (d : Chan) : (s.setTracker c v).chan d = s.chan d := rfl

@[simp] theorem State.chan_setClock (s : State) (v : Clock) (d : Chan) : (s.setClock v).chan d = s.chan d := rfl

@[simp] theorem State.chan_setEnvRet (s : State) (g : Gallery) (v : EnvRetained) (d : Chan) : (s.setEnvRet g v).chan d = s.chan d := rfl

@[simp] theorem State.chan_setEnvStaged (s : State) (g : Gallery) (v : EnvStaged) (d : Chan) : (s.setEnvStaged g v).chan d = s.chan d := rfl

@[simp] theorem State.chan_setAccount (s : State) (g : Gallery) (v : Account) (d : Chan) : (s.setAccount g v).chan d = s.chan d := rfl

@[simp] theorem State.chan_setLight (s : State) (g : Gallery) (v : LightRec) (d : Chan) : (s.setLight g v).chan d = s.chan d := rfl

@[simp] theorem State.chan_setClimate (s : State) (g : Gallery) (v : ClimateRec) (d : Chan) : (s.setClimate g v).chan d = s.chan d := rfl

@[simp] theorem State.chan_setHistory (s : State) (v : History) (d : Chan) : (s.setHistory v).chan d = s.chan d := rfl

@[simp] theorem State.chan_setRing (s : State) (g : Gallery) (v : Ring) (d : Chan) : (s.setRing g v).chan d = s.chan d := rfl

@[simp] theorem State.chan_setAggregates (s : State) (g : Gallery) (v : Aggregates) (d : Chan) : (s.setAggregates g v).chan d = s.chan d := rfl

@[simp] theorem State.chan_setLogRet (s : State) (v : LogRetained) (d : Chan) : (s.setLogRet v).chan d = s.chan d := rfl

@[simp] theorem State.chan_setActiveType (s : State) (g : Gallery) (t : ExcType) (v : Bool) (d : Chan) : (s.setActiveType g t v).chan d = s.chan d := rfl

@[simp] theorem State.chan_setMarker (s : State) (v : Bool) (d : Chan) : (s.setMarker v).chan d = s.chan d := rfl

@[simp] theorem State.chan_setDark (s : State) (g : Gallery) (v : DarkRec) (d : Chan) : (s.setDark g v).chan d = s.chan d := rfl

@[simp] theorem State.chan_setSources (s : State) (g : Gallery) (v : SourceSet) (d : Chan) : (s.setSources g v).chan d = s.chan d := rfl

@[simp] theorem State.chan_setShade (s : State) (g : Gallery) (v : Bool) (d : Chan) : (s.setShade g v).chan d = s.chan d := rfl

@[simp] theorem State.chan_setTriggerCfg (s : State) (x : Trigger) (v : TriggerCfg) (d : Chan) : (s.setTriggerCfg x v).chan d = s.chan d := rfl

@[simp] theorem State.chan_setTriggerLevel (s : State) (x : Trigger) (v : Bool) (d : Chan) : (s.setTriggerLevel x v).chan d = s.chan d := rfl

@[simp] theorem State.chan_setSeq (s : State) (v : Sequencer) (d : Chan) : (s.setSeq v).chan d = s.chan d := rfl

@[simp] theorem State.chan_setCheckResult (s : State) (g : Gallery) (v : CheckResult) (d : Chan) : (s.setCheckResult g v).chan d = s.chan d := rfl

@[simp] theorem State.chan_setSetup (s : State) (v : CheckSetup) (d : Chan) : (s.setSetup v).chan d = s.chan d := rfl

@[simp] theorem State.chan_setPort (s : State) (p : Port) (v : PortRec) (d : Chan) : (s.setPort p v).chan d = s.chan d := rfl

@[simp] theorem State.chan_setLines (s : State) (p : Port) (v : PortLines) (d : Chan) : (s.setLines p v).chan d = s.chan d := rfl

@[simp] theorem State.chan_setTimeout (s : State) (p : Port) (n : Nat) (d : Chan) : (s.setTimeout p n).chan d = s.chan d := rfl

@[simp] theorem State.chan_send (s : State) (c : Instr) (d : Chan) : (s.send c).chan d = s.chan d := rfl

@[simp] theorem State.chan_take (s : State) (c : Instr) (d : Chan) : (s.take c).chan d = s.chan d := rfl

@[simp] theorem State.chan_seal (s : State) (d : Chan) : (s.seal).chan d = s.chan d := rfl

/-! ### Reads through `State.tracker` -/

@[simp] theorem State.tracker_setCfg (s : State) (c : Chan) (v : ChanCfg) (d : Chan) : (s.setCfg c v).tracker d = s.tracker d := rfl

@[simp] theorem State.tracker_setCheckFault (s : State) (c : Chan) (v : Bool) (d : Chan) : (s.setCheckFault c v).tracker d = s.tracker d := rfl

@[simp] theorem State.tracker_setChan (s : State) (c : Chan) (v : ChanRec) (d : Chan) : (s.setChan c v).tracker d = s.tracker d := rfl

@[simp] theorem State.tracker_setCal (s : State) (v : Option CalContext) (d : Chan) : (s.setCal v).tracker d = s.tracker d := rfl

@[simp] theorem State.tracker_setFaulted (s : State) (g : Gallery) (n : Nat) (d : Chan) : (s.setFaulted g n).tracker d = s.tracker d := rfl

@[simp] theorem State.tracker_setClock (s : State) (v : Clock) (d : Chan) : (s.setClock v).tracker d = s.tracker d := rfl

@[simp] theorem State.tracker_setEnvRet (s : State) (g : Gallery) (v : EnvRetained) (d : Chan) : (s.setEnvRet g v).tracker d = s.tracker d := rfl

@[simp] theorem State.tracker_setEnvStaged (s : State) (g : Gallery) (v : EnvStaged) (d : Chan) : (s.setEnvStaged g v).tracker d = s.tracker d := rfl

@[simp] theorem State.tracker_setAccount (s : State) (g : Gallery) (v : Account) (d : Chan) : (s.setAccount g v).tracker d = s.tracker d := rfl

@[simp] theorem State.tracker_setLight (s : State) (g : Gallery) (v : LightRec) (d : Chan) : (s.setLight g v).tracker d = s.tracker d := rfl

@[simp] theorem State.tracker_setClimate (s : State) (g : Gallery) (v : ClimateRec) (d : Chan) : (s.setClimate g v).tracker d = s.tracker d := rfl

@[simp] theorem State.tracker_setHistory (s : State) (v : History) (d : Chan) : (s.setHistory v).tracker d = s.tracker d := rfl

@[simp] theorem State.tracker_setRing (s : State) (g : Gallery) (v : Ring) (d : Chan) : (s.setRing g v).tracker d = s.tracker d := rfl

@[simp] theorem State.tracker_setAggregates (s : State) (g : Gallery) (v : Aggregates) (d : Chan) : (s.setAggregates g v).tracker d = s.tracker d := rfl

@[simp] theorem State.tracker_setLogRet (s : State) (v : LogRetained) (d : Chan) : (s.setLogRet v).tracker d = s.tracker d := rfl

@[simp] theorem State.tracker_setActiveType (s : State) (g : Gallery) (t : ExcType) (v : Bool) (d : Chan) : (s.setActiveType g t v).tracker d = s.tracker d := rfl

@[simp] theorem State.tracker_setMarker (s : State) (v : Bool) (d : Chan) : (s.setMarker v).tracker d = s.tracker d := rfl

@[simp] theorem State.tracker_setDark (s : State) (g : Gallery) (v : DarkRec) (d : Chan) : (s.setDark g v).tracker d = s.tracker d := rfl

@[simp] theorem State.tracker_setSources (s : State) (g : Gallery) (v : SourceSet) (d : Chan) : (s.setSources g v).tracker d = s.tracker d := rfl

@[simp] theorem State.tracker_setShade (s : State) (g : Gallery) (v : Bool) (d : Chan) : (s.setShade g v).tracker d = s.tracker d := rfl

@[simp] theorem State.tracker_setTriggerCfg (s : State) (x : Trigger) (v : TriggerCfg) (d : Chan) : (s.setTriggerCfg x v).tracker d = s.tracker d := rfl

@[simp] theorem State.tracker_setTriggerLevel (s : State) (x : Trigger) (v : Bool) (d : Chan) : (s.setTriggerLevel x v).tracker d = s.tracker d := rfl

@[simp] theorem State.tracker_setSeq (s : State) (v : Sequencer) (d : Chan) : (s.setSeq v).tracker d = s.tracker d := rfl

@[simp] theorem State.tracker_setCheckResult (s : State) (g : Gallery) (v : CheckResult) (d : Chan) : (s.setCheckResult g v).tracker d = s.tracker d := rfl

@[simp] theorem State.tracker_setSetup (s : State) (v : CheckSetup) (d : Chan) : (s.setSetup v).tracker d = s.tracker d := rfl

@[simp] theorem State.tracker_setPort (s : State) (p : Port) (v : PortRec) (d : Chan) : (s.setPort p v).tracker d = s.tracker d := rfl

@[simp] theorem State.tracker_setLines (s : State) (p : Port) (v : PortLines) (d : Chan) : (s.setLines p v).tracker d = s.tracker d := rfl

@[simp] theorem State.tracker_setTimeout (s : State) (p : Port) (n : Nat) (d : Chan) : (s.setTimeout p n).tracker d = s.tracker d := rfl

@[simp] theorem State.tracker_send (s : State) (c : Instr) (d : Chan) : (s.send c).tracker d = s.tracker d := rfl

@[simp] theorem State.tracker_take (s : State) (c : Instr) (d : Chan) : (s.take c).tracker d = s.tracker d := rfl

@[simp] theorem State.tracker_seal (s : State) (d : Chan) : (s.seal).tracker d = s.tracker d := rfl

/-! ### Reads through `State.clock` -/

@[simp] theorem State.clock_setCfg (s : State) (c : Chan) (v : ChanCfg) : (s.setCfg c v).clock = s.clock := rfl

@[simp] theorem State.clock_setCheckFault (s : State) (c : Chan) (v : Bool) : (s.setCheckFault c v).clock = s.clock := rfl

@[simp] theorem State.clock_setChan (s : State) (c : Chan) (v : ChanRec) : (s.setChan c v).clock = s.clock := rfl

@[simp] theorem State.clock_setCal (s : State) (v : Option CalContext) : (s.setCal v).clock = s.clock := rfl

@[simp] theorem State.clock_setFaulted (s : State) (g : Gallery) (n : Nat) : (s.setFaulted g n).clock = s.clock := rfl

@[simp] theorem State.clock_setTracker (s : State) (c : Chan) (v : Tracker) : (s.setTracker c v).clock = s.clock := rfl

@[simp] theorem State.clock_setEnvRet (s : State) (g : Gallery) (v : EnvRetained) : (s.setEnvRet g v).clock = s.clock := rfl

@[simp] theorem State.clock_setEnvStaged (s : State) (g : Gallery) (v : EnvStaged) : (s.setEnvStaged g v).clock = s.clock := rfl

@[simp] theorem State.clock_setAccount (s : State) (g : Gallery) (v : Account) : (s.setAccount g v).clock = s.clock := rfl

@[simp] theorem State.clock_setLight (s : State) (g : Gallery) (v : LightRec) : (s.setLight g v).clock = s.clock := rfl

@[simp] theorem State.clock_setClimate (s : State) (g : Gallery) (v : ClimateRec) : (s.setClimate g v).clock = s.clock := rfl

@[simp] theorem State.clock_setHistory (s : State) (v : History) : (s.setHistory v).clock = s.clock := rfl

@[simp] theorem State.clock_setRing (s : State) (g : Gallery) (v : Ring) : (s.setRing g v).clock = s.clock := rfl

@[simp] theorem State.clock_setAggregates (s : State) (g : Gallery) (v : Aggregates) : (s.setAggregates g v).clock = s.clock := rfl

@[simp] theorem State.clock_setLogRet (s : State) (v : LogRetained) : (s.setLogRet v).clock = s.clock := rfl

@[simp] theorem State.clock_setActiveType (s : State) (g : Gallery) (t : ExcType) (v : Bool) : (s.setActiveType g t v).clock = s.clock := rfl

@[simp] theorem State.clock_setMarker (s : State) (v : Bool) : (s.setMarker v).clock = s.clock := rfl

@[simp] theorem State.clock_setDark (s : State) (g : Gallery) (v : DarkRec) : (s.setDark g v).clock = s.clock := rfl

@[simp] theorem State.clock_setSources (s : State) (g : Gallery) (v : SourceSet) : (s.setSources g v).clock = s.clock := rfl

@[simp] theorem State.clock_setShade (s : State) (g : Gallery) (v : Bool) : (s.setShade g v).clock = s.clock := rfl

@[simp] theorem State.clock_setTriggerCfg (s : State) (x : Trigger) (v : TriggerCfg) : (s.setTriggerCfg x v).clock = s.clock := rfl

@[simp] theorem State.clock_setTriggerLevel (s : State) (x : Trigger) (v : Bool) : (s.setTriggerLevel x v).clock = s.clock := rfl

@[simp] theorem State.clock_setSeq (s : State) (v : Sequencer) : (s.setSeq v).clock = s.clock := rfl

@[simp] theorem State.clock_setCheckResult (s : State) (g : Gallery) (v : CheckResult) : (s.setCheckResult g v).clock = s.clock := rfl

@[simp] theorem State.clock_setSetup (s : State) (v : CheckSetup) : (s.setSetup v).clock = s.clock := rfl

@[simp] theorem State.clock_setPort (s : State) (p : Port) (v : PortRec) : (s.setPort p v).clock = s.clock := rfl

@[simp] theorem State.clock_setLines (s : State) (p : Port) (v : PortLines) : (s.setLines p v).clock = s.clock := rfl

@[simp] theorem State.clock_setTimeout (s : State) (p : Port) (n : Nat) : (s.setTimeout p n).clock = s.clock := rfl

@[simp] theorem State.clock_send (s : State) (c : Instr) : (s.send c).clock = s.clock := rfl

@[simp] theorem State.clock_take (s : State) (c : Instr) : (s.take c).clock = s.clock := rfl

@[simp] theorem State.clock_seal (s : State) : (s.seal).clock = s.clock := rfl

/-! ### Reads through `State.active` -/

@[simp] theorem State.active_setCfg (s : State) (c : Chan) (v : ChanCfg) (h : Gallery) : (s.setCfg c v).active h = s.active h := rfl

@[simp] theorem State.active_setCheckFault (s : State) (c : Chan) (v : Bool) (h : Gallery) : (s.setCheckFault c v).active h = s.active h := rfl

@[simp] theorem State.active_setChan (s : State) (c : Chan) (v : ChanRec) (h : Gallery) : (s.setChan c v).active h = s.active h := rfl

@[simp] theorem State.active_setCal (s : State) (v : Option CalContext) (h : Gallery) : (s.setCal v).active h = s.active h := rfl

@[simp] theorem State.active_setFaulted (s : State) (g : Gallery) (n : Nat) (h : Gallery) : (s.setFaulted g n).active h = s.active h := rfl

@[simp] theorem State.active_setTracker (s : State) (c : Chan) (v : Tracker) (h : Gallery) : (s.setTracker c v).active h = s.active h := rfl

@[simp] theorem State.active_setClock (s : State) (v : Clock) (h : Gallery) : (s.setClock v).active h = s.active h := rfl

@[simp] theorem State.active_setEnvStaged (s : State) (g : Gallery) (v : EnvStaged) (h : Gallery) : (s.setEnvStaged g v).active h = s.active h := rfl

@[simp] theorem State.active_setAccount (s : State) (g : Gallery) (v : Account) (h : Gallery) : (s.setAccount g v).active h = s.active h := rfl

@[simp] theorem State.active_setLight (s : State) (g : Gallery) (v : LightRec) (h : Gallery) : (s.setLight g v).active h = s.active h := rfl

@[simp] theorem State.active_setClimate (s : State) (g : Gallery) (v : ClimateRec) (h : Gallery) : (s.setClimate g v).active h = s.active h := rfl

@[simp] theorem State.active_setHistory (s : State) (v : History) (h : Gallery) : (s.setHistory v).active h = s.active h := rfl

@[simp] theorem State.active_setRing (s : State) (g : Gallery) (v : Ring) (h : Gallery) : (s.setRing g v).active h = s.active h := rfl

@[simp] theorem State.active_setAggregates (s : State) (g : Gallery) (v : Aggregates) (h : Gallery) : (s.setAggregates g v).active h = s.active h := rfl

@[simp] theorem State.active_setLogRet (s : State) (v : LogRetained) (h : Gallery) : (s.setLogRet v).active h = s.active h := rfl

@[simp] theorem State.active_setActiveType (s : State) (g : Gallery) (t : ExcType) (v : Bool) (h : Gallery) : (s.setActiveType g t v).active h = s.active h := rfl

@[simp] theorem State.active_setMarker (s : State) (v : Bool) (h : Gallery) : (s.setMarker v).active h = s.active h := rfl

@[simp] theorem State.active_setDark (s : State) (g : Gallery) (v : DarkRec) (h : Gallery) : (s.setDark g v).active h = s.active h := rfl

@[simp] theorem State.active_setSources (s : State) (g : Gallery) (v : SourceSet) (h : Gallery) : (s.setSources g v).active h = s.active h := rfl

@[simp] theorem State.active_setShade (s : State) (g : Gallery) (v : Bool) (h : Gallery) : (s.setShade g v).active h = s.active h := rfl

@[simp] theorem State.active_setTriggerCfg (s : State) (x : Trigger) (v : TriggerCfg) (h : Gallery) : (s.setTriggerCfg x v).active h = s.active h := rfl

@[simp] theorem State.active_setTriggerLevel (s : State) (x : Trigger) (v : Bool) (h : Gallery) : (s.setTriggerLevel x v).active h = s.active h := rfl

@[simp] theorem State.active_setSeq (s : State) (v : Sequencer) (h : Gallery) : (s.setSeq v).active h = s.active h := rfl

@[simp] theorem State.active_setCheckResult (s : State) (g : Gallery) (v : CheckResult) (h : Gallery) : (s.setCheckResult g v).active h = s.active h := rfl

@[simp] theorem State.active_setSetup (s : State) (v : CheckSetup) (h : Gallery) : (s.setSetup v).active h = s.active h := rfl

@[simp] theorem State.active_setPort (s : State) (p : Port) (v : PortRec) (h : Gallery) : (s.setPort p v).active h = s.active h := rfl

@[simp] theorem State.active_setLines (s : State) (p : Port) (v : PortLines) (h : Gallery) : (s.setLines p v).active h = s.active h := rfl

@[simp] theorem State.active_setTimeout (s : State) (p : Port) (n : Nat) (h : Gallery) : (s.setTimeout p n).active h = s.active h := rfl

@[simp] theorem State.active_send (s : State) (c : Instr) (h : Gallery) : (s.send c).active h = s.active h := rfl

@[simp] theorem State.active_take (s : State) (c : Instr) (h : Gallery) : (s.take c).active h = s.active h := rfl

@[simp] theorem State.active_seal (s : State) (h : Gallery) : (s.seal).active h = s.active h := rfl

/-! ### Reads through `State.loanLock` -/

@[simp] theorem State.loanLock_setCfg (s : State) (c : Chan) (v : ChanCfg) (h : Gallery) : (s.setCfg c v).loanLock h = s.loanLock h := rfl

@[simp] theorem State.loanLock_setCheckFault (s : State) (c : Chan) (v : Bool) (h : Gallery) : (s.setCheckFault c v).loanLock h = s.loanLock h := rfl

@[simp] theorem State.loanLock_setChan (s : State) (c : Chan) (v : ChanRec) (h : Gallery) : (s.setChan c v).loanLock h = s.loanLock h := rfl

@[simp] theorem State.loanLock_setCal (s : State) (v : Option CalContext) (h : Gallery) : (s.setCal v).loanLock h = s.loanLock h := rfl

@[simp] theorem State.loanLock_setFaulted (s : State) (g : Gallery) (n : Nat) (h : Gallery) : (s.setFaulted g n).loanLock h = s.loanLock h := rfl

@[simp] theorem State.loanLock_setTracker (s : State) (c : Chan) (v : Tracker) (h : Gallery) : (s.setTracker c v).loanLock h = s.loanLock h := rfl

@[simp] theorem State.loanLock_setClock (s : State) (v : Clock) (h : Gallery) : (s.setClock v).loanLock h = s.loanLock h := rfl

@[simp] theorem State.loanLock_setEnvStaged (s : State) (g : Gallery) (v : EnvStaged) (h : Gallery) : (s.setEnvStaged g v).loanLock h = s.loanLock h := rfl

@[simp] theorem State.loanLock_setAccount (s : State) (g : Gallery) (v : Account) (h : Gallery) : (s.setAccount g v).loanLock h = s.loanLock h := rfl

@[simp] theorem State.loanLock_setLight (s : State) (g : Gallery) (v : LightRec) (h : Gallery) : (s.setLight g v).loanLock h = s.loanLock h := rfl

@[simp] theorem State.loanLock_setClimate (s : State) (g : Gallery) (v : ClimateRec) (h : Gallery) : (s.setClimate g v).loanLock h = s.loanLock h := rfl

@[simp] theorem State.loanLock_setHistory (s : State) (v : History) (h : Gallery) : (s.setHistory v).loanLock h = s.loanLock h := rfl

@[simp] theorem State.loanLock_setRing (s : State) (g : Gallery) (v : Ring) (h : Gallery) : (s.setRing g v).loanLock h = s.loanLock h := rfl

@[simp] theorem State.loanLock_setAggregates (s : State) (g : Gallery) (v : Aggregates) (h : Gallery) : (s.setAggregates g v).loanLock h = s.loanLock h := rfl

@[simp] theorem State.loanLock_setLogRet (s : State) (v : LogRetained) (h : Gallery) : (s.setLogRet v).loanLock h = s.loanLock h := rfl

@[simp] theorem State.loanLock_setActiveType (s : State) (g : Gallery) (t : ExcType) (v : Bool) (h : Gallery) : (s.setActiveType g t v).loanLock h = s.loanLock h := rfl

@[simp] theorem State.loanLock_setMarker (s : State) (v : Bool) (h : Gallery) : (s.setMarker v).loanLock h = s.loanLock h := rfl

@[simp] theorem State.loanLock_setDark (s : State) (g : Gallery) (v : DarkRec) (h : Gallery) : (s.setDark g v).loanLock h = s.loanLock h := rfl

@[simp] theorem State.loanLock_setSources (s : State) (g : Gallery) (v : SourceSet) (h : Gallery) : (s.setSources g v).loanLock h = s.loanLock h := rfl

@[simp] theorem State.loanLock_setShade (s : State) (g : Gallery) (v : Bool) (h : Gallery) : (s.setShade g v).loanLock h = s.loanLock h := rfl

@[simp] theorem State.loanLock_setTriggerCfg (s : State) (x : Trigger) (v : TriggerCfg) (h : Gallery) : (s.setTriggerCfg x v).loanLock h = s.loanLock h := rfl

@[simp] theorem State.loanLock_setTriggerLevel (s : State) (x : Trigger) (v : Bool) (h : Gallery) : (s.setTriggerLevel x v).loanLock h = s.loanLock h := rfl

@[simp] theorem State.loanLock_setSeq (s : State) (v : Sequencer) (h : Gallery) : (s.setSeq v).loanLock h = s.loanLock h := rfl

@[simp] theorem State.loanLock_setCheckResult (s : State) (g : Gallery) (v : CheckResult) (h : Gallery) : (s.setCheckResult g v).loanLock h = s.loanLock h := rfl

@[simp] theorem State.loanLock_setSetup (s : State) (v : CheckSetup) (h : Gallery) : (s.setSetup v).loanLock h = s.loanLock h := rfl

@[simp] theorem State.loanLock_setPort (s : State) (p : Port) (v : PortRec) (h : Gallery) : (s.setPort p v).loanLock h = s.loanLock h := rfl

@[simp] theorem State.loanLock_setLines (s : State) (p : Port) (v : PortLines) (h : Gallery) : (s.setLines p v).loanLock h = s.loanLock h := rfl

@[simp] theorem State.loanLock_setTimeout (s : State) (p : Port) (n : Nat) (h : Gallery) : (s.setTimeout p n).loanLock h = s.loanLock h := rfl

@[simp] theorem State.loanLock_send (s : State) (c : Instr) (h : Gallery) : (s.send c).loanLock h = s.loanLock h := rfl

@[simp] theorem State.loanLock_take (s : State) (c : Instr) (h : Gallery) : (s.take c).loanLock h = s.loanLock h := rfl

@[simp] theorem State.loanLock_seal (s : State) (h : Gallery) : (s.seal).loanLock h = s.loanLock h := rfl

/-! ### Reads through `State.envStaged` -/

@[simp] theorem State.envStaged_setCfg (s : State) (c : Chan) (v : ChanCfg) (h : Gallery) : (s.setCfg c v).envStaged h = s.envStaged h := rfl

@[simp] theorem State.envStaged_setCheckFault (s : State) (c : Chan) (v : Bool) (h : Gallery) : (s.setCheckFault c v).envStaged h = s.envStaged h := rfl

@[simp] theorem State.envStaged_setChan (s : State) (c : Chan) (v : ChanRec) (h : Gallery) : (s.setChan c v).envStaged h = s.envStaged h := rfl

@[simp] theorem State.envStaged_setCal (s : State) (v : Option CalContext) (h : Gallery) : (s.setCal v).envStaged h = s.envStaged h := rfl

@[simp] theorem State.envStaged_setFaulted (s : State) (g : Gallery) (n : Nat) (h : Gallery) : (s.setFaulted g n).envStaged h = s.envStaged h := rfl

@[simp] theorem State.envStaged_setTracker (s : State) (c : Chan) (v : Tracker) (h : Gallery) : (s.setTracker c v).envStaged h = s.envStaged h := rfl

@[simp] theorem State.envStaged_setClock (s : State) (v : Clock) (h : Gallery) : (s.setClock v).envStaged h = s.envStaged h := rfl

@[simp] theorem State.envStaged_setEnvRet (s : State) (g : Gallery) (v : EnvRetained) (h : Gallery) : (s.setEnvRet g v).envStaged h = s.envStaged h := rfl

@[simp] theorem State.envStaged_setAccount (s : State) (g : Gallery) (v : Account) (h : Gallery) : (s.setAccount g v).envStaged h = s.envStaged h := rfl

@[simp] theorem State.envStaged_setLight (s : State) (g : Gallery) (v : LightRec) (h : Gallery) : (s.setLight g v).envStaged h = s.envStaged h := rfl

@[simp] theorem State.envStaged_setClimate (s : State) (g : Gallery) (v : ClimateRec) (h : Gallery) : (s.setClimate g v).envStaged h = s.envStaged h := rfl

@[simp] theorem State.envStaged_setHistory (s : State) (v : History) (h : Gallery) : (s.setHistory v).envStaged h = s.envStaged h := rfl

@[simp] theorem State.envStaged_setRing (s : State) (g : Gallery) (v : Ring) (h : Gallery) : (s.setRing g v).envStaged h = s.envStaged h := rfl

@[simp] theorem State.envStaged_setAggregates (s : State) (g : Gallery) (v : Aggregates) (h : Gallery) : (s.setAggregates g v).envStaged h = s.envStaged h := rfl

@[simp] theorem State.envStaged_setLogRet (s : State) (v : LogRetained) (h : Gallery) : (s.setLogRet v).envStaged h = s.envStaged h := rfl

@[simp] theorem State.envStaged_setActiveType (s : State) (g : Gallery) (t : ExcType) (v : Bool) (h : Gallery) : (s.setActiveType g t v).envStaged h = s.envStaged h := rfl

@[simp] theorem State.envStaged_setMarker (s : State) (v : Bool) (h : Gallery) : (s.setMarker v).envStaged h = s.envStaged h := rfl

@[simp] theorem State.envStaged_setDark (s : State) (g : Gallery) (v : DarkRec) (h : Gallery) : (s.setDark g v).envStaged h = s.envStaged h := rfl

@[simp] theorem State.envStaged_setSources (s : State) (g : Gallery) (v : SourceSet) (h : Gallery) : (s.setSources g v).envStaged h = s.envStaged h := rfl

@[simp] theorem State.envStaged_setShade (s : State) (g : Gallery) (v : Bool) (h : Gallery) : (s.setShade g v).envStaged h = s.envStaged h := rfl

@[simp] theorem State.envStaged_setTriggerCfg (s : State) (x : Trigger) (v : TriggerCfg) (h : Gallery) : (s.setTriggerCfg x v).envStaged h = s.envStaged h := rfl

@[simp] theorem State.envStaged_setTriggerLevel (s : State) (x : Trigger) (v : Bool) (h : Gallery) : (s.setTriggerLevel x v).envStaged h = s.envStaged h := rfl

@[simp] theorem State.envStaged_setSeq (s : State) (v : Sequencer) (h : Gallery) : (s.setSeq v).envStaged h = s.envStaged h := rfl

@[simp] theorem State.envStaged_setCheckResult (s : State) (g : Gallery) (v : CheckResult) (h : Gallery) : (s.setCheckResult g v).envStaged h = s.envStaged h := rfl

@[simp] theorem State.envStaged_setSetup (s : State) (v : CheckSetup) (h : Gallery) : (s.setSetup v).envStaged h = s.envStaged h := rfl

@[simp] theorem State.envStaged_setPort (s : State) (p : Port) (v : PortRec) (h : Gallery) : (s.setPort p v).envStaged h = s.envStaged h := rfl

@[simp] theorem State.envStaged_setLines (s : State) (p : Port) (v : PortLines) (h : Gallery) : (s.setLines p v).envStaged h = s.envStaged h := rfl

@[simp] theorem State.envStaged_setTimeout (s : State) (p : Port) (n : Nat) (h : Gallery) : (s.setTimeout p n).envStaged h = s.envStaged h := rfl

@[simp] theorem State.envStaged_send (s : State) (c : Instr) (h : Gallery) : (s.send c).envStaged h = s.envStaged h := rfl

@[simp] theorem State.envStaged_take (s : State) (c : Instr) (h : Gallery) : (s.take c).envStaged h = s.envStaged h := rfl

@[simp] theorem State.envStaged_seal (s : State) (h : Gallery) : (s.seal).envStaged h = s.envStaged h := rfl

/-! ### Reads through `State.account` -/

@[simp] theorem State.account_setCfg (s : State) (c : Chan) (v : ChanCfg) (h : Gallery) : (s.setCfg c v).account h = s.account h := rfl

@[simp] theorem State.account_setCheckFault (s : State) (c : Chan) (v : Bool) (h : Gallery) : (s.setCheckFault c v).account h = s.account h := rfl

@[simp] theorem State.account_setChan (s : State) (c : Chan) (v : ChanRec) (h : Gallery) : (s.setChan c v).account h = s.account h := rfl

@[simp] theorem State.account_setCal (s : State) (v : Option CalContext) (h : Gallery) : (s.setCal v).account h = s.account h := rfl

@[simp] theorem State.account_setFaulted (s : State) (g : Gallery) (n : Nat) (h : Gallery) : (s.setFaulted g n).account h = s.account h := rfl

@[simp] theorem State.account_setTracker (s : State) (c : Chan) (v : Tracker) (h : Gallery) : (s.setTracker c v).account h = s.account h := rfl

@[simp] theorem State.account_setClock (s : State) (v : Clock) (h : Gallery) : (s.setClock v).account h = s.account h := rfl

@[simp] theorem State.account_setEnvRet (s : State) (g : Gallery) (v : EnvRetained) (h : Gallery) : (s.setEnvRet g v).account h = s.account h := rfl

@[simp] theorem State.account_setEnvStaged (s : State) (g : Gallery) (v : EnvStaged) (h : Gallery) : (s.setEnvStaged g v).account h = s.account h := rfl

@[simp] theorem State.account_setLight (s : State) (g : Gallery) (v : LightRec) (h : Gallery) : (s.setLight g v).account h = s.account h := rfl

@[simp] theorem State.account_setClimate (s : State) (g : Gallery) (v : ClimateRec) (h : Gallery) : (s.setClimate g v).account h = s.account h := rfl

@[simp] theorem State.account_setHistory (s : State) (v : History) (h : Gallery) : (s.setHistory v).account h = s.account h := rfl

@[simp] theorem State.account_setRing (s : State) (g : Gallery) (v : Ring) (h : Gallery) : (s.setRing g v).account h = s.account h := rfl

@[simp] theorem State.account_setAggregates (s : State) (g : Gallery) (v : Aggregates) (h : Gallery) : (s.setAggregates g v).account h = s.account h := rfl

@[simp] theorem State.account_setLogRet (s : State) (v : LogRetained) (h : Gallery) : (s.setLogRet v).account h = s.account h := rfl

@[simp] theorem State.account_setActiveType (s : State) (g : Gallery) (t : ExcType) (v : Bool) (h : Gallery) : (s.setActiveType g t v).account h = s.account h := rfl

@[simp] theorem State.account_setMarker (s : State) (v : Bool) (h : Gallery) : (s.setMarker v).account h = s.account h := rfl

@[simp] theorem State.account_setDark (s : State) (g : Gallery) (v : DarkRec) (h : Gallery) : (s.setDark g v).account h = s.account h := rfl

@[simp] theorem State.account_setSources (s : State) (g : Gallery) (v : SourceSet) (h : Gallery) : (s.setSources g v).account h = s.account h := rfl

@[simp] theorem State.account_setShade (s : State) (g : Gallery) (v : Bool) (h : Gallery) : (s.setShade g v).account h = s.account h := rfl

@[simp] theorem State.account_setTriggerCfg (s : State) (x : Trigger) (v : TriggerCfg) (h : Gallery) : (s.setTriggerCfg x v).account h = s.account h := rfl

@[simp] theorem State.account_setTriggerLevel (s : State) (x : Trigger) (v : Bool) (h : Gallery) : (s.setTriggerLevel x v).account h = s.account h := rfl

@[simp] theorem State.account_setSeq (s : State) (v : Sequencer) (h : Gallery) : (s.setSeq v).account h = s.account h := rfl

@[simp] theorem State.account_setCheckResult (s : State) (g : Gallery) (v : CheckResult) (h : Gallery) : (s.setCheckResult g v).account h = s.account h := rfl

@[simp] theorem State.account_setSetup (s : State) (v : CheckSetup) (h : Gallery) : (s.setSetup v).account h = s.account h := rfl

@[simp] theorem State.account_setPort (s : State) (p : Port) (v : PortRec) (h : Gallery) : (s.setPort p v).account h = s.account h := rfl

@[simp] theorem State.account_setLines (s : State) (p : Port) (v : PortLines) (h : Gallery) : (s.setLines p v).account h = s.account h := rfl

@[simp] theorem State.account_setTimeout (s : State) (p : Port) (n : Nat) (h : Gallery) : (s.setTimeout p n).account h = s.account h := rfl

@[simp] theorem State.account_send (s : State) (c : Instr) (h : Gallery) : (s.send c).account h = s.account h := rfl

@[simp] theorem State.account_take (s : State) (c : Instr) (h : Gallery) : (s.take c).account h = s.account h := rfl

@[simp] theorem State.account_seal (s : State) (h : Gallery) : (s.seal).account h = s.account h := rfl

/-! ### Reads through `State.lightRec` -/

@[simp] theorem State.lightRec_setCfg (s : State) (c : Chan) (v : ChanCfg) (h : Gallery) : (s.setCfg c v).lightRec h = s.lightRec h := rfl

@[simp] theorem State.lightRec_setCheckFault (s : State) (c : Chan) (v : Bool) (h : Gallery) : (s.setCheckFault c v).lightRec h = s.lightRec h := rfl

@[simp] theorem State.lightRec_setChan (s : State) (c : Chan) (v : ChanRec) (h : Gallery) : (s.setChan c v).lightRec h = s.lightRec h := rfl

@[simp] theorem State.lightRec_setCal (s : State) (v : Option CalContext) (h : Gallery) : (s.setCal v).lightRec h = s.lightRec h := rfl

@[simp] theorem State.lightRec_setFaulted (s : State) (g : Gallery) (n : Nat) (h : Gallery) : (s.setFaulted g n).lightRec h = s.lightRec h := rfl

@[simp] theorem State.lightRec_setTracker (s : State) (c : Chan) (v : Tracker) (h : Gallery) : (s.setTracker c v).lightRec h = s.lightRec h := rfl

@[simp] theorem State.lightRec_setClock (s : State) (v : Clock) (h : Gallery) : (s.setClock v).lightRec h = s.lightRec h := rfl

@[simp] theorem State.lightRec_setEnvRet (s : State) (g : Gallery) (v : EnvRetained) (h : Gallery) : (s.setEnvRet g v).lightRec h = s.lightRec h := rfl

@[simp] theorem State.lightRec_setEnvStaged (s : State) (g : Gallery) (v : EnvStaged) (h : Gallery) : (s.setEnvStaged g v).lightRec h = s.lightRec h := rfl

@[simp] theorem State.lightRec_setAccount (s : State) (g : Gallery) (v : Account) (h : Gallery) : (s.setAccount g v).lightRec h = s.lightRec h := rfl

@[simp] theorem State.lightRec_setClimate (s : State) (g : Gallery) (v : ClimateRec) (h : Gallery) : (s.setClimate g v).lightRec h = s.lightRec h := rfl

@[simp] theorem State.lightRec_setHistory (s : State) (v : History) (h : Gallery) : (s.setHistory v).lightRec h = s.lightRec h := rfl

@[simp] theorem State.lightRec_setRing (s : State) (g : Gallery) (v : Ring) (h : Gallery) : (s.setRing g v).lightRec h = s.lightRec h := rfl

@[simp] theorem State.lightRec_setAggregates (s : State) (g : Gallery) (v : Aggregates) (h : Gallery) : (s.setAggregates g v).lightRec h = s.lightRec h := rfl

@[simp] theorem State.lightRec_setLogRet (s : State) (v : LogRetained) (h : Gallery) : (s.setLogRet v).lightRec h = s.lightRec h := rfl

@[simp] theorem State.lightRec_setActiveType (s : State) (g : Gallery) (t : ExcType) (v : Bool) (h : Gallery) : (s.setActiveType g t v).lightRec h = s.lightRec h := rfl

@[simp] theorem State.lightRec_setMarker (s : State) (v : Bool) (h : Gallery) : (s.setMarker v).lightRec h = s.lightRec h := rfl

@[simp] theorem State.lightRec_setDark (s : State) (g : Gallery) (v : DarkRec) (h : Gallery) : (s.setDark g v).lightRec h = s.lightRec h := rfl

@[simp] theorem State.lightRec_setSources (s : State) (g : Gallery) (v : SourceSet) (h : Gallery) : (s.setSources g v).lightRec h = s.lightRec h := rfl

@[simp] theorem State.lightRec_setShade (s : State) (g : Gallery) (v : Bool) (h : Gallery) : (s.setShade g v).lightRec h = s.lightRec h := rfl

@[simp] theorem State.lightRec_setTriggerCfg (s : State) (x : Trigger) (v : TriggerCfg) (h : Gallery) : (s.setTriggerCfg x v).lightRec h = s.lightRec h := rfl

@[simp] theorem State.lightRec_setTriggerLevel (s : State) (x : Trigger) (v : Bool) (h : Gallery) : (s.setTriggerLevel x v).lightRec h = s.lightRec h := rfl

@[simp] theorem State.lightRec_setSeq (s : State) (v : Sequencer) (h : Gallery) : (s.setSeq v).lightRec h = s.lightRec h := rfl

@[simp] theorem State.lightRec_setCheckResult (s : State) (g : Gallery) (v : CheckResult) (h : Gallery) : (s.setCheckResult g v).lightRec h = s.lightRec h := rfl

@[simp] theorem State.lightRec_setSetup (s : State) (v : CheckSetup) (h : Gallery) : (s.setSetup v).lightRec h = s.lightRec h := rfl

@[simp] theorem State.lightRec_setPort (s : State) (p : Port) (v : PortRec) (h : Gallery) : (s.setPort p v).lightRec h = s.lightRec h := rfl

@[simp] theorem State.lightRec_setLines (s : State) (p : Port) (v : PortLines) (h : Gallery) : (s.setLines p v).lightRec h = s.lightRec h := rfl

@[simp] theorem State.lightRec_setTimeout (s : State) (p : Port) (n : Nat) (h : Gallery) : (s.setTimeout p n).lightRec h = s.lightRec h := rfl

@[simp] theorem State.lightRec_send (s : State) (c : Instr) (h : Gallery) : (s.send c).lightRec h = s.lightRec h := rfl

@[simp] theorem State.lightRec_take (s : State) (c : Instr) (h : Gallery) : (s.take c).lightRec h = s.lightRec h := rfl

@[simp] theorem State.lightRec_seal (s : State) (h : Gallery) : (s.seal).lightRec h = s.lightRec h := rfl

/-! ### Reads through `State.climateRec` -/

@[simp] theorem State.climateRec_setCfg (s : State) (c : Chan) (v : ChanCfg) (h : Gallery) : (s.setCfg c v).climateRec h = s.climateRec h := rfl

@[simp] theorem State.climateRec_setCheckFault (s : State) (c : Chan) (v : Bool) (h : Gallery) : (s.setCheckFault c v).climateRec h = s.climateRec h := rfl

@[simp] theorem State.climateRec_setChan (s : State) (c : Chan) (v : ChanRec) (h : Gallery) : (s.setChan c v).climateRec h = s.climateRec h := rfl

@[simp] theorem State.climateRec_setCal (s : State) (v : Option CalContext) (h : Gallery) : (s.setCal v).climateRec h = s.climateRec h := rfl

@[simp] theorem State.climateRec_setFaulted (s : State) (g : Gallery) (n : Nat) (h : Gallery) : (s.setFaulted g n).climateRec h = s.climateRec h := rfl

@[simp] theorem State.climateRec_setTracker (s : State) (c : Chan) (v : Tracker) (h : Gallery) : (s.setTracker c v).climateRec h = s.climateRec h := rfl

@[simp] theorem State.climateRec_setClock (s : State) (v : Clock) (h : Gallery) : (s.setClock v).climateRec h = s.climateRec h := rfl

@[simp] theorem State.climateRec_setEnvRet (s : State) (g : Gallery) (v : EnvRetained) (h : Gallery) : (s.setEnvRet g v).climateRec h = s.climateRec h := rfl

@[simp] theorem State.climateRec_setEnvStaged (s : State) (g : Gallery) (v : EnvStaged) (h : Gallery) : (s.setEnvStaged g v).climateRec h = s.climateRec h := rfl

@[simp] theorem State.climateRec_setAccount (s : State) (g : Gallery) (v : Account) (h : Gallery) : (s.setAccount g v).climateRec h = s.climateRec h := rfl

@[simp] theorem State.climateRec_setLight (s : State) (g : Gallery) (v : LightRec) (h : Gallery) : (s.setLight g v).climateRec h = s.climateRec h := rfl

@[simp] theorem State.climateRec_setHistory (s : State) (v : History) (h : Gallery) : (s.setHistory v).climateRec h = s.climateRec h := rfl

@[simp] theorem State.climateRec_setRing (s : State) (g : Gallery) (v : Ring) (h : Gallery) : (s.setRing g v).climateRec h = s.climateRec h := rfl

@[simp] theorem State.climateRec_setAggregates (s : State) (g : Gallery) (v : Aggregates) (h : Gallery) : (s.setAggregates g v).climateRec h = s.climateRec h := rfl

@[simp] theorem State.climateRec_setLogRet (s : State) (v : LogRetained) (h : Gallery) : (s.setLogRet v).climateRec h = s.climateRec h := rfl

@[simp] theorem State.climateRec_setActiveType (s : State) (g : Gallery) (t : ExcType) (v : Bool) (h : Gallery) : (s.setActiveType g t v).climateRec h = s.climateRec h := rfl

@[simp] theorem State.climateRec_setMarker (s : State) (v : Bool) (h : Gallery) : (s.setMarker v).climateRec h = s.climateRec h := rfl

@[simp] theorem State.climateRec_setDark (s : State) (g : Gallery) (v : DarkRec) (h : Gallery) : (s.setDark g v).climateRec h = s.climateRec h := rfl

@[simp] theorem State.climateRec_setSources (s : State) (g : Gallery) (v : SourceSet) (h : Gallery) : (s.setSources g v).climateRec h = s.climateRec h := rfl

@[simp] theorem State.climateRec_setShade (s : State) (g : Gallery) (v : Bool) (h : Gallery) : (s.setShade g v).climateRec h = s.climateRec h := rfl

@[simp] theorem State.climateRec_setTriggerCfg (s : State) (x : Trigger) (v : TriggerCfg) (h : Gallery) : (s.setTriggerCfg x v).climateRec h = s.climateRec h := rfl

@[simp] theorem State.climateRec_setTriggerLevel (s : State) (x : Trigger) (v : Bool) (h : Gallery) : (s.setTriggerLevel x v).climateRec h = s.climateRec h := rfl

@[simp] theorem State.climateRec_setSeq (s : State) (v : Sequencer) (h : Gallery) : (s.setSeq v).climateRec h = s.climateRec h := rfl

@[simp] theorem State.climateRec_setCheckResult (s : State) (g : Gallery) (v : CheckResult) (h : Gallery) : (s.setCheckResult g v).climateRec h = s.climateRec h := rfl

@[simp] theorem State.climateRec_setSetup (s : State) (v : CheckSetup) (h : Gallery) : (s.setSetup v).climateRec h = s.climateRec h := rfl

@[simp] theorem State.climateRec_setPort (s : State) (p : Port) (v : PortRec) (h : Gallery) : (s.setPort p v).climateRec h = s.climateRec h := rfl

@[simp] theorem State.climateRec_setLines (s : State) (p : Port) (v : PortLines) (h : Gallery) : (s.setLines p v).climateRec h = s.climateRec h := rfl

@[simp] theorem State.climateRec_setTimeout (s : State) (p : Port) (n : Nat) (h : Gallery) : (s.setTimeout p n).climateRec h = s.climateRec h := rfl

@[simp] theorem State.climateRec_send (s : State) (c : Instr) (h : Gallery) : (s.send c).climateRec h = s.climateRec h := rfl

@[simp] theorem State.climateRec_take (s : State) (c : Instr) (h : Gallery) : (s.take c).climateRec h = s.climateRec h := rfl

@[simp] theorem State.climateRec_seal (s : State) (h : Gallery) : (s.seal).climateRec h = s.climateRec h := rfl

/-! ### Reads through `State.ring` -/

@[simp] theorem State.ring_setCfg (s : State) (c : Chan) (v : ChanCfg) (h : Gallery) : (s.setCfg c v).ring h = s.ring h := rfl

@[simp] theorem State.ring_setCheckFault (s : State) (c : Chan) (v : Bool) (h : Gallery) : (s.setCheckFault c v).ring h = s.ring h := rfl

@[simp] theorem State.ring_setChan (s : State) (c : Chan) (v : ChanRec) (h : Gallery) : (s.setChan c v).ring h = s.ring h := rfl

@[simp] theorem State.ring_setCal (s : State) (v : Option CalContext) (h : Gallery) : (s.setCal v).ring h = s.ring h := rfl

@[simp] theorem State.ring_setFaulted (s : State) (g : Gallery) (n : Nat) (h : Gallery) : (s.setFaulted g n).ring h = s.ring h := rfl

@[simp] theorem State.ring_setTracker (s : State) (c : Chan) (v : Tracker) (h : Gallery) : (s.setTracker c v).ring h = s.ring h := rfl

@[simp] theorem State.ring_setClock (s : State) (v : Clock) (h : Gallery) : (s.setClock v).ring h = s.ring h := rfl

@[simp] theorem State.ring_setEnvRet (s : State) (g : Gallery) (v : EnvRetained) (h : Gallery) : (s.setEnvRet g v).ring h = s.ring h := rfl

@[simp] theorem State.ring_setEnvStaged (s : State) (g : Gallery) (v : EnvStaged) (h : Gallery) : (s.setEnvStaged g v).ring h = s.ring h := rfl

@[simp] theorem State.ring_setAccount (s : State) (g : Gallery) (v : Account) (h : Gallery) : (s.setAccount g v).ring h = s.ring h := rfl

@[simp] theorem State.ring_setLight (s : State) (g : Gallery) (v : LightRec) (h : Gallery) : (s.setLight g v).ring h = s.ring h := rfl

@[simp] theorem State.ring_setClimate (s : State) (g : Gallery) (v : ClimateRec) (h : Gallery) : (s.setClimate g v).ring h = s.ring h := rfl

@[simp] theorem State.ring_setAggregates (s : State) (g : Gallery) (v : Aggregates) (h : Gallery) : (s.setAggregates g v).ring h = s.ring h := rfl

@[simp] theorem State.ring_setLogRet (s : State) (v : LogRetained) (h : Gallery) : (s.setLogRet v).ring h = s.ring h := rfl

@[simp] theorem State.ring_setActiveType (s : State) (g : Gallery) (t : ExcType) (v : Bool) (h : Gallery) : (s.setActiveType g t v).ring h = s.ring h := rfl

@[simp] theorem State.ring_setMarker (s : State) (v : Bool) (h : Gallery) : (s.setMarker v).ring h = s.ring h := rfl

@[simp] theorem State.ring_setDark (s : State) (g : Gallery) (v : DarkRec) (h : Gallery) : (s.setDark g v).ring h = s.ring h := rfl

@[simp] theorem State.ring_setSources (s : State) (g : Gallery) (v : SourceSet) (h : Gallery) : (s.setSources g v).ring h = s.ring h := rfl

@[simp] theorem State.ring_setShade (s : State) (g : Gallery) (v : Bool) (h : Gallery) : (s.setShade g v).ring h = s.ring h := rfl

@[simp] theorem State.ring_setTriggerCfg (s : State) (x : Trigger) (v : TriggerCfg) (h : Gallery) : (s.setTriggerCfg x v).ring h = s.ring h := rfl

@[simp] theorem State.ring_setTriggerLevel (s : State) (x : Trigger) (v : Bool) (h : Gallery) : (s.setTriggerLevel x v).ring h = s.ring h := rfl

@[simp] theorem State.ring_setSeq (s : State) (v : Sequencer) (h : Gallery) : (s.setSeq v).ring h = s.ring h := rfl

@[simp] theorem State.ring_setCheckResult (s : State) (g : Gallery) (v : CheckResult) (h : Gallery) : (s.setCheckResult g v).ring h = s.ring h := rfl

@[simp] theorem State.ring_setSetup (s : State) (v : CheckSetup) (h : Gallery) : (s.setSetup v).ring h = s.ring h := rfl

@[simp] theorem State.ring_setPort (s : State) (p : Port) (v : PortRec) (h : Gallery) : (s.setPort p v).ring h = s.ring h := rfl

@[simp] theorem State.ring_setLines (s : State) (p : Port) (v : PortLines) (h : Gallery) : (s.setLines p v).ring h = s.ring h := rfl

@[simp] theorem State.ring_setTimeout (s : State) (p : Port) (n : Nat) (h : Gallery) : (s.setTimeout p n).ring h = s.ring h := rfl

@[simp] theorem State.ring_send (s : State) (c : Instr) (h : Gallery) : (s.send c).ring h = s.ring h := rfl

@[simp] theorem State.ring_take (s : State) (c : Instr) (h : Gallery) : (s.take c).ring h = s.ring h := rfl

@[simp] theorem State.ring_seal (s : State) (h : Gallery) : (s.seal).ring h = s.ring h := rfl

/-! ### Reads through `State.aggregates` -/

@[simp] theorem State.aggregates_setCfg (s : State) (c : Chan) (v : ChanCfg) (h : Gallery) : (s.setCfg c v).aggregates h = s.aggregates h := rfl

@[simp] theorem State.aggregates_setCheckFault (s : State) (c : Chan) (v : Bool) (h : Gallery) : (s.setCheckFault c v).aggregates h = s.aggregates h := rfl

@[simp] theorem State.aggregates_setChan (s : State) (c : Chan) (v : ChanRec) (h : Gallery) : (s.setChan c v).aggregates h = s.aggregates h := rfl

@[simp] theorem State.aggregates_setCal (s : State) (v : Option CalContext) (h : Gallery) : (s.setCal v).aggregates h = s.aggregates h := rfl

@[simp] theorem State.aggregates_setFaulted (s : State) (g : Gallery) (n : Nat) (h : Gallery) : (s.setFaulted g n).aggregates h = s.aggregates h := rfl

@[simp] theorem State.aggregates_setTracker (s : State) (c : Chan) (v : Tracker) (h : Gallery) : (s.setTracker c v).aggregates h = s.aggregates h := rfl

@[simp] theorem State.aggregates_setClock (s : State) (v : Clock) (h : Gallery) : (s.setClock v).aggregates h = s.aggregates h := rfl

@[simp] theorem State.aggregates_setEnvRet (s : State) (g : Gallery) (v : EnvRetained) (h : Gallery) : (s.setEnvRet g v).aggregates h = s.aggregates h := rfl

@[simp] theorem State.aggregates_setEnvStaged (s : State) (g : Gallery) (v : EnvStaged) (h : Gallery) : (s.setEnvStaged g v).aggregates h = s.aggregates h := rfl

@[simp] theorem State.aggregates_setAccount (s : State) (g : Gallery) (v : Account) (h : Gallery) : (s.setAccount g v).aggregates h = s.aggregates h := rfl

@[simp] theorem State.aggregates_setLight (s : State) (g : Gallery) (v : LightRec) (h : Gallery) : (s.setLight g v).aggregates h = s.aggregates h := rfl

@[simp] theorem State.aggregates_setClimate (s : State) (g : Gallery) (v : ClimateRec) (h : Gallery) : (s.setClimate g v).aggregates h = s.aggregates h := rfl

@[simp] theorem State.aggregates_setHistory (s : State) (v : History) (h : Gallery) : (s.setHistory v).aggregates h = s.aggregates h := rfl

@[simp] theorem State.aggregates_setRing (s : State) (g : Gallery) (v : Ring) (h : Gallery) : (s.setRing g v).aggregates h = s.aggregates h := rfl

@[simp] theorem State.aggregates_setLogRet (s : State) (v : LogRetained) (h : Gallery) : (s.setLogRet v).aggregates h = s.aggregates h := rfl

@[simp] theorem State.aggregates_setActiveType (s : State) (g : Gallery) (t : ExcType) (v : Bool) (h : Gallery) : (s.setActiveType g t v).aggregates h = s.aggregates h := rfl

@[simp] theorem State.aggregates_setMarker (s : State) (v : Bool) (h : Gallery) : (s.setMarker v).aggregates h = s.aggregates h := rfl

@[simp] theorem State.aggregates_setDark (s : State) (g : Gallery) (v : DarkRec) (h : Gallery) : (s.setDark g v).aggregates h = s.aggregates h := rfl

@[simp] theorem State.aggregates_setSources (s : State) (g : Gallery) (v : SourceSet) (h : Gallery) : (s.setSources g v).aggregates h = s.aggregates h := rfl

@[simp] theorem State.aggregates_setShade (s : State) (g : Gallery) (v : Bool) (h : Gallery) : (s.setShade g v).aggregates h = s.aggregates h := rfl

@[simp] theorem State.aggregates_setTriggerCfg (s : State) (x : Trigger) (v : TriggerCfg) (h : Gallery) : (s.setTriggerCfg x v).aggregates h = s.aggregates h := rfl

@[simp] theorem State.aggregates_setTriggerLevel (s : State) (x : Trigger) (v : Bool) (h : Gallery) : (s.setTriggerLevel x v).aggregates h = s.aggregates h := rfl

@[simp] theorem State.aggregates_setSeq (s : State) (v : Sequencer) (h : Gallery) : (s.setSeq v).aggregates h = s.aggregates h := rfl

@[simp] theorem State.aggregates_setCheckResult (s : State) (g : Gallery) (v : CheckResult) (h : Gallery) : (s.setCheckResult g v).aggregates h = s.aggregates h := rfl

@[simp] theorem State.aggregates_setSetup (s : State) (v : CheckSetup) (h : Gallery) : (s.setSetup v).aggregates h = s.aggregates h := rfl

@[simp] theorem State.aggregates_setPort (s : State) (p : Port) (v : PortRec) (h : Gallery) : (s.setPort p v).aggregates h = s.aggregates h := rfl

@[simp] theorem State.aggregates_setLines (s : State) (p : Port) (v : PortLines) (h : Gallery) : (s.setLines p v).aggregates h = s.aggregates h := rfl

@[simp] theorem State.aggregates_setTimeout (s : State) (p : Port) (n : Nat) (h : Gallery) : (s.setTimeout p n).aggregates h = s.aggregates h := rfl

@[simp] theorem State.aggregates_send (s : State) (c : Instr) (h : Gallery) : (s.send c).aggregates h = s.aggregates h := rfl

@[simp] theorem State.aggregates_take (s : State) (c : Instr) (h : Gallery) : (s.take c).aggregates h = s.aggregates h := rfl

@[simp] theorem State.aggregates_seal (s : State) (h : Gallery) : (s.seal).aggregates h = s.aggregates h := rfl

/-! ### Reads through `State.isActive` -/

@[simp] theorem State.isActive_setCfg (s : State) (c : Chan) (v : ChanCfg) (h : Gallery) (u : ExcType) : (s.setCfg c v).isActive h u = s.isActive h u := rfl

@[simp] theorem State.isActive_setCheckFault (s : State) (c : Chan) (v : Bool) (h : Gallery) (u : ExcType) : (s.setCheckFault c v).isActive h u = s.isActive h u := rfl

@[simp] theorem State.isActive_setChan (s : State) (c : Chan) (v : ChanRec) (h : Gallery) (u : ExcType) : (s.setChan c v).isActive h u = s.isActive h u := rfl

@[simp] theorem State.isActive_setCal (s : State) (v : Option CalContext) (h : Gallery) (u : ExcType) : (s.setCal v).isActive h u = s.isActive h u := rfl

@[simp] theorem State.isActive_setFaulted (s : State) (g : Gallery) (n : Nat) (h : Gallery) (u : ExcType) : (s.setFaulted g n).isActive h u = s.isActive h u := rfl

@[simp] theorem State.isActive_setTracker (s : State) (c : Chan) (v : Tracker) (h : Gallery) (u : ExcType) : (s.setTracker c v).isActive h u = s.isActive h u := rfl

@[simp] theorem State.isActive_setClock (s : State) (v : Clock) (h : Gallery) (u : ExcType) : (s.setClock v).isActive h u = s.isActive h u := rfl

@[simp] theorem State.isActive_setEnvRet (s : State) (g : Gallery) (v : EnvRetained) (h : Gallery) (u : ExcType) : (s.setEnvRet g v).isActive h u = s.isActive h u := rfl

@[simp] theorem State.isActive_setEnvStaged (s : State) (g : Gallery) (v : EnvStaged) (h : Gallery) (u : ExcType) : (s.setEnvStaged g v).isActive h u = s.isActive h u := rfl

@[simp] theorem State.isActive_setAccount (s : State) (g : Gallery) (v : Account) (h : Gallery) (u : ExcType) : (s.setAccount g v).isActive h u = s.isActive h u := rfl

@[simp] theorem State.isActive_setLight (s : State) (g : Gallery) (v : LightRec) (h : Gallery) (u : ExcType) : (s.setLight g v).isActive h u = s.isActive h u := rfl

@[simp] theorem State.isActive_setClimate (s : State) (g : Gallery) (v : ClimateRec) (h : Gallery) (u : ExcType) : (s.setClimate g v).isActive h u = s.isActive h u := rfl

@[simp] theorem State.isActive_setHistory (s : State) (v : History) (h : Gallery) (u : ExcType) : (s.setHistory v).isActive h u = s.isActive h u := rfl

@[simp] theorem State.isActive_setRing (s : State) (g : Gallery) (v : Ring) (h : Gallery) (u : ExcType) : (s.setRing g v).isActive h u = s.isActive h u := rfl

@[simp] theorem State.isActive_setAggregates (s : State) (g : Gallery) (v : Aggregates) (h : Gallery) (u : ExcType) : (s.setAggregates g v).isActive h u = s.isActive h u := rfl

@[simp] theorem State.isActive_setLogRet (s : State) (v : LogRetained) (h : Gallery) (u : ExcType) : (s.setLogRet v).isActive h u = s.isActive h u := rfl

@[simp] theorem State.isActive_setMarker (s : State) (v : Bool) (h : Gallery) (u : ExcType) : (s.setMarker v).isActive h u = s.isActive h u := rfl

@[simp] theorem State.isActive_setDark (s : State) (g : Gallery) (v : DarkRec) (h : Gallery) (u : ExcType) : (s.setDark g v).isActive h u = s.isActive h u := rfl

@[simp] theorem State.isActive_setSources (s : State) (g : Gallery) (v : SourceSet) (h : Gallery) (u : ExcType) : (s.setSources g v).isActive h u = s.isActive h u := rfl

@[simp] theorem State.isActive_setShade (s : State) (g : Gallery) (v : Bool) (h : Gallery) (u : ExcType) : (s.setShade g v).isActive h u = s.isActive h u := rfl

@[simp] theorem State.isActive_setTriggerCfg (s : State) (x : Trigger) (v : TriggerCfg) (h : Gallery) (u : ExcType) : (s.setTriggerCfg x v).isActive h u = s.isActive h u := rfl

@[simp] theorem State.isActive_setTriggerLevel (s : State) (x : Trigger) (v : Bool) (h : Gallery) (u : ExcType) : (s.setTriggerLevel x v).isActive h u = s.isActive h u := rfl

@[simp] theorem State.isActive_setSeq (s : State) (v : Sequencer) (h : Gallery) (u : ExcType) : (s.setSeq v).isActive h u = s.isActive h u := rfl

@[simp] theorem State.isActive_setCheckResult (s : State) (g : Gallery) (v : CheckResult) (h : Gallery) (u : ExcType) : (s.setCheckResult g v).isActive h u = s.isActive h u := rfl

@[simp] theorem State.isActive_setSetup (s : State) (v : CheckSetup) (h : Gallery) (u : ExcType) : (s.setSetup v).isActive h u = s.isActive h u := rfl

@[simp] theorem State.isActive_setPort (s : State) (p : Port) (v : PortRec) (h : Gallery) (u : ExcType) : (s.setPort p v).isActive h u = s.isActive h u := rfl

@[simp] theorem State.isActive_setLines (s : State) (p : Port) (v : PortLines) (h : Gallery) (u : ExcType) : (s.setLines p v).isActive h u = s.isActive h u := rfl

@[simp] theorem State.isActive_setTimeout (s : State) (p : Port) (n : Nat) (h : Gallery) (u : ExcType) : (s.setTimeout p n).isActive h u = s.isActive h u := rfl

@[simp] theorem State.isActive_send (s : State) (c : Instr) (h : Gallery) (u : ExcType) : (s.send c).isActive h u = s.isActive h u := rfl

@[simp] theorem State.isActive_take (s : State) (c : Instr) (h : Gallery) (u : ExcType) : (s.take c).isActive h u = s.isActive h u := rfl

@[simp] theorem State.isActive_seal (s : State) (h : Gallery) (u : ExcType) : (s.seal).isActive h u = s.isActive h u := rfl

/-! ### Reads through `State.darkRec` -/

@[simp] theorem State.darkRec_setCfg (s : State) (c : Chan) (v : ChanCfg) (h : Gallery) : (s.setCfg c v).darkRec h = s.darkRec h := rfl

@[simp] theorem State.darkRec_setCheckFault (s : State) (c : Chan) (v : Bool) (h : Gallery) : (s.setCheckFault c v).darkRec h = s.darkRec h := rfl

@[simp] theorem State.darkRec_setChan (s : State) (c : Chan) (v : ChanRec) (h : Gallery) : (s.setChan c v).darkRec h = s.darkRec h := rfl

@[simp] theorem State.darkRec_setCal (s : State) (v : Option CalContext) (h : Gallery) : (s.setCal v).darkRec h = s.darkRec h := rfl

@[simp] theorem State.darkRec_setFaulted (s : State) (g : Gallery) (n : Nat) (h : Gallery) : (s.setFaulted g n).darkRec h = s.darkRec h := rfl

@[simp] theorem State.darkRec_setTracker (s : State) (c : Chan) (v : Tracker) (h : Gallery) : (s.setTracker c v).darkRec h = s.darkRec h := rfl

@[simp] theorem State.darkRec_setClock (s : State) (v : Clock) (h : Gallery) : (s.setClock v).darkRec h = s.darkRec h := rfl

@[simp] theorem State.darkRec_setEnvRet (s : State) (g : Gallery) (v : EnvRetained) (h : Gallery) : (s.setEnvRet g v).darkRec h = s.darkRec h := rfl

@[simp] theorem State.darkRec_setEnvStaged (s : State) (g : Gallery) (v : EnvStaged) (h : Gallery) : (s.setEnvStaged g v).darkRec h = s.darkRec h := rfl

@[simp] theorem State.darkRec_setAccount (s : State) (g : Gallery) (v : Account) (h : Gallery) : (s.setAccount g v).darkRec h = s.darkRec h := rfl

@[simp] theorem State.darkRec_setLight (s : State) (g : Gallery) (v : LightRec) (h : Gallery) : (s.setLight g v).darkRec h = s.darkRec h := rfl

@[simp] theorem State.darkRec_setClimate (s : State) (g : Gallery) (v : ClimateRec) (h : Gallery) : (s.setClimate g v).darkRec h = s.darkRec h := rfl

@[simp] theorem State.darkRec_setHistory (s : State) (v : History) (h : Gallery) : (s.setHistory v).darkRec h = s.darkRec h := rfl

@[simp] theorem State.darkRec_setRing (s : State) (g : Gallery) (v : Ring) (h : Gallery) : (s.setRing g v).darkRec h = s.darkRec h := rfl

@[simp] theorem State.darkRec_setAggregates (s : State) (g : Gallery) (v : Aggregates) (h : Gallery) : (s.setAggregates g v).darkRec h = s.darkRec h := rfl

@[simp] theorem State.darkRec_setLogRet (s : State) (v : LogRetained) (h : Gallery) : (s.setLogRet v).darkRec h = s.darkRec h := rfl

@[simp] theorem State.darkRec_setActiveType (s : State) (g : Gallery) (t : ExcType) (v : Bool) (h : Gallery) : (s.setActiveType g t v).darkRec h = s.darkRec h := rfl

@[simp] theorem State.darkRec_setMarker (s : State) (v : Bool) (h : Gallery) : (s.setMarker v).darkRec h = s.darkRec h := rfl

@[simp] theorem State.darkRec_setSources (s : State) (g : Gallery) (v : SourceSet) (h : Gallery) : (s.setSources g v).darkRec h = s.darkRec h := rfl

@[simp] theorem State.darkRec_setShade (s : State) (g : Gallery) (v : Bool) (h : Gallery) : (s.setShade g v).darkRec h = s.darkRec h := rfl

@[simp] theorem State.darkRec_setTriggerCfg (s : State) (x : Trigger) (v : TriggerCfg) (h : Gallery) : (s.setTriggerCfg x v).darkRec h = s.darkRec h := rfl

@[simp] theorem State.darkRec_setTriggerLevel (s : State) (x : Trigger) (v : Bool) (h : Gallery) : (s.setTriggerLevel x v).darkRec h = s.darkRec h := rfl

@[simp] theorem State.darkRec_setSeq (s : State) (v : Sequencer) (h : Gallery) : (s.setSeq v).darkRec h = s.darkRec h := rfl

@[simp] theorem State.darkRec_setCheckResult (s : State) (g : Gallery) (v : CheckResult) (h : Gallery) : (s.setCheckResult g v).darkRec h = s.darkRec h := rfl

@[simp] theorem State.darkRec_setSetup (s : State) (v : CheckSetup) (h : Gallery) : (s.setSetup v).darkRec h = s.darkRec h := rfl

@[simp] theorem State.darkRec_setPort (s : State) (p : Port) (v : PortRec) (h : Gallery) : (s.setPort p v).darkRec h = s.darkRec h := rfl

@[simp] theorem State.darkRec_setLines (s : State) (p : Port) (v : PortLines) (h : Gallery) : (s.setLines p v).darkRec h = s.darkRec h := rfl

@[simp] theorem State.darkRec_setTimeout (s : State) (p : Port) (n : Nat) (h : Gallery) : (s.setTimeout p n).darkRec h = s.darkRec h := rfl

@[simp] theorem State.darkRec_send (s : State) (c : Instr) (h : Gallery) : (s.send c).darkRec h = s.darkRec h := rfl

@[simp] theorem State.darkRec_take (s : State) (c : Instr) (h : Gallery) : (s.take c).darkRec h = s.darkRec h := rfl

@[simp] theorem State.darkRec_seal (s : State) (h : Gallery) : (s.seal).darkRec h = s.darkRec h := rfl

/-! ### Reads through `State.sources` -/

@[simp] theorem State.sources_setCfg (s : State) (c : Chan) (v : ChanCfg) (h : Gallery) : (s.setCfg c v).sources h = s.sources h := rfl

@[simp] theorem State.sources_setCheckFault (s : State) (c : Chan) (v : Bool) (h : Gallery) : (s.setCheckFault c v).sources h = s.sources h := rfl

@[simp] theorem State.sources_setChan (s : State) (c : Chan) (v : ChanRec) (h : Gallery) : (s.setChan c v).sources h = s.sources h := rfl

@[simp] theorem State.sources_setCal (s : State) (v : Option CalContext) (h : Gallery) : (s.setCal v).sources h = s.sources h := rfl

@[simp] theorem State.sources_setFaulted (s : State) (g : Gallery) (n : Nat) (h : Gallery) : (s.setFaulted g n).sources h = s.sources h := rfl

@[simp] theorem State.sources_setTracker (s : State) (c : Chan) (v : Tracker) (h : Gallery) : (s.setTracker c v).sources h = s.sources h := rfl

@[simp] theorem State.sources_setClock (s : State) (v : Clock) (h : Gallery) : (s.setClock v).sources h = s.sources h := rfl

@[simp] theorem State.sources_setEnvRet (s : State) (g : Gallery) (v : EnvRetained) (h : Gallery) : (s.setEnvRet g v).sources h = s.sources h := rfl

@[simp] theorem State.sources_setEnvStaged (s : State) (g : Gallery) (v : EnvStaged) (h : Gallery) : (s.setEnvStaged g v).sources h = s.sources h := rfl

@[simp] theorem State.sources_setAccount (s : State) (g : Gallery) (v : Account) (h : Gallery) : (s.setAccount g v).sources h = s.sources h := rfl

@[simp] theorem State.sources_setLight (s : State) (g : Gallery) (v : LightRec) (h : Gallery) : (s.setLight g v).sources h = s.sources h := rfl

@[simp] theorem State.sources_setClimate (s : State) (g : Gallery) (v : ClimateRec) (h : Gallery) : (s.setClimate g v).sources h = s.sources h := rfl

@[simp] theorem State.sources_setHistory (s : State) (v : History) (h : Gallery) : (s.setHistory v).sources h = s.sources h := rfl

@[simp] theorem State.sources_setRing (s : State) (g : Gallery) (v : Ring) (h : Gallery) : (s.setRing g v).sources h = s.sources h := rfl

@[simp] theorem State.sources_setAggregates (s : State) (g : Gallery) (v : Aggregates) (h : Gallery) : (s.setAggregates g v).sources h = s.sources h := rfl

@[simp] theorem State.sources_setLogRet (s : State) (v : LogRetained) (h : Gallery) : (s.setLogRet v).sources h = s.sources h := rfl

@[simp] theorem State.sources_setActiveType (s : State) (g : Gallery) (t : ExcType) (v : Bool) (h : Gallery) : (s.setActiveType g t v).sources h = s.sources h := rfl

@[simp] theorem State.sources_setMarker (s : State) (v : Bool) (h : Gallery) : (s.setMarker v).sources h = s.sources h := rfl

@[simp] theorem State.sources_setDark (s : State) (g : Gallery) (v : DarkRec) (h : Gallery) : (s.setDark g v).sources h = s.sources h := rfl

@[simp] theorem State.sources_setShade (s : State) (g : Gallery) (v : Bool) (h : Gallery) : (s.setShade g v).sources h = s.sources h := rfl

@[simp] theorem State.sources_setTriggerCfg (s : State) (x : Trigger) (v : TriggerCfg) (h : Gallery) : (s.setTriggerCfg x v).sources h = s.sources h := rfl

@[simp] theorem State.sources_setTriggerLevel (s : State) (x : Trigger) (v : Bool) (h : Gallery) : (s.setTriggerLevel x v).sources h = s.sources h := rfl

@[simp] theorem State.sources_setSeq (s : State) (v : Sequencer) (h : Gallery) : (s.setSeq v).sources h = s.sources h := rfl

@[simp] theorem State.sources_setCheckResult (s : State) (g : Gallery) (v : CheckResult) (h : Gallery) : (s.setCheckResult g v).sources h = s.sources h := rfl

@[simp] theorem State.sources_setSetup (s : State) (v : CheckSetup) (h : Gallery) : (s.setSetup v).sources h = s.sources h := rfl

@[simp] theorem State.sources_setPort (s : State) (p : Port) (v : PortRec) (h : Gallery) : (s.setPort p v).sources h = s.sources h := rfl

@[simp] theorem State.sources_setLines (s : State) (p : Port) (v : PortLines) (h : Gallery) : (s.setLines p v).sources h = s.sources h := rfl

@[simp] theorem State.sources_setTimeout (s : State) (p : Port) (n : Nat) (h : Gallery) : (s.setTimeout p n).sources h = s.sources h := rfl

@[simp] theorem State.sources_send (s : State) (c : Instr) (h : Gallery) : (s.send c).sources h = s.sources h := rfl

@[simp] theorem State.sources_take (s : State) (c : Instr) (h : Gallery) : (s.take c).sources h = s.sources h := rfl

@[simp] theorem State.sources_seal (s : State) (h : Gallery) : (s.seal).sources h = s.sources h := rfl

/-! ### Reads through `State.checkResult` -/

@[simp] theorem State.checkResult_setCfg (s : State) (c : Chan) (v : ChanCfg) (h : Gallery) : (s.setCfg c v).checkResult h = s.checkResult h := rfl

@[simp] theorem State.checkResult_setCheckFault (s : State) (c : Chan) (v : Bool) (h : Gallery) : (s.setCheckFault c v).checkResult h = s.checkResult h := rfl

@[simp] theorem State.checkResult_setChan (s : State) (c : Chan) (v : ChanRec) (h : Gallery) : (s.setChan c v).checkResult h = s.checkResult h := rfl

@[simp] theorem State.checkResult_setCal (s : State) (v : Option CalContext) (h : Gallery) : (s.setCal v).checkResult h = s.checkResult h := rfl

@[simp] theorem State.checkResult_setFaulted (s : State) (g : Gallery) (n : Nat) (h : Gallery) : (s.setFaulted g n).checkResult h = s.checkResult h := rfl

@[simp] theorem State.checkResult_setTracker (s : State) (c : Chan) (v : Tracker) (h : Gallery) : (s.setTracker c v).checkResult h = s.checkResult h := rfl

@[simp] theorem State.checkResult_setClock (s : State) (v : Clock) (h : Gallery) : (s.setClock v).checkResult h = s.checkResult h := rfl

@[simp] theorem State.checkResult_setEnvRet (s : State) (g : Gallery) (v : EnvRetained) (h : Gallery) : (s.setEnvRet g v).checkResult h = s.checkResult h := rfl

@[simp] theorem State.checkResult_setEnvStaged (s : State) (g : Gallery) (v : EnvStaged) (h : Gallery) : (s.setEnvStaged g v).checkResult h = s.checkResult h := rfl

@[simp] theorem State.checkResult_setAccount (s : State) (g : Gallery) (v : Account) (h : Gallery) : (s.setAccount g v).checkResult h = s.checkResult h := rfl

@[simp] theorem State.checkResult_setLight (s : State) (g : Gallery) (v : LightRec) (h : Gallery) : (s.setLight g v).checkResult h = s.checkResult h := rfl

@[simp] theorem State.checkResult_setClimate (s : State) (g : Gallery) (v : ClimateRec) (h : Gallery) : (s.setClimate g v).checkResult h = s.checkResult h := rfl

@[simp] theorem State.checkResult_setHistory (s : State) (v : History) (h : Gallery) : (s.setHistory v).checkResult h = s.checkResult h := rfl

@[simp] theorem State.checkResult_setRing (s : State) (g : Gallery) (v : Ring) (h : Gallery) : (s.setRing g v).checkResult h = s.checkResult h := rfl

@[simp] theorem State.checkResult_setAggregates (s : State) (g : Gallery) (v : Aggregates) (h : Gallery) : (s.setAggregates g v).checkResult h = s.checkResult h := rfl

@[simp] theorem State.checkResult_setLogRet (s : State) (v : LogRetained) (h : Gallery) : (s.setLogRet v).checkResult h = s.checkResult h := rfl

@[simp] theorem State.checkResult_setActiveType (s : State) (g : Gallery) (t : ExcType) (v : Bool) (h : Gallery) : (s.setActiveType g t v).checkResult h = s.checkResult h := rfl

@[simp] theorem State.checkResult_setMarker (s : State) (v : Bool) (h : Gallery) : (s.setMarker v).checkResult h = s.checkResult h := rfl

@[simp] theorem State.checkResult_setDark (s : State) (g : Gallery) (v : DarkRec) (h : Gallery) : (s.setDark g v).checkResult h = s.checkResult h := rfl

@[simp] theorem State.checkResult_setSources (s : State) (g : Gallery) (v : SourceSet) (h : Gallery) : (s.setSources g v).checkResult h = s.checkResult h := rfl

@[simp] theorem State.checkResult_setShade (s : State) (g : Gallery) (v : Bool) (h : Gallery) : (s.setShade g v).checkResult h = s.checkResult h := rfl

@[simp] theorem State.checkResult_setTriggerCfg (s : State) (x : Trigger) (v : TriggerCfg) (h : Gallery) : (s.setTriggerCfg x v).checkResult h = s.checkResult h := rfl

@[simp] theorem State.checkResult_setTriggerLevel (s : State) (x : Trigger) (v : Bool) (h : Gallery) : (s.setTriggerLevel x v).checkResult h = s.checkResult h := rfl

@[simp] theorem State.checkResult_setSetup (s : State) (v : CheckSetup) (h : Gallery) : (s.setSetup v).checkResult h = s.checkResult h := rfl

@[simp] theorem State.checkResult_setPort (s : State) (p : Port) (v : PortRec) (h : Gallery) : (s.setPort p v).checkResult h = s.checkResult h := rfl

@[simp] theorem State.checkResult_setLines (s : State) (p : Port) (v : PortLines) (h : Gallery) : (s.setLines p v).checkResult h = s.checkResult h := rfl

@[simp] theorem State.checkResult_setTimeout (s : State) (p : Port) (n : Nat) (h : Gallery) : (s.setTimeout p n).checkResult h = s.checkResult h := rfl

@[simp] theorem State.checkResult_send (s : State) (c : Instr) (h : Gallery) : (s.send c).checkResult h = s.checkResult h := rfl

@[simp] theorem State.checkResult_take (s : State) (c : Instr) (h : Gallery) : (s.take c).checkResult h = s.checkResult h := rfl

@[simp] theorem State.checkResult_seal (s : State) (h : Gallery) : (s.seal).checkResult h = s.checkResult h := rfl

/-! ### Reads through `State.port` -/

@[simp] theorem State.port_setCfg (s : State) (c : Chan) (v : ChanCfg) (i : Port) : (s.setCfg c v).port i = s.port i := rfl

@[simp] theorem State.port_setCheckFault (s : State) (c : Chan) (v : Bool) (i : Port) : (s.setCheckFault c v).port i = s.port i := rfl

@[simp] theorem State.port_setChan (s : State) (c : Chan) (v : ChanRec) (i : Port) : (s.setChan c v).port i = s.port i := rfl

@[simp] theorem State.port_setCal (s : State) (v : Option CalContext) (i : Port) : (s.setCal v).port i = s.port i := rfl

@[simp] theorem State.port_setFaulted (s : State) (g : Gallery) (n : Nat) (i : Port) : (s.setFaulted g n).port i = s.port i := rfl

@[simp] theorem State.port_setTracker (s : State) (c : Chan) (v : Tracker) (i : Port) : (s.setTracker c v).port i = s.port i := rfl

@[simp] theorem State.port_setClock (s : State) (v : Clock) (i : Port) : (s.setClock v).port i = s.port i := rfl

@[simp] theorem State.port_setEnvRet (s : State) (g : Gallery) (v : EnvRetained) (i : Port) : (s.setEnvRet g v).port i = s.port i := rfl

@[simp] theorem State.port_setEnvStaged (s : State) (g : Gallery) (v : EnvStaged) (i : Port) : (s.setEnvStaged g v).port i = s.port i := rfl

@[simp] theorem State.port_setAccount (s : State) (g : Gallery) (v : Account) (i : Port) : (s.setAccount g v).port i = s.port i := rfl

@[simp] theorem State.port_setLight (s : State) (g : Gallery) (v : LightRec) (i : Port) : (s.setLight g v).port i = s.port i := rfl

@[simp] theorem State.port_setClimate (s : State) (g : Gallery) (v : ClimateRec) (i : Port) : (s.setClimate g v).port i = s.port i := rfl

@[simp] theorem State.port_setHistory (s : State) (v : History) (i : Port) : (s.setHistory v).port i = s.port i := rfl

@[simp] theorem State.port_setRing (s : State) (g : Gallery) (v : Ring) (i : Port) : (s.setRing g v).port i = s.port i := rfl

@[simp] theorem State.port_setAggregates (s : State) (g : Gallery) (v : Aggregates) (i : Port) : (s.setAggregates g v).port i = s.port i := rfl

@[simp] theorem State.port_setLogRet (s : State) (v : LogRetained) (i : Port) : (s.setLogRet v).port i = s.port i := rfl

@[simp] theorem State.port_setActiveType (s : State) (g : Gallery) (t : ExcType) (v : Bool) (i : Port) : (s.setActiveType g t v).port i = s.port i := rfl

@[simp] theorem State.port_setMarker (s : State) (v : Bool) (i : Port) : (s.setMarker v).port i = s.port i := rfl

@[simp] theorem State.port_setDark (s : State) (g : Gallery) (v : DarkRec) (i : Port) : (s.setDark g v).port i = s.port i := rfl

@[simp] theorem State.port_setSources (s : State) (g : Gallery) (v : SourceSet) (i : Port) : (s.setSources g v).port i = s.port i := rfl

@[simp] theorem State.port_setShade (s : State) (g : Gallery) (v : Bool) (i : Port) : (s.setShade g v).port i = s.port i := rfl

@[simp] theorem State.port_setTriggerCfg (s : State) (x : Trigger) (v : TriggerCfg) (i : Port) : (s.setTriggerCfg x v).port i = s.port i := rfl

@[simp] theorem State.port_setTriggerLevel (s : State) (x : Trigger) (v : Bool) (i : Port) : (s.setTriggerLevel x v).port i = s.port i := rfl

@[simp] theorem State.port_setSeq (s : State) (v : Sequencer) (i : Port) : (s.setSeq v).port i = s.port i := rfl

@[simp] theorem State.port_setCheckResult (s : State) (g : Gallery) (v : CheckResult) (i : Port) : (s.setCheckResult g v).port i = s.port i := rfl

@[simp] theorem State.port_setSetup (s : State) (v : CheckSetup) (i : Port) : (s.setSetup v).port i = s.port i := rfl

@[simp] theorem State.port_setLines (s : State) (p : Port) (v : PortLines) (i : Port) : (s.setLines p v).port i = s.port i := rfl

@[simp] theorem State.port_setTimeout (s : State) (p : Port) (n : Nat) (i : Port) : (s.setTimeout p n).port i = s.port i := rfl

@[simp] theorem State.port_send (s : State) (c : Instr) (i : Port) : (s.send c).port i = s.port i := rfl

@[simp] theorem State.port_take (s : State) (c : Instr) (i : Port) : (s.take c).port i = s.port i := rfl

@[simp] theorem State.port_seal (s : State) (i : Port) : (s.seal).port i = s.port i := rfl

/-! ### Reads through `State.startComplete` -/

@[simp] theorem State.startComplete_setCfg (s : State) (c : Chan) (v : ChanCfg) : (s.setCfg c v).startComplete = s.startComplete := rfl

@[simp] theorem State.startComplete_setCheckFault (s : State) (c : Chan) (v : Bool) : (s.setCheckFault c v).startComplete = s.startComplete := rfl

@[simp] theorem State.startComplete_setChan (s : State) (c : Chan) (v : ChanRec) : (s.setChan c v).startComplete = s.startComplete := rfl

@[simp] theorem State.startComplete_setCal (s : State) (v : Option CalContext) : (s.setCal v).startComplete = s.startComplete := rfl

@[simp] theorem State.startComplete_setFaulted (s : State) (g : Gallery) (n : Nat) : (s.setFaulted g n).startComplete = s.startComplete := rfl

@[simp] theorem State.startComplete_setTracker (s : State) (c : Chan) (v : Tracker) : (s.setTracker c v).startComplete = s.startComplete := rfl

@[simp] theorem State.startComplete_setClock (s : State) (v : Clock) : (s.setClock v).startComplete = s.startComplete := rfl

@[simp] theorem State.startComplete_setEnvRet (s : State) (g : Gallery) (v : EnvRetained) : (s.setEnvRet g v).startComplete = s.startComplete := rfl

@[simp] theorem State.startComplete_setEnvStaged (s : State) (g : Gallery) (v : EnvStaged) : (s.setEnvStaged g v).startComplete = s.startComplete := rfl

@[simp] theorem State.startComplete_setAccount (s : State) (g : Gallery) (v : Account) : (s.setAccount g v).startComplete = s.startComplete := rfl

@[simp] theorem State.startComplete_setLight (s : State) (g : Gallery) (v : LightRec) : (s.setLight g v).startComplete = s.startComplete := rfl

@[simp] theorem State.startComplete_setClimate (s : State) (g : Gallery) (v : ClimateRec) : (s.setClimate g v).startComplete = s.startComplete := rfl

@[simp] theorem State.startComplete_setHistory (s : State) (v : History) : (s.setHistory v).startComplete = s.startComplete := rfl

@[simp] theorem State.startComplete_setRing (s : State) (g : Gallery) (v : Ring) : (s.setRing g v).startComplete = s.startComplete := rfl

@[simp] theorem State.startComplete_setAggregates (s : State) (g : Gallery) (v : Aggregates) : (s.setAggregates g v).startComplete = s.startComplete := rfl

@[simp] theorem State.startComplete_setLogRet (s : State) (v : LogRetained) : (s.setLogRet v).startComplete = s.startComplete := rfl

@[simp] theorem State.startComplete_setActiveType (s : State) (g : Gallery) (t : ExcType) (v : Bool) : (s.setActiveType g t v).startComplete = s.startComplete := rfl

@[simp] theorem State.startComplete_setMarker (s : State) (v : Bool) : (s.setMarker v).startComplete = s.startComplete := rfl

@[simp] theorem State.startComplete_setDark (s : State) (g : Gallery) (v : DarkRec) : (s.setDark g v).startComplete = s.startComplete := rfl

@[simp] theorem State.startComplete_setSources (s : State) (g : Gallery) (v : SourceSet) : (s.setSources g v).startComplete = s.startComplete := rfl

@[simp] theorem State.startComplete_setShade (s : State) (g : Gallery) (v : Bool) : (s.setShade g v).startComplete = s.startComplete := rfl

@[simp] theorem State.startComplete_setTriggerCfg (s : State) (x : Trigger) (v : TriggerCfg) : (s.setTriggerCfg x v).startComplete = s.startComplete := rfl

@[simp] theorem State.startComplete_setTriggerLevel (s : State) (x : Trigger) (v : Bool) : (s.setTriggerLevel x v).startComplete = s.startComplete := rfl

@[simp] theorem State.startComplete_setSeq (s : State) (v : Sequencer) : (s.setSeq v).startComplete = s.startComplete := rfl

@[simp] theorem State.startComplete_setCheckResult (s : State) (g : Gallery) (v : CheckResult) : (s.setCheckResult g v).startComplete = s.startComplete := rfl

@[simp] theorem State.startComplete_setSetup (s : State) (v : CheckSetup) : (s.setSetup v).startComplete = s.startComplete := rfl

@[simp] theorem State.startComplete_setPort (s : State) (p : Port) (v : PortRec) : (s.setPort p v).startComplete = s.startComplete := rfl

@[simp] theorem State.startComplete_setLines (s : State) (p : Port) (v : PortLines) : (s.setLines p v).startComplete = s.startComplete := rfl

@[simp] theorem State.startComplete_setTimeout (s : State) (p : Port) (n : Nat) : (s.setTimeout p n).startComplete = s.startComplete := rfl

@[simp] theorem State.startComplete_send (s : State) (c : Instr) : (s.send c).startComplete = s.startComplete := rfl

@[simp] theorem State.startComplete_take (s : State) (c : Instr) : (s.take c).startComplete = s.startComplete := rfl

@[simp] theorem State.startComplete_seal (s : State) : (s.seal).startComplete = s.startComplete := rfl

/-! ### Reads of what was written -/

@[simp] theorem State.account_setAccount (s : State) (g h : Gallery) (v : Account) :
    (s.setAccount g v).account h = if h = g then v else s.account h := PerGallery.get_set _ _ _ _

@[simp] theorem State.lightRec_setLight (s : State) (g h : Gallery) (v : LightRec) :
    (s.setLight g v).lightRec h = if h = g then v else s.lightRec h := PerGallery.get_set _ _ _ _

@[simp] theorem State.climateRec_setClimate (s : State) (g h : Gallery) (v : ClimateRec) :
    (s.setClimate g v).climateRec h = if h = g then v else s.climateRec h := PerGallery.get_set _ _ _ _

@[simp] theorem State.ring_setRing (s : State) (g h : Gallery) (v : Ring) :
    (s.setRing g v).ring h = if h = g then v else s.ring h := PerGallery.get_set _ _ _ _

@[simp] theorem State.aggregates_setAggregates (s : State) (g h : Gallery) (v : Aggregates) :
    (s.setAggregates g v).aggregates h = if h = g then v else s.aggregates h := PerGallery.get_set _ _ _ _

@[simp] theorem State.darkRec_setDark (s : State) (g h : Gallery) (v : DarkRec) :
    (s.setDark g v).darkRec h = if h = g then v else s.darkRec h := PerGallery.get_set _ _ _ _

@[simp] theorem State.sources_setSources (s : State) (g h : Gallery) (v : SourceSet) :
    (s.setSources g v).sources h = if h = g then v else s.sources h := PerGallery.get_set _ _ _ _

@[simp] theorem State.envStaged_setEnvStaged (s : State) (g h : Gallery) (v : EnvStaged) :
    (s.setEnvStaged g v).envStaged h = if h = g then v else s.envStaged h := PerGallery.get_set _ _ _ _

@[simp] theorem State.checkResult_setCheckResult (s : State) (g h : Gallery) (v : CheckResult) :
    (s.setCheckResult g v).checkResult h = if h = g then v else s.checkResult h := PerGallery.get_set _ _ _ _

@[simp] theorem State.active_setEnvRet (s : State) (g h : Gallery) (v : EnvRetained) :
    (s.setEnvRet g v).active h = if h = g then v.active else s.active h := by
  simp only [State.active, State.setEnvRet_ret, PerGallery.get_set]
  split <;> rfl

@[simp] theorem State.loanLock_setEnvRet (s : State) (g h : Gallery) (v : EnvRetained) :
    (s.setEnvRet g v).loanLock h = if h = g then v.loanLock else s.loanLock h := by
  simp only [State.loanLock, State.setEnvRet_ret, PerGallery.get_set]
  split <;> rfl

@[simp] theorem State.cfg_setCfg (s : State) (c d : Chan) (v : ChanCfg) :
    (s.setCfg c v).cfg d = if d = c then v else s.cfg d := getChan_setChan _ _ _ _

@[simp] theorem State.checkFault_setCheckFault (s : State) (c d : Chan) (v : Bool) :
    (s.setCheckFault c v).checkFault d = if d = c then v else s.checkFault d := getChan_setChan _ _ _ _

@[simp] theorem State.chan_setChan (s : State) (c d : Chan) (v : ChanRec) :
    (s.setChan c v).chan d = if d = c then v else s.chan d := getChan_setChan _ _ _ _

@[simp] theorem State.tracker_setTracker (s : State) (c d : Chan) (v : Tracker) :
    (s.setTracker c v).tracker d = if d = c then v else s.tracker d := getChan_setChan _ _ _ _

@[simp] theorem State.port_setPort (s : State) (p i : Port) (v : PortRec) :
    (s.setPort p v).port i = if i = p then v else s.port i := PerPort.get_set _ _ _ _

@[simp] theorem State.clock_setClock (s : State) (v : Clock) : (s.setClock v).clock = v := rfl

@[simp] theorem State.isActive_setActiveType (s : State) (g h : Gallery) (t u : ExcType) (v : Bool) :
    (s.setActiveType g t v).isActive h u = if h = g ∧ u = t then v else s.isActive h u := by
  simp only [State.isActive, State.setActiveType_log, PerGallery.get_set]
  by_cases hg : h = g
  · subst hg
    simp [PerType.get_set]
  · simp [hg]

end Sys2Proof.Machine
end

