-- ==== Sys2Proof/Laws/Ops.lean ====
section
/-! SUPPORT. What each shared operation can do, said once: delivery, requests, sending, attention, and the actions on all six
galleries. -/

namespace Sys2Proof.Machine

/-! ## Delivery -/

/-- A block that is ready takes the command and acts. -/
theorem deliver_ready {b : Block} {s : State} (h : Ready s b) (c : Instr) (act : State → State) :
    deliver b c s act = .next (act (s.take c)).seal := by
  simp [deliver, h.1, h.2]

/-- A part that is held or unpowered takes nothing. -/
theorem deliver_held {s : State} (h : s.phase ≠ .running) (b : Block) (c : Instr) (act : State → State) :
    deliver b c s act = .next s := by
  simp [deliver, h]

/-- A command for a block that has not started waits. -/
theorem deliver_awaiting {b : Block} {s : State} (h : s.phase = .running) (hb : b ∈ s.awaiting) (c : Instr)
    (act : State → State) : deliver b c s act = .next (s.wait c) := by
  simp [deliver, h, hb]

/-- Everything a delivery can do. -/
theorem deliver_cases {b : Block} {c : Instr} {s t : State} {act : State → State} (h : deliver b c s act = .next t) :
    (s.phase ≠ .running ∧ t = s) ∨ (s.phase = .running ∧ b ∈ s.awaiting ∧ t = s.wait c) ∨
      (Ready s b ∧ t = (act (s.take c)).seal) := by
  unfold deliver at h
  split at h
  · split at h
    · cases h
      exact .inr (.inl ⟨‹_›, ‹_›, rfl⟩)
    · cases h
      exact .inr (.inr ⟨⟨‹_›, ‹_›⟩, rfl⟩)
  · cases h
    exact .inl ⟨‹_›, rfl⟩

/-- A delivery always answers a next state. -/
theorem deliver_next (b : Block) (c : Instr) (s : State) (act : State → State) : ∃ t, deliver b c s act = .next t := by
  unfold deliver
  split
  · split <;> exact ⟨_, rfl⟩
  · exact ⟨_, rfl⟩

/-- A permitted request of a ready owner is taken, and its answer sent. -/
theorem request_ready {b : Block} {s : State} (h : Ready s b) (c : Instr) (code : Nat) {permitted : Port → Bool} {q : Req}
    (hq : permitted q.port = true) (act : State → Taken) :
    request b c code permitted q s act =
      .next (((act (s.take c)).1.send (.replyNotice q.port
        (replyTo q code (act (s.take c)).2.1 (act (s.take c)).2.2))).seal) := by
  simp [request, deliver_ready h, hq]

/-- A request from a port that may not send it is refused with NOT_PERMITTED. -/
theorem request_notPermitted {b : Block} {s : State} (h : Ready s b) (c : Instr) (code : Nat) {permitted : Port → Bool}
    {q : Req} (hq : permitted q.port = false) (act : State → Taken) :
    request b c code permitted q s act =
      .next (((s.take c).send (.replyNotice q.port (replyTo q code .notPermitted 0))).seal) := by
  simp [request, deliver_ready h, hq]

/-- A guarded command does its event or nothing. -/
theorem onlyWhen_cases (p : Bool) (s : State) (a : Answer) : onlyWhen p s a = a ∨ onlyWhen p s a = .next s := by
  cases p
  · exact .inr rfl
  · exact .inl rfl

/-! ## Waiting and attention -/

/-- A command that waits is no longer in flight and joins those that wait; everything else stays. -/
theorem wait_eq (s : State) (c : Instr) :
    s.wait c = { s with inFlight := s.inFlight.erase c, waiting := s.waiting ++ [c] } := rfl

@[simp] theorem State.wait_inFlight (s : State) (c : Instr) : (s.wait c).inFlight = s.inFlight.erase c := rfl

@[simp] theorem State.wait_waiting (s : State) (c : Instr) : (s.wait c).waiting = s.waiting ++ [c] := rfl

/-- The commands that waited for a block stand first in flight once it has started; everything else stays. -/
theorem admitWaiting_eq (s : State) (b : Block) :
    s.admitWaiting b = { s with
      inFlight := (s.waiting.filter fun c => blockOf c = some b) ++ s.inFlight,
      waiting := s.waiting.filter fun c => blockOf c ≠ some b } := rfl

/-- An admission loses no command: every one that was in flight or waited is so still. -/
theorem mem_admitWaiting (s : State) (b : Block) (c : Instr) :
    c ∈ (s.admitWaiting b).inFlight ++ (s.admitWaiting b).waiting ↔ c ∈ s.inFlight ++ s.waiting := by
  simp only [admitWaiting_eq, List.mem_append, List.mem_filter, decide_eq_true_eq]
  tauto

/-- A block that starts twice over has nothing to admit the second time. -/
theorem admitWaiting_again (s : State) (b : Block) : (s.admitWaiting b).admitWaiting b = s.admitWaiting b := by
  simp [admitWaiting_eq, List.filter_filter]

/-- Attention with a start complete: a notice to each port controller. -/
theorem attend_complete {s : State} (h : s.startComplete = true) (c : Cause) (g : Option Gallery) :
    s.attend c g = { s with inFlight := s.inFlight ++
      [.attentionNotice .climate c g, .attentionNotice .lighting c g, .attentionNotice .conservation c g] } := by
  simp [State.attend, h, State.send, List.append_assoc]

/-- Attention while a start is under way is dropped. -/
theorem attend_starting {s : State} (h : s.startComplete = false) (c : Cause) (g : Option Gallery) : s.attend c g = s := by
  simp [State.attend, h]

/-- Attention leaves everything but what is in flight. -/
theorem attend_eq (s : State) (c : Cause) (g : Option Gallery) :
    s.attend c g = { s with inFlight := (s.attend c g).inFlight } := by
  unfold State.attend
  split <;> rfl

@[simp] theorem State.attend_phase (s : State) (c : Cause) (g : Option Gallery) : (s.attend c g).phase = s.phase := by rw [attend_eq s c g]

@[simp] theorem State.attend_awaiting (s : State) (c : Cause) (g : Option Gallery) : (s.attend c g).awaiting = s.awaiting := by rw [attend_eq s c g]

@[simp] theorem State.attend_ret (s : State) (c : Cause) (g : Option Gallery) : (s.attend c g).ret = s.ret := by rw [attend_eq s c g]

@[simp] theorem State.attend_latch (s : State) (c : Cause) (g : Option Gallery) : (s.attend c g).latch = s.latch := by rw [attend_eq s c g]

@[simp] theorem State.attend_checkCode (s : State) (c : Cause) (g : Option Gallery) : (s.attend c g).checkCode = s.checkCode := by rw [attend_eq s c g]

@[simp] theorem State.attend_acq (s : State) (c : Cause) (g : Option Gallery) : (s.attend c g).acq = s.acq := by rw [attend_eq s c g]

@[simp] theorem State.attend_trackers (s : State) (c : Cause) (g : Option Gallery) : (s.attend c g).trackers = s.trackers := by rw [attend_eq s c g]

@[simp] theorem State.attend_env (s : State) (c : Cause) (g : Option Gallery) : (s.attend c g).env = s.env := by rw [attend_eq s c g]

@[simp] theorem State.attend_light (s : State) (c : Cause) (g : Option Gallery) : (s.attend c g).light = s.light := by rw [attend_eq s c g]

@[simp] theorem State.attend_climate (s : State) (c : Cause) (g : Option Gallery) : (s.attend c g).climate = s.climate := by rw [attend_eq s c g]

@[simp] theorem State.attend_agg (s : State) (c : Cause) (g : Option Gallery) : (s.attend c g).agg = s.agg := by rw [attend_eq s c g]

@[simp] theorem State.attend_log (s : State) (c : Cause) (g : Option Gallery) : (s.attend c g).log = s.log := by rw [attend_eq s c g]

@[simp] theorem State.attend_dark (s : State) (c : Cause) (g : Option Gallery) : (s.attend c g).dark = s.dark := by rw [attend_eq s c g]

@[simp] theorem State.attend_seq (s : State) (c : Cause) (g : Option Gallery) : (s.attend c g).seq = s.seq := by rw [attend_eq s c g]

@[simp] theorem State.attend_ports (s : State) (c : Cause) (g : Option Gallery) : (s.attend c g).ports = s.ports := by rw [attend_eq s c g]

@[simp] theorem State.attend_lines (s : State) (c : Cause) (g : Option Gallery) : (s.attend c g).lines = s.lines := by rw [attend_eq s c g]

@[simp] theorem State.attend_shade (s : State) (c : Cause) (g : Option Gallery) : (s.attend c g).shade = s.shade := by rw [attend_eq s c g]

@[simp] theorem State.attend_trigger (s : State) (c : Cause) (g : Option Gallery) : (s.attend c g).trigger = s.trigger := by rw [attend_eq s c g]

@[simp] theorem State.attend_straps (s : State) (c : Cause) (g : Option Gallery) : (s.attend c g).straps = s.straps := by rw [attend_eq s c g]

@[simp] theorem State.attend_waiting (s : State) (c : Cause) (g : Option Gallery) : (s.attend c g).waiting = s.waiting := by rw [attend_eq s c g]

@[simp] theorem State.attend_pending (s : State) (c : Cause) (g : Option Gallery) : (s.attend c g).pending = s.pending := by rw [attend_eq s c g]

@[simp] theorem State.wait_phase (s : State) (c : Instr) : (s.wait c).phase = s.phase := rfl

@[simp] theorem State.wait_awaiting (s : State) (c : Instr) : (s.wait c).awaiting = s.awaiting := rfl

@[simp] theorem State.wait_ret (s : State) (c : Instr) : (s.wait c).ret = s.ret := rfl

@[simp] theorem State.wait_latch (s : State) (c : Instr) : (s.wait c).latch = s.latch := rfl

@[simp] theorem State.wait_checkCode (s : State) (c : Instr) : (s.wait c).checkCode = s.checkCode := rfl

@[simp] theorem State.wait_acq (s : State) (c : Instr) : (s.wait c).acq = s.acq := rfl

@[simp] theorem State.wait_trackers (s : State) (c : Instr) : (s.wait c).trackers = s.trackers := rfl

@[simp] theorem State.wait_env (s : State) (c : Instr) : (s.wait c).env = s.env := rfl

@[simp] theorem State.wait_light (s : State) (c : Instr) : (s.wait c).light = s.light := rfl

@[simp] theorem State.wait_climate (s : State) (c : Instr) : (s.wait c).climate = s.climate := rfl

@[simp] theorem State.wait_agg (s : State) (c : Instr) : (s.wait c).agg = s.agg := rfl

@[simp] theorem State.wait_log (s : State) (c : Instr) : (s.wait c).log = s.log := rfl

@[simp] theorem State.wait_dark (s : State) (c : Instr) : (s.wait c).dark = s.dark := rfl

@[simp] theorem State.wait_seq (s : State) (c : Instr) : (s.wait c).seq = s.seq := rfl

@[simp] theorem State.wait_ports (s : State) (c : Instr) : (s.wait c).ports = s.ports := rfl

@[simp] theorem State.wait_lines (s : State) (c : Instr) : (s.wait c).lines = s.lines := rfl

@[simp] theorem State.wait_shade (s : State) (c : Instr) : (s.wait c).shade = s.shade := rfl

@[simp] theorem State.wait_trigger (s : State) (c : Instr) : (s.wait c).trigger = s.trigger := rfl

@[simp] theorem State.wait_straps (s : State) (c : Instr) : (s.wait c).straps = s.straps := rfl

@[simp] theorem State.wait_pending (s : State) (c : Instr) : (s.wait c).pending = s.pending := rfl

@[simp] theorem State.cfg_attend (s : State) (c : Cause) (x : Option Gallery) (d : Chan) : (s.attend c x).cfg d = s.cfg d := by
  rw [attend_eq s c x]; rfl

@[simp] theorem State.checkFault_attend (s : State) (c : Cause) (x : Option Gallery) (d : Chan) : (s.attend c x).checkFault d = s.checkFault d := by
  rw [attend_eq s c x]; rfl

@[simp] theorem State.chan_attend (s : State) (c : Cause) (x : Option Gallery) (d : Chan) : (s.attend c x).chan d = s.chan d := by
  rw [attend_eq s c x]; rfl

@[simp] theorem State.tracker_attend (s : State) (c : Cause) (x : Option Gallery) (d : Chan) : (s.attend c x).tracker d = s.tracker d := by
  rw [attend_eq s c x]; rfl

@[simp] theorem State.clock_attend (s : State) (c : Cause) (x : Option Gallery) : (s.attend c x).clock = s.clock := by
  rw [attend_eq s c x]; rfl

@[simp] theorem State.active_attend (s : State) (c : Cause) (x : Option Gallery) (h : Gallery) : (s.attend c x).active h = s.active h := by
  rw [attend_eq s c x]; rfl

@[simp] theorem State.loanLock_attend (s : State) (c : Cause) (x : Option Gallery) (h : Gallery) : (s.attend c x).loanLock h = s.loanLock h := by
  rw [attend_eq s c x]; rfl

@[simp] theorem State.envStaged_attend (s : State) (c : Cause) (x : Option Gallery) (h : Gallery) : (s.attend c x).envStaged h = s.envStaged h := by
  rw [attend_eq s c x]; rfl

@[simp] theorem State.account_attend (s : State) (c : Cause) (x : Option Gallery) (h : Gallery) : (s.attend c x).account h = s.account h := by
  rw [attend_eq s c x]; rfl

@[simp] theorem State.lightRec_attend (s : State) (c : Cause) (x : Option Gallery) (h : Gallery) : (s.attend c x).lightRec h = s.lightRec h := by
  rw [attend_eq s c x]; rfl

@[simp] theorem State.climateRec_attend (s : State) (c : Cause) (x : Option Gallery) (h : Gallery) : (s.attend c x).climateRec h = s.climateRec h := by
  rw [attend_eq s c x]; rfl

@[simp] theorem State.ring_attend (s : State) (c : Cause) (x : Option Gallery) (h : Gallery) : (s.attend c x).ring h = s.ring h := by
  rw [attend_eq s c x]; rfl

@[simp] theorem State.aggregates_attend (s : State) (c : Cause) (x : Option Gallery) (h : Gallery) : (s.attend c x).aggregates h = s.aggregates h := by
  rw [attend_eq s c x]; rfl

@[simp] theorem State.isActive_attend (s : State) (c : Cause) (x : Option Gallery) (h : Gallery) (u : ExcType) : (s.attend c x).isActive h u = s.isActive h u := by
  rw [attend_eq s c x]; rfl

@[simp] theorem State.darkRec_attend (s : State) (c : Cause) (x : Option Gallery) (h : Gallery) : (s.attend c x).darkRec h = s.darkRec h := by
  rw [attend_eq s c x]; rfl

@[simp] theorem State.sources_attend (s : State) (c : Cause) (x : Option Gallery) (h : Gallery) : (s.attend c x).sources h = s.sources h := by
  rw [attend_eq s c x]; rfl

@[simp] theorem State.checkResult_attend (s : State) (c : Cause) (x : Option Gallery) (h : Gallery) : (s.attend c x).checkResult h = s.checkResult h := by
  rw [attend_eq s c x]; rfl

@[simp] theorem State.port_attend (s : State) (c : Cause) (x : Option Gallery) (i : Port) : (s.attend c x).port i = s.port i := by
  rw [attend_eq s c x]; rfl

@[simp] theorem State.startComplete_attend (s : State) (c : Cause) (x : Option Gallery) : (s.attend c x).startComplete = s.startComplete := by
  rw [attend_eq s c x]; rfl

/-- What is in flight after attention starts with what was in flight. -/
theorem attend_inFlight_prefix (s : State) (c : Cause) (g : Option Gallery) : s.inFlight <+: (s.attend c g).inFlight := by
  unfold State.attend
  split
  · simp [State.send, List.append_assoc]
  · exact List.prefix_rfl

/-- An attention joins its three notices to what is in flight, or none while a start is under way. -/
theorem attend_inFlight (s : State) (c : Cause) (g : Option Gallery) :
    (s.attend c g).inFlight = s.inFlight ++ attention s c g := by
  unfold State.attend attention
  split <;> simp [State.send, List.append_assoc]

/-! ## Actions on all galleries -/

/-- What an action on every gallery keeps, the six keep. -/
theorem forGalleries_keeps {P : State → Prop} {f : Gallery → State → State} (h : ∀ g s, P s → P (f g s)) {s : State}
    (hs : P s) : P (forGalleries f s) :=
  h _ _ (h _ _ (h _ _ (h _ _ (h _ _ (h _ _ hs)))))

/-- A value an action on every gallery leaves, the six leave. -/
theorem forGalleries_same {α : Type} (r : State → α) {f : Gallery → State → State} (h : ∀ g s, r (f g s) = r s)
    (s : State) : r (forGalleries f s) = r s := by
  simp [forGalleries, h]

/-- When an action on a gallery computes that gallery's part of a table from that part alone, and leaves the other parts,
the six actions compute every part. -/
theorem forGalleries_each {α : Type} (r : State → Gallery → α) (φ : Gallery → α → α) {f : Gallery → State → State}
    (self : ∀ g s, r (f g s) g = φ g (r s g)) (other : ∀ g h s, h ≠ g → r (f g s) h = r s h) (s : State) (h : Gallery) :
    r (forGalleries f s) h = φ h (r s h) := by
  cases h <;> simp [forGalleries, self, other]

/-- When an action on a gallery sends notices that depend on that gallery's part of a table, and on what no action changes,
the six send theirs in turn. -/
theorem forGalleries_inFlight {α κ : Type} (k : State → κ) (r : State → Gallery → α) (news : κ → Gallery → α → List Instr)
    {f : Gallery → State → State} (same : ∀ g s, k (f g s) = k s) (other : ∀ g h s, h ≠ g → r (f g s) h = r s h)
    (sent : ∀ g s, (f g s).inFlight = s.inFlight ++ news (k s) g (r s g)) (s : State) :
    (forGalleries f s).inFlight = s.inFlight ++ galleries.flatMap fun g => news (k s) g (r s g) := by
  simp [forGalleries, galleries, same, other, sent]

/-- What a marking action on every gallery keeps, the six keep. -/
theorem forMask_keeps {P : State → Prop} {f : Gallery → State → State × Bool} (h : ∀ g s, P s → P (f g s).1) {s : State}
    (hs : P s) : P (forMask f s).1 :=
  h _ _ (h _ _ (h _ _ (h _ _ (h _ _ (h _ _ hs)))))

/-- A value a marking action on every gallery leaves, the six leave. -/
theorem forMask_same {α : Type} (r : State → α) {f : Gallery → State → State × Bool} (h : ∀ g s, r (f g s).1 = r s)
    (s : State) : r (forMask f s).1 = r s := by
  simp [forMask, h]

/-- The marking form of `forGalleries_each`. -/
theorem forMask_each {α : Type} (r : State → Gallery → α) (φ : Gallery → α → α) {f : Gallery → State → State × Bool}
    (self : ∀ g s, r (f g s).1 g = φ g (r s g)) (other : ∀ g h s, h ≠ g → r (f g s).1 h = r s h) (s : State) (h : Gallery) :
    r (forMask f s).1 h = φ h (r s h) := by
  cases h <;> simp [forMask, self, other]

/-- The set a marking action answers, when what it marks depends on the gallery's part of a table alone. -/
theorem forMask_mask {α : Type} (r : State → Gallery → α) (m : Gallery → α → Bool) {f : Gallery → State → State × Bool}
    (mark : ∀ g s, (f g s).2 = m g (r s g)) (other : ∀ g h s, h ≠ g → r (f g s).1 h = r s h) (s : State) :
    (forMask f s).2 = galleryMask (.ofFn fun g => m g (r s g)) := by
  simp [forMask, galleryMask, mark, other, PerGallery.ofFn]

/-- The marking form of `forGalleries_inFlight`. -/
theorem forMask_inFlight {α κ : Type} (k : State → κ) (r : State → Gallery → α) (news : κ → Gallery → α → List Instr)
    {f : Gallery → State → State × Bool} (same : ∀ g s, k (f g s).1 = k s) (other : ∀ g h s, h ≠ g → r (f g s).1 h = r s h)
    (sent : ∀ g s, (f g s).1.inFlight = s.inFlight ++ news (k s) g (r s g)) (s : State) :
    (forMask f s).1.inFlight = s.inFlight ++ galleries.flatMap fun g => news (k s) g (r s g) := by
  simp [forMask, galleries, same, other, sent]

/-- The first gallery for which a value is given is none exactly when no gallery has one. -/
theorem firstGallery_none {α : Type} (f : Gallery → Option α) : firstGallery f = none ↔ ∀ g, f g = none := by
  unfold firstGallery
  rw [List.findSome?_eq_none_iff]
  constructor
  · intro h g
    have := h g (by cases g <;> simp [galleries])
    simpa using this
  · intro h g _
    simp [h g]

/-- A request judged as a whole either refuses and changes nothing, or applies to all six galleries. -/
theorem judgeAll_cases (s : State) (judge : Gallery → Option (Result × Nat)) (apply : Gallery → State → State) (r : Result)
    (data : Nat) :
    (∃ g res d, judge g = some (res, d) ∧ judgeAll s judge apply r data = (s, res, 256 * galleryNum g + d)) ∨
      ((∀ g, judge g = none) ∧ judgeAll s judge apply r data = (forGalleries apply s, r, data)) := by
  unfold judgeAll
  split
  · rename_i g res d h
    refine .inl ⟨g, res, d, ?_, rfl⟩
    unfold firstGallery at h
    obtain ⟨g', -, h'⟩ := List.exists_of_findSome?_eq_some h
    simp only [Option.map_eq_some_iff, Prod.mk.injEq] at h'
    obtain ⟨a, ha, rfl, rfl⟩ := h'
    exact ha
  · exact .inr ⟨(firstGallery_none _).1 ‹_›, rfl⟩

/-! ## The log's extremes and the serial lines -/

/-- What an entry records as its extreme lies within the range of R138. -/
theorem recorded_le (v : Nat) : recorded v ≤ 65535 := by
  unfold recorded
  split
  · assumption
  · omega

/-- A value within the range is recorded as it is. -/
theorem recorded_of_le {v : Nat} (h : v ≤ 65535) : recorded v = v := if_pos h

@[simp] theorem PortLines.closed_frame (w : PortLines) (p : Port) (straps : BitVec 2) (r : Reply) (bits : List Bool) :
    (w.closed p straps r bits).frame = none := rfl

@[simp] theorem PortLines.closed_dataOut (w : PortLines) (p : Port) (straps : BitVec 2) (r : Reply) (bits : List Bool) :
    (w.closed p straps r bits).dataOut = shiftedOut straps r (Config.dataOutBeyond p w.overruns) bits := rfl

/-- A panel that drives data out drives one bit for each clock of the frame, to its end (R180). -/
theorem shiftedOut_length {straps : BitVec 2} {r : Reply} {beyond : Nat → Bool} {bits l : List Bool}
    (h : shiftedOut straps r beyond bits = some l) : l.length = bits.length := by
  unfold shiftedOut at h
  split at h
  · cases h
    simp [replyBytes, byteBits]
    omega
  · cases h

end Sys2Proof.Machine
end

