-- ==== Sys2Proof/Laws/Exec.lean ====
section
/-! SUPPORT. What the execution of any command comes to: a delivery to the block the command is addressed to, or nothing. -/

namespace Sys2Proof.Machine

/-- An answer that is a delivery to block `b`, or changes nothing. -/
def Delivers (b : Block) (s : State) (a : Answer) : Prop :=
  (∃ c act, a = deliver b c s act) ∨ a = .next s

theorem delivers_deliver (b : Block) (c : Instr) (s : State) (act : State → State) : Delivers b s (deliver b c s act) :=
  .inl ⟨c, act, rfl⟩

theorem delivers_request (b : Block) (c : Instr) (n : Nat) (p : Port → Bool) (q : Req) (s : State) (act : State → Taken) :
    Delivers b s (request b c n p q s act) :=
  .inl ⟨c, _, rfl⟩

theorem delivers_onlyWhen {b : Block} {s : State} {a : Answer} (p : Bool) (h : Delivers b s a) :
    Delivers b s (onlyWhen p s a) := by
  cases p
  · exact .inr rfl
  · exact h

/-- Every command that is addressed to a block is delivered to it, or changes nothing. -/
theorem exec_delivers {c : Instr} {b : Block} (s : State) (h : blockOf c = some b) : Delivers b s (exec c s) := by
  cases c <;> cases h <;> simp only [exec, arrival, writeChannel, calibrate, lightMark, darkMark, seqMark, portMark,
    execSampleArrival, execRailFault, execRailRecovery, execSpanCompletion, execZeroCompletion,
    execGalleryStartNotice, execChannelEnterNotice, execVerdictNotice, execChannelAbortNotice,
    execCorrectedSampleNotice, execStateChangeAtFilter, execStateChangeAtLight, execStateChangeAtClimate,
    execTrackedUpdateAtHistory, execTrackedUpdateAtLight, execTrackedUpdateAtClimate,
    execTrackedUpdateAtDarkening, execSecondMarkAtLight, execOverCounterExpiry, execSecondMarkAtDarkening,
    execDelayExpiry, execTimeToDarkExpiry, execHeldMinute, execHardLuxCountExpiry, execSecondMarkAtPort,
    execSilenceTimeout, execSecondMarkAtSequencer, execDwellExpiry, execHourMarkAtEnvelope, execHourMarkAtLight,
    execDayMarkAtHistory, execHourCloseNotice, execRecordWrittenNotice, execAggregateChangeNotice,
    execEnvelopeChangedAtLight, execEnvelopeChangedAtClimate, execEnvelopeChangedAtDarkening,
    execExhaustionChangeNotice, execDarkeningStateAtLight, execDarkeningStateAtSequencer,
    execPresenceNoticeAtClimate, execPresenceNoticeAtDarkening, execOpenNotice, execValueNotice, execCloseNotice,
    execAttentionNotice, execReplyNotice, execNop, execSelect, execFetch, execNextAttention, execSetAttention,
    execAttentionMode, execQueryAllowance, execDeclareLevel, execLightingDarken, execLightingRelease,
    execConservationDarken, execConservationRelease, execQueryBand, execDeclareSetpoint, execWriteStaged,
    execCommit, execDiscard, execLoanLock, execStartPeriod, execSetDate, execSetTime, execUnsetClock,
    execWriteChannelEnable, execWriteChannelGain, execWriteChannelOffset, execWriteChannelCorrectionLimit,
    execWriteChannelDeviationUnit, execWriteChannelFilterMode, execWriteChannelFastLimit,
    execWriteChannelSlowLimit, execWriteChannelHold, execCalibrateZero, execCalibrateSpan, execCheck,
    execStepReading, execCancelCheck, execCheckSetup, execPartitionSet, execPartitionWithdraw, execAdvanceMark,
    execAckExcursionOne, execAckExcursionAllClosed, execTriggerSetup, execSilenceSetup] <;> first
    | exact delivers_deliver _ _ _ _
    | exact delivers_request _ _ _ _ _ _ _
    | exact delivers_onlyWhen _ (delivers_deliver _ _ _ _)

end Sys2Proof.Machine
end

