-- ==== Sys2Proof/Tests/Slice0.lean ====
section
/-! SUPPORT. The model's own tests: an ill-formed command for each check of `Instr.wf`, one small step for each command with
what the rules and worked sequences of the spec say of it, and a state that meets the hypotheses of each statement. -/

namespace Sys2Proof.Machine.Tests

/-! ## Helpers -/

/-- The state a command leaves. -/
def did (c : Instr) (s : State) : State := match exec c s with | .next t => t | _ => State.reset

/-- A request of a master. -/
def ask (p : Port) (g : BitVec 3) (sub : BitVec 5) (v : Half) : Req := ⟨p, g, sub, v, 7⟩

/-- A request of the conservation master. -/
def cons (g : BitVec 3) (sub : BitVec 5) (v : Half) : Req := ask .conservation g sub v

/-- The reply of the last command. -/
def said (s : State) : Option (Result × Nat) :=
  match s.inFlight.getLast? with
  | some (.replyNotice _ r) => some (r.result, r.data.toNat)
  | _ => none

/-- What a port says at once. -/
def told (s : State) (p : Port) : Result × Nat := ((s.port p).reply.result, (s.port p).reply.data.toNat)

/-- The RH channel of gallery 2. -/
def h2 : Chan := ⟨.g2, .rh⟩

/-- The L channel of gallery 2. -/
def l2 : Chan := ⟨.g2, .lux⟩

/-- The state after reset with the record of RH channel 2 changed. -/
def chanAt (f : ChanRec → ChanRec) : State := State.reset.setChan h2 (f (State.reset.chan h2))

/-- The state after reset with the darkening record of gallery 2 changed. -/
def darkAt (f : DarkRec → DarkRec) (x : SourceSet) : State :=
  (State.reset.setDark .g2 (f (State.reset.darkRec .g2))).setSources .g2 x

/-- The state after reset with the light record of gallery 2 changed. -/
def lightAt (f : LightRec → LightRec) : State := State.reset.setLight .g2 (f (State.reset.lightRec .g2))

/-- The state after reset with the climate record of gallery 2 changed. -/
def climateAt (f : ClimateRec → ClimateRec) : State := State.reset.setClimate .g2 (f (State.reset.climateRec .g2))

/-- The state after reset with the account of gallery 2 changed. -/
def accountAt (f : Account → Account) : State := State.reset.setAccount .g2 (f (State.reset.account .g2))

/-- A sequencer that runs the reference step of RH channel 2. -/
def checking (x : CheckStep) (p : StepPhase) : State :=
  ((chanAt fun r => { r with state := .checking, saved := some .ok }).setCheckResult .g2
    ⟨.running, .all .notRun, .all (.all .notRun)⟩).setRun (some ⟨.g2, .rh, x, p⟩)

/-- An OPEN entry of RH_HIGH in gallery 2. -/
def entry : Entry := ⟨1, .g2, .rhHigh, false, ⟨5, 100⟩, none, 5500, 5512⟩

/-- The log with that entry. -/
def logged : State := (State.reset.setLogRet ⟨[entry], 2, false⟩).setActiveType .g2 .rhHigh true

/-- The log with a CLOSED entry. -/
def closedLog : State := State.reset.setLogRet ⟨[{ entry with closed := some ⟨5, 200⟩ }], 2, false⟩

/-- The bits of a frame of six bytes. -/
def frame (l : List Byte) : List Bool := l.flatMap byteBits

/-- A port with a frame in progress. -/
def framed : State := did (.frameBegin .lighting) State.reset

/-- An hour record of RH extremes. -/
def rhRecord (lo hi : Nat) : HourRecord := { (default : HourRecord) with rhMin := some lo, rhMax := some hi }

/-- An envelope with RH swing 600. -/
def narrow : Envelope := { defaultEnvelope with hswing := 600 }

/-- An hour mark that ends hour 14 of day 3. -/
def mark : HourMark := ⟨⟨3, 3, 14⟩, ⟨3, 3, 15⟩, false, false⟩

/-- A start notice on day 3 at 14:30. -/
def warm : StartInfo := ⟨.warm, 3, 3, 870, 5, 3, 14⟩

/-! ## Ill-formed commands -/

theorem test_wf_rail_fault : (Instr.railFault h2 5000).wf = false := by decide
theorem test_wf_rail_recovery : (Instr.railRecovery h2 0).wf = false := by decide
theorem test_wf_span : (Instr.spanCompletion h2 0).wf = false := by decide
theorem test_wf_zero : (Instr.zeroCompletion h2 0xFFFF).wf = false := by decide
theorem test_wf_corrected : (Instr.correctedSampleNotice h2 10001).wf = false := by decide
theorem test_wf_change_filter : (Instr.stateChangeAtFilter ⟨h2, .ok, .ok, false, true⟩).wf = false := by decide
theorem test_wf_change_light : (Instr.stateChangeAtLight ⟨l2, .ok, .suspect, true, false⟩).wf = false := by decide
theorem test_wf_change_climate : (Instr.stateChangeAtClimate ⟨h2, .disabled, .suspect, false, true⟩).wf = false := by
  decide
theorem test_wf_update_history : (Instr.trackedUpdateAtHistory ⟨h2, .sample, none, .ok, 50⟩).wf = false := by decide
theorem test_wf_update_light : (Instr.trackedUpdateAtLight ⟨h2, .sample, some 5, .ok, 50⟩).wf = false := by decide
theorem test_wf_update_climate : (Instr.trackedUpdateAtClimate ⟨h2, .sample, some 10001, .ok, 50⟩).wf = false := by
  decide
theorem test_wf_update_darkening : (Instr.trackedUpdateAtDarkening ⟨l2, .sample, some 5, .ok, 4097⟩).wf = false := by
  decide
theorem test_wf_second_mark : (Instr.secondMarkAtLight ⟨0, 86400⟩).wf = false ∧
    (Instr.overCounterExpiry .g2 ⟨0, 86400⟩).wf = false ∧ (Instr.secondMarkAtDarkening ⟨65536, 0⟩).wf = false ∧
    (Instr.delayExpiry .g2 ⟨0, 86400⟩).wf = false ∧ (Instr.timeToDarkExpiry .g2 ⟨0, 86400⟩).wf = false ∧
    (Instr.heldMinute .g2 ⟨0, 86400⟩).wf = false ∧ (Instr.hardLuxCountExpiry .g2 ⟨0, 86400⟩).wf = false ∧
    (Instr.secondMarkAtPort .climate ⟨0, 86400⟩).wf = false ∧ (Instr.silenceTimeout .climate ⟨0, 86400⟩).wf = false ∧
    (Instr.secondMarkAtSequencer ⟨0, 86400⟩).wf = false ∧ (Instr.dwellExpiry ⟨0, 86400⟩).wf = false := by decide
theorem test_wf_hour_mark : (Instr.hourMarkAtEnvelope { mark with beginning := ⟨3, 3, 24⟩ }).wf = false ∧
    (Instr.hourMarkAtLight { mark with dayFlag := true }).wf = false ∧ (Instr.dayMarkAtHistory mark).wf = false := by decide
theorem test_wf_hour_close : (Instr.hourCloseNotice ⟨.g2, 3, 14, 26215, default⟩).wf = false := by decide
theorem test_wf_record_written : (Instr.recordWrittenNotice .g2 3 24).wf = false := by decide
theorem test_wf_aggregate : (Instr.aggregateChangeNotice ⟨.g2, some 5, none, none, none⟩).wf = false ∧
    (Instr.aggregateChangeNotice ⟨.g2, some 5, some 4, none, none⟩).wf = false := by decide
theorem test_wf_envelope : (Instr.envelopeChangedAtLight ⟨.g2, { defaultEnvelope with oend := 25 }, []⟩).wf = false ∧
    (Instr.envelopeChangedAtClimate ⟨.g2, { defaultEnvelope with tmin := 6500 }, []⟩).wf = false ∧
    (Instr.envelopeChangedAtDarkening ⟨.g2, { defaultEnvelope with ldark := 400, lhard := 200 }, []⟩).wf = false := by decide
theorem test_wf_log : (Instr.openNotice .g2 .rhHigh 65536 0).wf = false ∧ (Instr.openNotice .g2 .rhHigh 0 65536).wf = false ∧
    (Instr.valueNotice .g2 .rhHigh 65536).wf = false ∧ (Instr.valueNotice .g2 .doseExhausted 42949936).wf = false := by decide
theorem test_wf_attention : (Instr.attentionNotice .climate .hourMark (some .g2)).wf = false ∧
    (Instr.attentionNotice .climate .channelFault none).wf = false := by decide
theorem test_wf_reading : (Instr.stepReading h2 .response (.single 5)).wf = false ∧
    (Instr.stepReading h2 .reference (.pair 5 6)).wf = false := by decide
theorem test_wf_start : (Instr.startNotice .light { warm with second := 60 }).wf = false := by decide
theorem test_wf_sender : let q := ask .climate 2 0 5
    (Instr.queryAllowance q).wf = false ∧ (Instr.declareLevel q).wf = false ∧ (Instr.lightingDarken q).wf = false ∧
    (Instr.lightingRelease q).wf = false ∧ (Instr.conservationDarken q).wf = false ∧
    (Instr.conservationRelease q).wf = false ∧ (Instr.writeStaged q).wf = false ∧ (Instr.commit q).wf = false ∧
    (Instr.discard q).wf = false ∧ (Instr.loanLock q).wf = false ∧ (Instr.startPeriod q).wf = false ∧
    (Instr.setDate q).wf = false ∧ (Instr.setTime q).wf = false ∧ (Instr.unsetClock q).wf = false ∧
    (Instr.check q).wf = false ∧ (Instr.cancelCheck q).wf = false ∧ (Instr.checkSetup q).wf = false ∧
    (Instr.advanceMark q).wf = false ∧ (Instr.triggerSetup q).wf = false ∧ (Instr.silenceSetup q).wf = false := by decide
theorem test_wf_sender_climate : (Instr.queryBand (cons 2 0 0)).wf = false ∧
    (Instr.declareSetpoint (cons 2 0 0)).wf = false := by decide
theorem test_wf_sub : let q := cons 2 0x1F 5
    (Instr.writeChannelEnable q).wf = false ∧ (Instr.writeChannelGain q).wf = false ∧
    (Instr.writeChannelOffset q).wf = false ∧ (Instr.writeChannelCorrectionLimit q).wf = false ∧
    (Instr.writeChannelDeviationUnit q).wf = false ∧ (Instr.writeChannelFilterMode q).wf = false ∧
    (Instr.writeChannelFastLimit q).wf = false ∧ (Instr.writeChannelSlowLimit (cons 2 6 5)).wf = false ∧
    (Instr.writeChannelHold q).wf = false ∧ (Instr.calibrateZero q).wf = false ∧
    (Instr.calibrateSpan (cons 2 0 5)).wf = false ∧ (Instr.partitionSet q).wf = false ∧
    (Instr.partitionWithdraw q).wf = false ∧ (Instr.ackExcursionOne q).wf = false ∧
    (Instr.ackExcursionAllClosed q).wf = false := by decide

/-! ## Acquisition unit and tracking filter bank -/

-- R3: the corrected code of an RH channel is at most 10000.
theorem test_sample_ceiling : ((did (.sampleArrival h2 12000) State.reset).chan h2).lastCorrected = some 10000 := by decide
-- R5: a rail code makes an OK channel SUSPECT.
theorem test_sample_rail : ((did (.sampleArrival h2 63) State.reset).chan h2).state = .suspect := by decide
-- R5, R10: the third rail code in a row.
theorem test_rail_fault :
    let t := did (.railFault h2 0xFFC0) (chanAt fun r => { r with state := .suspect, railCount := 2 })
    (t.chan h2).state = .fault .rail ∧ t.acq.faulted.g2 = 1 := by decide
-- R6: the eighth good code in a row.
theorem test_rail_recovery :
    let t := did (.railRecovery h2 64) ((chanAt fun r => { r with state := .fault .rail, goodRun := 7 }).setFaulted .g2 1)
    (t.chan h2).state = .ok ∧ t.acq.faulted.g2 = 0 := by decide
-- R16: floor((5000 × 1024 + 2450) / 4900) = 1045, within 205 of 1024.
theorem test_span :
    let t := did (.spanCompletion h2 4900) (State.reset.setCal (some ⟨h2, .span, 5000, 15, 73500⟩))
    (t.cfg h2).gain = 1045 ∧ (t.chan h2).cal.result = .applied := by decide
-- R16: a gain past the correction limit is limited.
theorem test_span_limited :
    (did (.spanCompletion h2 2500) (State.reset.setCal (some ⟨h2, .span, 5000, 15, 37500⟩))).cfg h2 =
      { ChanCfg.default .rh with gain := 1229 } := by decide
-- R17: 120 − 100 = 20.
theorem test_zero :
    ((did (.zeroCompletion h2 120) (State.reset.setCal (some ⟨h2, .zero, 100, 15, 1800⟩))).cfg h2).offset = 20 := by decide
-- R8, R18.
theorem test_gallery_start : (did (.galleryStartNotice .g2) (State.reset.setCal (some ⟨h2, .zero, 100, 3, 0⟩))).acq.cal = none := by
  decide
theorem test_channel_enter : ((did (.channelEnterNotice h2) State.reset).chan h2).saved = some .ok := by decide
theorem test_verdict_fail :
    let t := did (.verdictNotice h2 .fail) (chanAt fun r => { r with state := .checking, saved := some .ok })
    (t.chan h2).state = .fault .check ∧ t.checkFault h2 = true := by decide
theorem test_channel_abort :
    ((did (.channelAbortNotice h2) (chanAt fun r => { r with state := .checking, saved := some .suspect })).chan h2).state =
      .suspect := by decide
-- R24: an uninitialised tracker takes the code whole.
theorem test_track_first : (did (.correctedSampleNotice h2 5000) State.reset).tracker h2 =
    ⟨true, 80000, 0, true, none, .ok⟩ := by decide
-- R27, R30: a deviation of 8 codes below one unit of 50 has target 6, and the step is 128 / 2^6.
theorem test_track_step :
    ((did (.correctedSampleNotice h2 5008) (State.reset.setTracker h2 ⟨true, 80000, 6, false, none, .ok⟩)).tracker h2).x =
      80002 := by decide
theorem test_uninitialise :
    ((did (.stateChangeAtFilter ⟨h2, .disabled, .ok, false, true⟩)
      (State.reset.setTracker h2 ⟨true, 80000, 6, false, none, .ok⟩)).tracker h2).tracking = false := by decide
theorem test_state_at_light :
    ((did (.stateChangeAtLight ⟨l2, .ok, .suspect, false, false⟩) State.reset).lightRec .g2).lState = .suspect := by decide
-- R121: a disabled channel closes its limit excursions.
theorem test_state_at_climate :
    let t := did (.stateChangeAtClimate ⟨h2, .ok, .disabled, false, false⟩) (climateAt fun r => { r with rhHigh := true })
    (t.climateRec .g2).rhHigh = false ∧ t.inFlight = [.closeNotice .g2 .rhHigh] := by decide
-- R11: gain 100 is clamped to 512 and answered CLAMPED.
theorem test_write_gain : let t := did (.writeChannelGain (cons 2 17 100)) State.reset
    (t.cfg h2).gain = 512 ∧ said t = some (.clamped, 512) := by decide
theorem test_write_offset : let t := did (.writeChannelOffset (cons 2 18 0xFF00)) State.reset
    (t.cfg h2).offset = -256 ∧ said t = some (.ok, 0xFF00) := by decide
theorem test_write_enable : ((did (.writeChannelEnable (cons 2 16 0)) State.reset).chan h2).state = .disabled := by decide
theorem test_write_limit : ((did (.writeChannelCorrectionLimit (cons 2 19 2)) State.reset).cfg h2).corrLimit = 2 := by decide
theorem test_write_unit : ((did (.writeChannelDeviationUnit (cons 2 20 0)) State.reset).cfg h2).du = 1 := by decide
theorem test_write_mode : ((did (.writeChannelFilterMode (cons 2 21 1)) State.reset).cfg h2).mode = .twoLevel := by decide
-- R35: the slow limit of H is 6.
theorem test_write_fast : said (did (.writeChannelFastLimit (cons 2 22 9)) State.reset) = some (.clamped, 6) := by decide
theorem test_write_slow : said (did (.writeChannelSlowLimit (cons 7 23 0)) State.reset) = some (.inconsistent, 0) := by decide
theorem test_write_hold : ((did (.writeChannelHold (cons 2 16 5)) State.reset).cfg h2).hold = true := by decide
theorem test_calibrate_zero : said (did (.calibrateZero (cons 7 16 100)) State.reset) = some (.range, 0) := by decide
theorem test_calibrate_span :
    (did (.calibrateSpan (cons 2 17 5000)) State.reset).acq.cal = some ⟨h2, .span, 5000, 0, 0⟩ := by decide

/-! ## Time base -/

/-- The last second of day 65535. -/
def midnight : State := State.reset.setClock { Clock.cold with day := 65535, weekday := 6, minute := 1439, second := 59 }

-- R38, R39: the day number and the weekday wrap, and a day mark goes out.
theorem test_clock : let t := did .clockAdvance midnight
    (t.clock.day, t.clock.weekday, t.clock.minute, t.clock.second) = (0, 0, 0, 0) ∧
      Instr.dayMarkAtHistory ⟨⟨65535, 6, 23⟩, ⟨0, 0, 0⟩, true, false⟩ ∈ t.inFlight := by decide
theorem test_hour_mark : (did .hourMark State.reset).clock.second = 0 ∧ (did .hourMark midnight).clock.second = 0 := by
  decide
-- R42: on a clock that is SET a jump of more than 60 minutes is refused.
theorem test_set_time :
    said (did (.setTime (cons 0 0 61)) (State.reset.setClock { Clock.cold with isSet := true })) = some (.range, 0) := by
  decide
theorem test_set_date : let t := did (.setDate (cons 0 5 20000)) State.reset
    (t.clock.day, t.clock.weekday, t.clock.isSet) = (20000, 5, false) := by decide
theorem test_unset_clock :
    (did (.unsetClock (cons 0 0 0)) (State.reset.setClock { Clock.cold with isSet := true })).clock.isSet = false := by decide

/-! ## Envelope table -/

theorem test_write_staged : let t := did (.writeStaged (cons 2 0 2000)) State.reset
    (t.envStaged .g2).staged.lmax = 1000 ∧ said t = some (.clamped, 1000) := by decide
-- R63: check 5, TMIN below TMAX.
theorem test_commit :
    said (did (.commit (cons 2 0 0)) (State.reset.setEnvStaged .g2 ⟨{ defaultEnvelope with tmin := 6400 }, false⟩)) =
      some (.inconsistent, 5) := by decide
theorem test_discard :
    (did (.discard (cons 2 0 0)) (State.reset.setEnvStaged .g2 ⟨narrow, true⟩)).envStaged .g2 = ⟨defaultEnvelope, false⟩ := by
  decide
theorem test_loan_lock : (did (.loanLock (cons 7 0 3)) State.reset).loanLock .g5 = true := by decide
theorem test_envelope_mark :
    ((did (.hourMarkAtEnvelope mark) (State.reset.setEnvStaged .g2 ⟨narrow, true⟩)).active .g2).hswing = 600 := by decide

/-! ## Light account unit -/

-- R74, R76: 600 codes for one second at factor 256.
theorem test_light_second :
    ((did (.secondMarkAtLight ⟨0, 1⟩) (lightAt fun r => { r with lCode := some 600 })).account .g2).hourAcc = 600 := by decide +kernel
-- R103, R104: over 10 × (0 + floor(150 / 8)) for the 120th second.
theorem test_over_counter :
    ((did (.overCounterExpiry .g2 ⟨0, 1⟩) (lightAt fun r => { r with lCode := some 600, overCount := 119 })).account
      .g2).luxOver = true := by decide +kernel
-- R87: the value notice of a fold carries V in full, 67535 hundreds of lux-hours, with no bound of 16 bits.
theorem test_dose_in_full : Instr.valueNotice .g2 .doseExhausted 67535 ∈
    (did (.hourMarkAtLight mark) (accountAt fun a => { a with period := some 3, used := 6753500, exhausted := true })).inFlight := by
  decide +kernel
-- R77: 72,000 tenths of a lux-second are two lux-hours.
theorem test_light_hour :
    let a := (did (.hourMarkAtLight mark) (accountAt fun a => { a with period := some 3, used := 10, hourAcc := 72000 })).account
      .g2
    (a.used, a.carry, a.hourAcc) = (12, 0, 0) := by decide
theorem test_update_at_light :
    ((did (.trackedUpdateAtLight ⟨⟨.g2, .uv⟩, .sample, some 7501, .ok, 100⟩) State.reset).account .g2).uvHigh = true := by decide
theorem test_envelope_at_light :
    ((did (.envelopeChangedAtLight ⟨.g2, { defaultEnvelope with lclosed := 20 }, [.lclosed]⟩) State.reset).lightRec
      .g2).allowance = 20 := by decide
theorem test_dark_at_light :
    ((did (.darkeningStateAtLight .g2 true) State.reset).lightRec .g2).pace = .darkened := by decide
theorem test_start_period : said (did (.startPeriod (cons 7 0 0)) (lightAt fun r => { r with startPending := true })) =
    some (.accepted, 59) := by decide
theorem test_query_allowance : said (did (.queryAllowance (ask .lighting 2 1 0)) State.reset) = some (.ok, 2) := by decide
theorem test_declare_level : let t := did (.declareLevel (ask .lighting 2 0 90)) (lightAt fun r => { r with allowance := 80 })
    (t.lightRec .g2).declared = some 80 ∧ said t = some (.clamped, 80) := by decide

/-! ## Climate unit -/

/-- Gallery 2 of the worked sequence of chapter 7: an RH window of 4720 to 5180 and a swing of 600. -/
def worked : State := climateAt fun r => { r with env := narrow, agg := ⟨some 4720, some 5180, none, none⟩ }

-- Chapter 7: the band 4580 to 5320.
theorem test_record_written : ((did (.recordWrittenNotice .g2 3 13) worked).climateRec .g2).rh = ⟨4580, 5320, false⟩ := by
  decide
theorem test_aggregate_change :
    ((did (.aggregateChangeNotice ⟨.g2, some 4720, some 5180, none, none⟩) State.reset).climateRec .g2).rhSpan = some 460 := by
  decide
theorem test_envelope_at_climate :
    ((did (.envelopeChangedAtClimate ⟨.g2, narrow, [.hswing]⟩) (worked.setClimate .g2
      { worked.climateRec .g2 with env := defaultEnvelope })).climateRec .g2).rh = ⟨4580, 5320, false⟩ := by decide
-- R119: HSET + HBAND = 5500.
theorem test_update_at_climate :
    (did (.trackedUpdateAtClimate ⟨h2, .sample, some 5512, .ok, 50⟩) State.reset).inFlight =
      [.openNotice .g2 .rhHigh 5500 5512] := by decide
theorem test_presence_at_climate :
    ((did (.presenceNoticeAtClimate .absent) (climateAt fun r => { r with rhSet := some 5000 })).climateRec .g2).rhSet =
      none := by decide
theorem test_query_band : said (did (.queryBand (ask .climate 2 1 0)) State.reset) = some (.ok, 5500) := by decide
theorem test_declare_setpoint : said (did (.declareSetpoint (ask .climate 2 0 5600)) State.reset) = some (.clamped, 5500) := by
  decide

/-! ## History store -/

theorem test_update_at_history :
    ((did (.trackedUpdateAtHistory ⟨h2, .sample, some 5200, .ok, 50⟩) State.reset).aggregates .g2).rhMax = some 5200 := by
  decide
theorem test_hour_close : let t := did (.hourCloseNotice ⟨.g2, 3, 14, 27, default⟩) State.reset
    ((t.ring .g2).count, (t.ring .g2).unread, (t.ring .g2).newest) = (1, 1, some 0) := by decide
theorem test_day_mark :
    let s := State.reset.setHistory { History.cold with pendingPartition := some ⟨24, 72, 72, 72, 72, 72⟩ }
    ((did (.dayMarkAtHistory ⟨⟨3, 3, 23⟩, ⟨4, 4, 0⟩, true, false⟩) s).ring .g1).base = 24 := by decide
theorem test_partition_set : said (did (.partitionSet (cons 7 0 100)) State.reset) = some (.inconsistent, 600) := by decide
theorem test_partition_withdraw :
    (did (.partitionWithdraw (cons 0 1 0)) (State.reset.setHistory
      { History.cold with pendingPartition := some (.all 72) })).ret.history.pendingPartition = none := by decide
theorem test_advance_mark :
    said (did (.advanceMark (cons 2 0 5)) (State.reset.setRing .g2 ⟨144, 72, 3, some 2, 3, true⟩)) = some (.clamped, 32771) := by
  decide

/-! ## Excursion log -/

-- R141, R142: the first id is 0.
theorem test_open : (did (.openNotice .g2 .rhHigh 5500 5512) State.reset).ret.log =
    ⟨[⟨0, .g2, .rhHigh, false, ⟨0, 0⟩, none, 5500, 5512⟩], 1, false⟩ := by decide
theorem test_value : ((did (.valueNotice .g2 .rhHigh 5530) logged).ret.log.pool.map Entry.extreme) = [5530] := by decide
theorem test_close : ((did (.closeNotice .g2 .rhHigh) logged).ret.log.pool.map Entry.closed) = [some ⟨0, 0⟩] := by decide
theorem test_ack_open : let t := did (.ackExcursionOne (cons 2 0 1)) logged
    t.ret.log.pool.map Entry.acked = [true] ∧ said t = some (.ok, 0) := by decide
theorem test_ack_all : let t := did (.ackExcursionAllClosed (cons 7 1 0)) closedLog
    t.ret.log.pool = [] ∧ said t = some (.ok, 1) := by decide

/-! ## Darkening controller -/

/-- One source in a gallery's set. -/
def lightOnly : SourceSet := { SourceSet.empty with lightReq := true }

theorem test_dark_second :
    ((did (.secondMarkAtDarkening ⟨0, 1⟩) (darkAt (fun r => { r with state := .armed, delayLeft := some 15, armedWith := 15 })
      lightOnly)).darkRec .g2).delayLeft = some 14 := by decide
theorem test_delay_expiry :
    let t := did (.delayExpiry .g2 ⟨0, 1⟩) (darkAt (fun r => { r with state := .armed, delayLeft := some 1, armedWith := 15 })
      lightOnly)
    (t.darkRec .g2).state = .darkening ∧ t.shade.g2 = true := by decide
theorem test_time_to_dark :
    let r := (did (.timeToDarkExpiry .g2 ⟨0, 1⟩) (darkAt (fun r => { r with state := .darkening, timeToDark := 599 })
      lightOnly)).darkRec .g2
    r.state = .dark ∧ r.outcome.outcome = .notReached := by decide
theorem test_held_minute :
    ((did (.heldMinute .g2 ⟨0, 1⟩) (darkAt (fun r => { r with state := .dark, heldSub := 59 }) lightOnly)).darkRec
      .g2).outcome.heldMinutes = 1 := by decide
-- R160, R154: LHARD 400 lux, DELAY 2 for 15 seconds.
theorem test_hard_lux :
    let r := (did (.hardLuxCountExpiry .g2 ⟨0, 1⟩) (darkAt (fun r => { r with hardLux := 59, lCode := some 4000 }) .empty)).darkRec
      .g2
    r.state = .armed ∧ r.delayLeft = some 15 := by decide
theorem test_update_at_darkening :
    ((did (.trackedUpdateAtDarkening ⟨l2, .sample, some 48, .ok, 50⟩) State.reset).darkRec .g2).lCode = some 48 := by decide
theorem test_envelope_at_darkening :
    ((did (.envelopeChangedAtDarkening ⟨.g2, narrow, [.hswing]⟩) State.reset).darkRec .g2).env = narrow := by decide
theorem test_exhaustion :
    ((did (.exhaustionChangeNotice .g2 true) (darkAt (fun r => { r with env := { r.env with policy := 1 } }) .empty)).sources
      .g2).exhaust = true := by decide
theorem test_presence_at_darkening :
    ((did (.presenceNoticeAtDarkening .absent) (darkAt (fun r => { r with env := { r.env with policy := 2 } }) .empty)).sources
      .g2).lightSilence = true := by decide
theorem test_lighting_darken : said (did (.lightingDarken (ask .lighting 2 0 0)) State.reset) = some (.ok, 1) := by decide
theorem test_lighting_release : said (did (.lightingRelease (ask .lighting 2 0 0)) State.reset) = some (.notFound, 0) := by
  decide
theorem test_conservation_darken : let t := did (.conservationDarken (cons 7 1 0)) State.reset
    t.shade = .all true ∧ said t = some (.ok, 63) := by decide
theorem test_conservation_release :
    (did (.conservationRelease (cons 2 0 0)) (darkAt (fun r => { r with state := .dark }) lightOnly)).sources .g2 = .empty := by
  decide
theorem test_trigger_setup : said (did (.triggerSetup (cons 0 0 0x86)) State.reset) = some (.ok, 0x86) := by decide
theorem test_trigger_rise :
    let t := did (.triggerRise .a) (State.reset.setTriggerCfg .a ⟨6, false, true⟩)
    (t.sources .g1).inputA = true ∧ (t.sources .g3).inputA = false := by decide
theorem test_trigger_fall :
    let s := (darkAt (fun r => { r with state := .armed }) { SourceSet.empty with inputA := true }).setTriggerCfg .a
      ⟨6, false, true⟩
    let r := (did (.triggerFall .a) { s with trigger := ⟨true, false⟩ }).darkRec .g2
    r.state = .idle ∧ r.outcome.endCause = some .inputAFall := by decide

/-! ## Self-check sequencer -/

theorem test_check : let t := did (.check (cons 2 0 0)) State.reset
    t.seq.run = some ⟨.g2, .lux, .openInput, .dwell 2⟩ ∧ said t = some (.accepted, 0) := by decide
theorem test_cancel_check : let t := did (.cancelCheck (cons 2 0 0)) (checking .reference .awaiting)
    t.seq.run = none ∧ (t.checkResult .g2).summary = .cancelled := by decide
theorem test_check_setup : said (did (.checkSetup (cons 0 0 16)) State.reset) = some (.inconsistent, 0) := by decide
theorem test_seq_second :
    (did (.secondMarkAtSequencer ⟨0, 1⟩) (checking .reference (.dwell 2))).seq.run =
      some ⟨.g2, .rh, .reference, .dwell 1⟩ := by decide
theorem test_dwell_expiry :
    (did (.dwellExpiry ⟨0, 1⟩) (checking .reference (.dwell 1))).seq.run = some ⟨.g2, .rh, .reference, .awaiting⟩ := by decide
-- R174: 656 codes from mid-scale is a WARN, and the check moves on to RESPONSE.
theorem test_step_reading : let t := did (.stepReading h2 .reference (.single 33424)) (checking .reference .awaiting)
    (t.checkResult .g2).steps.rh.reference = .warn ∧ t.seq.run = some ⟨.g2, .rh, .response, .dwell 2⟩ := by decide
theorem test_dark_at_sequencer :
    ((did (.darkeningStateAtSequencer .g2 true) (checking .reference .awaiting)).checkResult .g2).summary =
      .abortedDarkening := by decide

/-! ## Ports -/

/-- The lighting port of the worked sequence of chapter 12. -/
def three : State := State.reset.setPort .lighting { PortRec.start with
  pending := [⟨.allowanceChanged, some .g2⟩, ⟨.hourMark, none⟩, ⟨.darkeningStarted, some .g3⟩] }

-- Chapter 12, frame A: 0203h.
theorem test_next_attention : told (did (.nextAttention (ask .lighting 0 0 0)) three) .lighting = (.ok, 0x0203) := by decide
theorem test_nop : told (did (.nop (ask .climate 0 0 0)) State.reset) .climate = (.ok, 0) := by decide
-- R192: the clock item has nine fields.
theorem test_select : told (did (.select (ask .climate 0 14 0)) State.reset) .climate = (.ok, 9) := by decide
theorem test_fetch : told (did (.fetch (ask .climate 0 0 3)) State.reset) .climate = (.noSelection, 0) := by decide
theorem test_set_attention : told (did (.setAttention (ask .climate 0 3 1)) State.reset) .climate = (.notPermitted, 0) := by
  decide
theorem test_attention_mode : ((did (.attentionMode (ask .climate 0 0 1)) State.reset).port .climate).line = false := by decide
theorem test_attention_notice :
    ((did (.attentionNotice .lighting .bandChanged (some .g2)) State.reset).port .lighting).pending = [⟨.partRestarted, none⟩] ∧
      ((did (.attentionNotice .climate .bandChanged (some .g2)) State.reset).port .climate).pending =
        [⟨.partRestarted, none⟩, ⟨.bandChanged, some .g2⟩] := by decide
theorem test_reply_notice : told (did (.replyNotice .climate ⟨.ok, 0x0C, 5500, 7⟩) State.reset) .climate = (.ok, 5500) := by
  decide
theorem test_port_second : ((did (.secondMarkAtPort .climate ⟨0, 1⟩) State.reset).port .climate).silence = 1 := by decide
-- R185: timeout index 2 is 60 seconds.
theorem test_silence_timeout :
    ((did (.silenceTimeout .climate ⟨0, 1⟩) (State.reset.setPort .climate { PortRec.start with silence := 59 })).port
      .climate).presence = .absent := by decide
theorem test_silence_setup : said (did (.silenceSetup (cons 0 1 9)) State.reset) = some (.clamped, 3) := by decide
-- R180: data out is driven to the end of the frame, one bit for each clock.
theorem test_frame_overlong : ((did (.frameEnd .lighting (List.replicate 50 false)) framed).lines.get .lighting).overruns = 1 ∧
    ((did (.frameEnd .lighting (List.replicate 50 false)) framed).lines.get .lighting).dataOut.map List.length = some 50 := by
  decide +kernel
theorem test_frame_begin : (framed.lines.get .lighting).frame = some ⟨replyStart, false⟩ := by decide
-- R181: the CRC of 03 00 00 00 11 is E8, computed outside the model.
theorem test_frame_end :
    let t := did (.frameEnd .lighting (frame [0x03, 0, 0, 0, 0x11, 0xE8])) framed
    told t .lighting = (.ok, 0x01FF) ∧ (t.port .lighting).presence = .present := by decide +kernel
-- R181: one bit of byte 2 flipped on the line.
theorem test_frame_crc : (did (.frameEnd .lighting (frame [0x03, 0, 1, 0, 0x11, 0xE8])) framed).port .lighting =
    { PortRec.start with reply := ⟨.frameError, 3, 0, 0x11⟩ } := by decide +kernel

/-! ## Supply and starts -/

theorem test_supply_loss : (did .mainSupplyLoss State.reset).phase = .unpowered := by decide
theorem test_latch : (did .supplyLossLatch (did .mainSupplyLoss State.reset)).latch = true := by decide
theorem test_power_up : let t := did .powerUp { did .mainSupplyLoss State.reset with latch := true }
    t.clock.lastStart = .cold ∧ t.latch = false ∧ t.awaiting.length = 13 := by decide
theorem test_resetn_assert : (did .resetnAssert (State.reset.setSources .g2 lightOnly)).shade.g2 = true := by decide
theorem test_resetn_release : (did .resetnRelease (did .resetnAssert State.reset)).clock.lastStart = .warmReset := by decide
-- R21: a check-fault flag brings the channel up in FAULT with cause CHECK.
theorem test_start_notice :
    let t := did (.startNotice .acquisition warm) (State.reset.setCheckFault h2 true)
    (t.chan h2).state = .fault .check ∧ t.acq.faulted.g2 = 1 := by decide

/-- An open and a close of RH_HIGH in gallery 2, and the log still awaiting its start notice with both waiting. -/
def opens : Instr := .openNotice .g2 .rhHigh 5500 5512
def closes : Instr := .closeNotice .g2 .rhHigh
def held : State := { State.reset with awaiting := [.log], waiting := [opens, closes] }

-- R151: an equal open notice after the close waits behind it.
theorem test_notice_waits : (did opens held).waiting = [opens, closes, opens] ∧ (did opens held).inFlight = [] := by decide
-- R151: after the start notice what waited comes next, in the order it arrived.
theorem test_waiting_follows :
    let t := did (.startNotice .log warm) { held with inFlight := [.startNotice .log warm, .nop (cons 0 0 0)] }
    t.inFlight = [opens, closes, .nop (cons 0 0 0)] ∧ t.waiting = [] ∧ t.nextInFlight = some opens := by decide

/-! ## States that meet the hypotheses of the statements -/

/-- Every block of the part after reset has started. -/
theorem test_ready (b : Block) : Ready State.reset b := ⟨rfl, List.not_mem_nil⟩

/-- The state after reset with one command waiting, and a step from it. -/
def ticking : State := { State.reset with pending := [.clockAdvance] }

theorem test_meets_step : ∃ t, step ticking = .next t := ⟨_, rfl⟩

/-! ### The step -/

theorem test_meets_IdleStepTakesNotice :
    let s : State := { State.reset with inFlight := [.check (cons 2 0 0), .nop (cons 0 0 0)], awaiting := [.sequencer] }
    s.pending = [] ∧ s.inFlight = [Instr.check (cons 2 0 0)] ++ Instr.nop (cons 0 0 0) :: [] ∧
      (∀ b, blockOf (.nop (cons 0 0 0)) = some b → b ∉ s.awaiting) ∧
      ∀ d ∈ [Instr.check (cons 2 0 0)], ∃ b ∈ s.awaiting, blockOf d = some b := by
  refine ⟨rfl, rfl, ?_, ?_⟩
  · rintro b ⟨⟩
    decide
  · intro d h
    obtain rfl := List.mem_singleton.mp h
    exact ⟨.sequencer, List.mem_cons_self, rfl⟩
theorem test_meets_idle : State.reset.pending = [] ∧ ∀ d ∈ State.reset.inFlight, ∃ b ∈ State.reset.awaiting, blockOf d = some b :=
  ⟨rfl, fun _ h => absurd h List.not_mem_nil⟩
theorem test_meets_OnlyTheOwnerChanges : blockOf (.check (cons 2 0 0)) = some .sequencer ∧
    ∃ t, exec (.check (cons 2 0 0)) State.reset = .next t := ⟨rfl, _, rfl⟩
theorem test_meets_turned_held : (did .mainSupplyLoss State.reset).phase ≠ .running ∧
    (blockOf (.check (cons 2 0 0))).isSome = true := by decide
theorem test_meets_turned_awaiting : let s : State := { State.reset with awaiting := [.sequencer] }
    blockOf (.check (cons 2 0 0)) = some .sequencer ∧ s.phase = .running ∧ Block.sequencer ∈ s.awaiting := by decide
theorem test_meets_turned_sender : let q := ask .lighting 2 0 0
    askedBy (.check q) = some (q, 0x1B, .conservation) ∧ blockOf (.check q) = some .sequencer ∧
      Ready State.reset .sequencer ∧ q.port ≠ .conservation := ⟨rfl, rfl, test_ready _, by decide⟩

/-! ### The invariants -/

theorem test_meets_dark : DarkInv ticking := by
  refine ⟨fun _ g => ?_, fun h => absurd h (by decide), fun h => absurd h (by decide)⟩
  cases g <;> (unfold DarkOk; decide)
theorem test_meets_log : LogInv logged := by
  refine ⟨by decide, by decide, by decide, by decide, by decide, by decide, fun _ => by decide⟩
theorem test_meets_record : RecordInv ticking := by
  refine ⟨⟨⟨fun g => ?_, by decide⟩, fun g => ?_, fun g => ?_, fun _ h => by cases h⟩, fun g k h => ?_⟩
  · cases g <;> decide
  · cases g <;> rfl
  · refine ⟨?_, ?_, ?_, ?_⟩
    · cases g <;> decide
    · cases g <;> decide
    · cases g <;> decide
    · cases g <;> rintro p ⟨⟩
  · cases g <;> exact absurd h (Nat.not_lt_zero k)
theorem test_meets_env : EnvInv (State.reset.setEnvRet .g2 ⟨defaultEnvelope, true⟩) := by
  intro g
  refine ⟨?_, ?_, ?_, ?_⟩
  · cases g <;> decide
  · cases g <;> decide
  · cases g <;> decide
  · cases g <;> exact fun h => absurd h (by decide)
theorem test_meets_loan : (State.reset.setEnvRet .g2 ⟨defaultEnvelope, true⟩).loanLock .g2 = true := by decide
theorem test_meets_light : LightInv ticking := by
  refine ⟨fun g => ?_, fun _ g => ⟨?_, ?_, ?_⟩⟩
  · cases g <;> exact ⟨by decide, by decide, by decide⟩
  · cases g <;> rintro v ⟨⟩
  · cases g <;> decide
  · cases g <;> exact fun h => absurd h (by decide)
theorem test_meets_band : BandInv ticking := by
  intro _ g
  refine ⟨?_, ?_, ?_, ?_⟩
  · cases g <;> decide
  · cases g <;> decide
  · cases g <;> decide
  · cases g <;> rintro v ⟨⟩

/-- Gallery 2 with a declared temperature setpoint, and an envelope changed notice on its way to the climate unit. -/
def steering : State :=
  { State.reset.setClimate .g2 { ClimateRec.cold with tSet := some 6000 } with
    inFlight := [.envelopeChangedAtClimate ⟨.g2, defaultEnvelope, []⟩] }

theorem test_meets_temp : EnvInv steering ∧ TempInv steering := by
  refine ⟨fun g => ⟨?_, ?_, ?_, ?_⟩, fun e h => ?_, fun _ g => ⟨?_, ?_, ?_, ?_, ?_⟩⟩
  · cases g <;> decide
  · cases g <;> decide
  · cases g <;> decide
  · cases g <;> exact fun h => absurd h (by decide)
  · obtain rfl : e = ⟨.g2, defaultEnvelope, []⟩ := by simpa [steering, State.setClimate, State.reset] using h
    decide
  · cases g <;> decide
  · cases g <;> decide
  · cases g <;> decide
  · cases g <;> decide
  · cases g <;> rintro v ⟨⟩
    decide
theorem test_meets_clock : ClockInv midnight := by unfold ClockInv; decide
theorem test_meets_code : ticking.checkCode = Config.checkCodeOf ticking.ret := rfl
theorem test_meets_seq_idle : SeqInv State.reset := by
  refine ⟨by decide, ?_, by decide, ?_, fun _ => ⟨rfl, rfl⟩, ⟨.reference, rfl⟩, by decide⟩
  · rintro r ⟨⟩
  · rintro r n ⟨⟩
theorem test_meets_seq (x : CheckStep) (p : StepPhase) (h : ∀ n, p = .dwell n → 1 ≤ n ∧ n ≤ 8) : SeqInv (checking x p) := by
  refine ⟨List.nodup_nil, ?_, fun _ h => absurd h List.not_mem_nil, ?_, fun h => ?_, ⟨.reference, rfl⟩, ?_⟩
  · rintro r ⟨⟩
    exact ⟨List.not_mem_nil, rfl⟩
  · rintro r n ⟨⟩ hn
    exact h n hn
  · cases h
  · exact Nat.le_of_ble_eq_true rfl
theorem test_meets_port : PortInv ticking := by
  intro p _
  cases p <;> refine ⟨by decide, by decide, by decide, by decide, by decide⟩

/-- The state after reset with the record, the enable, the check-fault flag, the faulted count and the calibration of RH
channel 2. -/
def chanState (v : ChanRec) (enabled flag : Bool) (n : Nat) (cal : Option CalContext) : State :=
  (((((chanAt fun _ => v).setCfg h2 { ChanCfg.default .rh with enabled := enabled }).setCheckFault h2 flag).setFaulted .g2
    n).setCal cal)

/-- Such a state meets the channel invariant. -/
theorem chanState_inv {v : ChanRec} {enabled flag : Bool} {n : Nat} {cal : Option CalContext} (hv : ChanOk v)
    (hn : n = (isFaulted v).toNat) (hc : ∀ x, cal = some x → x.count < 16 ∧ x.chan = h2 ∧ v.state = .ok)
    (he : v.state = .disabled ↔ enabled = false) (hf : v.state = .fault .check → flag = true) :
    ChanInv (chanState v enabled flag n cal) := by
  have h0 : ChanOk (.start .ok) := by unfold ChanOk; decide
  refine ⟨?_, ?_, ?_, fun _ => ?_⟩
  · rintro ⟨g, k⟩
    cases g <;> cases k <;> first | exact hv | exact h0
  · intro g
    cases g <;> first | rfl | (show n = false.toNat + false.toNat + (isFaulted v).toNat + false.toNat; simp [hn])
  · intro x hx
    obtain ⟨h1, h2', h3⟩ := hc x hx
    rw [h2']
    exact ⟨h1, h3⟩
  · rintro ⟨g, k⟩
    cases g <;> cases k <;> first | exact ⟨he, hf⟩ | exact ⟨⟨nofun, nofun⟩, nofun⟩

/-- The record of RH channel 2 in a state, with its counters. -/
def recOf (st : ChanState) (rail good : Nat) (saved : Option SavedState) : ChanRec :=
  { ChanRec.start st with railCount := rail, goodRun := good, saved := saved }

/-- The state of a calibration of RH channel 2 with `n` samples taken. -/
def calState (op : CalOp) (n : Nat) : State := chanState (recOf .ok 0 0 none) true false 0 (some ⟨h2, op, 100, n, 120 * n⟩)

/-- Such a state meets the channel invariant. -/
theorem calState_inv (op : CalOp) {n : Nat} (h : n < 16) : ChanInv (calState op n) :=
  chanState_inv (by unfold ChanOk; decide) rfl (by rintro x ⟨⟩; exact ⟨h, rfl, rfl⟩) (by decide) (by decide)

/-! ### Acquisition unit and filter bank -/

theorem test_meets_GoodSampleCorrected : Ready State.reset .acquisition ∧ (State.reset.chan h2).state = .ok ∧
    (∀ x, State.reset.acq.cal = some x → x.chan ≠ h2) ∧ 64 ≤ (64 : Half).toNat ∧ (65471 : Half).toNat ≤ 65471 :=
  ⟨test_ready _, by decide, by rintro x ⟨⟩, by decide, by decide⟩
theorem test_meets_chan_suspect : ChanInv (chanState (recOf .suspect 1 0 none) true false 0 none) ∧
    ChanInv (chanState (recOf .suspect 2 0 none) true false 0 none) :=
  ⟨chanState_inv (by unfold ChanOk; decide) rfl (by rintro x ⟨⟩) (by decide) (by decide),
    chanState_inv (by unfold ChanOk; decide) rfl (by rintro x ⟨⟩) (by decide) (by decide)⟩
theorem test_meets_chan_rail : ChanInv (chanState (recOf (.fault .rail) 0 6 none) true false 1 none) ∧
    ChanInv (chanState (recOf (.fault .rail) 0 7 none) true false 1 none) :=
  ⟨chanState_inv (by unfold ChanOk; decide) rfl (by rintro x ⟨⟩) (by decide) (by decide),
    chanState_inv (by unfold ChanOk; decide) rfl (by rintro x ⟨⟩) (by decide) (by decide)⟩
theorem test_meets_chan_check : ChanInv (chanState (recOf (.fault .check) 0 0 none) true true 1 none) ∧
    ChanInv (chanState (recOf .checking 0 0 (some .ok)) true false 0 none) ∧
    ChanInv (chanState (recOf .checking 0 0 (some (.fault .rail))) true false 1 none) ∧
    ChanInv (chanState (recOf .disabled 0 0 none) false false 0 none) :=
  ⟨chanState_inv (by unfold ChanOk; decide) rfl (by rintro x ⟨⟩) (by decide) (by decide),
    chanState_inv (by unfold ChanOk; decide) rfl (by rintro x ⟨⟩) (by decide) (by decide),
    chanState_inv (by unfold ChanOk; decide) rfl (by rintro x ⟨⟩) (by decide) (by decide),
    chanState_inv (by unfold ChanOk; decide) rfl (by rintro x ⟨⟩) (by decide) (by decide)⟩
theorem test_meets_RailSampleJudged : let s := chanState (recOf .suspect 2 0 none) true false 0 none
    Ready s .acquisition ∧ (s.chan h2).state = .suspect ∧ (s.chan h2).railCount = 2 ∧
      (∀ x, s.acq.cal = some x → x.chan ≠ h2) ∧ (63 : Half).toNat < 64 ∧ 65471 < (65472 : Half).toNat :=
  ⟨test_ready _, rfl, rfl, by rintro x ⟨⟩, by decide, by decide⟩
theorem test_meets_GoodSampleRestores : let s := chanState (recOf (.fault .rail) 0 7 none) true false 1 none
    Ready s .acquisition ∧ (s.chan h2).state = .fault .rail ∧ (s.chan h2).goodRun = 7 := ⟨test_ready _, rfl, rfl⟩
theorem test_meets_CalibrationSampleTaken : Ready (calState .zero 14) .acquisition ∧ ChanInv (calState .zero 14) ∧
    (calState .zero 14).acq.cal = some ⟨h2, .zero, 100, 14, 1680⟩ := ⟨test_ready _, calState_inv _ (by decide), rfl⟩
theorem test_meets_SpanCompletes : Ready (calState .span 15) .acquisition ∧ ChanInv (calState .span 15) ∧
    (calState .span 15).acq.cal = some ⟨h2, .span, 100, 15, 1800⟩ := ⟨test_ready _, calState_inv _ (by decide), rfl⟩
theorem test_meets_ZeroCompletes : Ready (calState .zero 15) .acquisition ∧ ChanInv (calState .zero 15) ∧
    (calState .zero 15).acq.cal = some ⟨h2, .zero, 100, 15, 1800⟩ := ⟨test_ready _, calState_inv _ (by decide), rfl⟩
theorem test_meets_CheckNoticesTaken : let s := chanState (recOf .checking 0 0 (some (.fault .rail))) true false 1 none
    Ready s .acquisition ∧ (s.chan h2).state = .checking ∧
      (s.chan h2).saved = some (.fault .rail) := ⟨test_ready _, rfl, rfl⟩
theorem test_meets_conservation_request (b : Block) : Ready State.reset b ∧ (cons 2 17 100).port = .conservation :=
  ⟨test_ready b, rfl⟩
theorem test_meets_ChannelEnableWritten : Ready State.reset .acquisition ∧
    ChanInv (chanState (recOf .ok 0 0 none) true false 0 none) ∧ (cons 2 16 0).port = .conservation :=
  ⟨test_ready _, chanState_inv (by unfold ChanOk; decide) rfl (by rintro x ⟨⟩) (by decide) (by decide), rfl⟩
theorem test_meets_ClockAdvances : midnight.phase ≠ .unpowered ∧ midnight.latch = false ∧ midnight.startComplete = true := by
  decide

/-! ### Light, climate, history and log -/

theorem test_meets_light_marks : Ready midnight .light ∧ ClockInv midnight := ⟨test_ready _, test_meets_clock⟩
theorem test_meets_LightCopiesKept : Ready midnight .light ∧ ClockInv midnight ∧
    (TrackedUpdate.mk l2 .sample (some 5) .ok 50).chan.g = .g2 := ⟨test_ready _, test_meets_clock, rfl⟩
theorem test_meets_LightRequestsAnswered : Ready State.reset .light ∧ (ask .lighting 7 0 0xFFFF).port = .lighting ∧
    (cons 7 0 0).port = .conservation := ⟨test_ready _, rfl, rfl⟩
theorem test_meets_BandsComputed : Ready worked .climate ∧ (AggregateChange.mk .g2 (some 4720) (some 5180) none none).g = .g2 ∧
    (EnvelopeChange.mk .g2 narrow [.hswing]).g = .g2 := ⟨test_ready _, rfl, rfl⟩
theorem test_meets_ClimateCopiesKept : Ready State.reset .climate ∧
    (TrackedUpdate.mk h2 .sample (some 5501) .ok 50).chan.g = .g2 := ⟨test_ready _, rfl⟩
theorem test_meets_ClimateRequestsAnswered : Ready State.reset .climate ∧ (ask .climate 7 1 0xFFFF).port = .climate :=
  ⟨test_ready _, rfl⟩
theorem test_meets_HourClosed : Ready ticking .history ∧ RecordInv ticking := ⟨test_ready _, test_meets_record⟩

/-- The state after reset with a new partition pending. -/
def parting : State := State.reset.setHistory { History.cold with pendingPartition := some ⟨24, 72, 72, 72, 72, 168⟩ }

theorem test_meets_PartitionApplied : Ready parting .history ∧ RecordInv parting ∧
    parting.ret.history.pendingPartition = some ⟨24, 72, 72, 72, 72, 168⟩ := by
  refine ⟨test_ready _, ⟨⟨test_meets_record.1.1, test_meets_record.1.2.1, test_meets_record.1.2.2.1, ?_⟩,
    test_meets_record.2⟩, rfl⟩
  rintro ls ⟨⟩
  exact ⟨fun g => by cases g <;> decide, by decide⟩
theorem test_meets_LogNoticesTaken : Ready logged .log ∧ LogInv logged ∧ logged.isActive .g2 .rhHigh = true ∧
    logged.isActive .g2 .rhLow = false ∧ logged.ret.log.pool.length < 32 :=
  ⟨test_ready _, test_meets_log, by decide, by decide, by decide⟩

/-- A pool of 32 entries, OPEN or CLOSED, of which the first is `first`. -/
def fullLog (first : Option SecondStamp) : State :=
  { State.reset.setLogRet ⟨(List.range 32).map fun i =>
      ⟨i, galleries.getD (i % 6) .g0, [ExcType.luxOver, .luxHard, .uvHigh, .rhHigh, .rhLow, .tHigh].getD (i / 6) .tLow, false,
        ⟨5, i⟩, if i = 0 then first else none, 10, 20⟩, 32, false⟩ with
    log := ⟨.all { (PerType.all true : PerType Bool) with sensorFault := false }, false⟩ }

/-- Such a pool is in order. -/
theorem fullLog_inv (first : Option SecondStamp) (h : first = none ∨ first = some ⟨5, 200⟩) : LogInv (fullLog first) := by
  obtain rfl | rfl := h <;>
    exact ⟨by decide +kernel, by decide +kernel, by decide +kernel, by decide +kernel, by decide +kernel, by decide +kernel,
      fun _ => by decide +kernel⟩
theorem test_meets_log_full : (fullLog none).ret.log.pool.length = 32 ∧ (∀ e ∈ (fullLog none).ret.log.pool, e.closed = none) ∧
    (fullLog none).isActive .g2 .sensorFault = false := by decide +kernel
theorem test_meets_log_discards : (fullLog (some ⟨5, 200⟩)).ret.log.pool.length = 32 ∧
    ∃ e ∈ (fullLog (some ⟨5, 200⟩)).ret.log.pool, e.closed ≠ none := by decide +kernel
theorem test_meets_ExcursionsAcknowledged : Ready logged .log ∧ LogInv logged ∧ (cons 2 0 1).port = .conservation :=
  ⟨test_ready _, test_meets_log, rfl⟩

/-! ### Darkening and self-check -/

theorem test_meets_DarkeningSecond :
    Ready (darkAt (fun r => { r with state := .armed, delayLeft := some 1, armedWith := 15 }) lightOnly) .darkening :=
  test_ready _
theorem test_meets_DarkenAndRelease : Ready State.reset .darkening ∧ (ask .lighting 7 0 0).port = .lighting ∧
    (cons 7 1 0).port = .conservation := ⟨test_ready _, rfl, rfl⟩
theorem test_meets_OwnSourcesJoin : Ready State.reset .darkening ∧ State.reset.trigger.get .a = false ∧
    ({ State.reset with trigger := ⟨true, false⟩ } : State).trigger.get .a = true ∧
    ¬Ready { State.reset with awaiting := [.darkening] } .darkening :=
  ⟨test_ready _, rfl, rfl, fun h => h.2 List.mem_cons_self⟩
theorem test_meets_CheckRequestsTaken : Ready (checking .reference .awaiting) .sequencer ∧
    SeqInv (checking .reference .awaiting) ∧ (cons 7 0 0).port = .conservation :=
  ⟨test_ready _, test_meets_seq _ _ nofun, rfl⟩
theorem test_meets_CheckTimed : Ready (checking .reference (.dwell 1)) .sequencer ∧ SeqInv (checking .reference (.dwell 1)) ∧
    ∀ y, (checking .reference (.dwell 1)).seq.run = some y →
      ¬(y.g = h2.g ∧ y.k = h2.k ∧ y.step = .reference ∧ y.phase = .awaiting) :=
  ⟨test_ready _, test_meets_seq _ _ (by rintro n ⟨⟩; decide), by rintro y ⟨⟩; decide⟩
theorem test_meets_ReadingJudged : Ready (checking .response .awaiting) .sequencer ∧ SeqInv (checking .response .awaiting) ∧
    (checking .response .awaiting).seq.run = some ⟨.g2, .rh, .response, .awaiting⟩ ∧
    readingWf .response (.pair 1000 5096) = true := ⟨test_ready _, test_meets_seq _ _ nofun, rfl, rfl⟩

/-! ### Ports and starts -/

theorem test_meets_port_requests : (∀ p : Port, Ready State.reset (.port p)) ∧ (cons 0 1 9).port = .conservation :=
  ⟨fun _ => test_ready _, rfl⟩
theorem test_meets_silence_setup : Ready State.reset (.port .conservation) ∧ (cons 0 3 9).port = .conservation ∧
    3 ≤ (cons 0 3 9).sub.toNat ∧ portList[(cons 0 2 9).sub.toNat]? = some .conservation :=
  ⟨test_ready _, rfl, by decide, rfl⟩
theorem test_meets_FramesJudged : (framed.lines.get .lighting).frame = some ⟨replyStart, false⟩ ∧
    framed.startComplete = true ∧ (State.reset.lines.get .climate).frame = none := by decide
theorem test_meets_frame_discarded :
    ((did (.frameBegin .lighting) { State.reset with awaiting := [.light] }).lines.get .lighting).frame =
      some ⟨replyStart, true⟩ := by decide
theorem test_meets_SupplyAndReset : (did .mainSupplyLoss State.reset).phase = .unpowered ∧
    (did .resetnAssert State.reset).phase = .heldReset ∧ State.reset.phase = .running := by decide
theorem test_meets_StartNoticesTaken : ticking.phase = .running ∧ LogInv logged ∧ warm.kind = .warm :=
  ⟨rfl, test_meets_log, rfl⟩
theorem test_meets_start_partition : parting.ret.history.pendingPartition = some ⟨24, 72, 72, 72, 72, 168⟩ ∧
    ({ warm with lastMarkDay := 2 } : StartInfo).day ≠ 2 := by decide
theorem test_meets_StartsCaughtUp : midnight.phase = .running ∧ ClockInv midnight := ⟨rfl, test_meets_clock⟩

end Sys2Proof.Machine.Tests
end

section
/-! SUPPORT. Chapter 01, measurement channels and calibration: the notices an event sends as one list, the completion of a SPAN
or a ZERO by its sixteenth good sample (O22, O23), and WRITE CHANNEL of the configuration fields (O25). -/

namespace Sys2Proof.Machine

/-! ## Sending several notices -/

/-- The notices `l` join the newest end of what is in flight, in order. -/
def State.sendAll (s : State) (l : List Instr) : State := { s with inFlight := s.inFlight ++ l }

@[simp] theorem State.chan_sendAll (s : State) (l : List Instr) (c : Chan) : (s.sendAll l).chan c = s.chan c := rfl

@[simp] theorem State.setChan_sendAll (s : State) (l : List Instr) (c : Chan) (v : ChanRec) :
    (s.sendAll l).setChan c v = (s.setChan c v).sendAll l := rfl

@[simp] theorem State.setCal_sendAll (s : State) (l : List Instr) (v : Option CalContext) :
    (s.sendAll l).setCal v = (s.setCal v).sendAll l := rfl

@[simp] theorem State.setCfg_sendAll (s : State) (l : List Instr) (c : Chan) (v : ChanCfg) :
    (s.sendAll l).setCfg c v = (s.setCfg c v).sendAll l := rfl

@[simp] theorem State.sendAll_sendAll (s : State) (l m : List Instr) : (s.sendAll l).sendAll m = s.sendAll (l ++ m) := by
  simp [State.sendAll]

theorem send_eq_sendAll (s : State) (c : Instr) : s.send c = s.sendAll [c] := rfl

theorem sendStateChange_eq_sendAll (s : State) (n : StateChange) : s.sendStateChange n = s.sendAll (stateNotices n) := by
  simp [State.sendStateChange, send_eq_sendAll, stateNotices]

theorem attend_eq_sendAll (s : State) (c : Cause) (g : Option Gallery) : s.attend c g = s.sendAll (attention s c g) := by
  rw [attend_eq, attend_inFlight, State.sendAll]

/-- Attention goes out in two states alike when a start is complete in both or in neither. -/
theorem attention_congr {s t : State} (h : s.startComplete = t.startComplete) : attention s = attention t := by
  funext c g
  simp [attention, h]

/-- A command that was taken, made the records those of `r` and sent `l`, leaves what `after` says. -/
theorem seal_sendAll_take {s r : State} (h : r.inFlight = s.inFlight) (c : Instr) (l : List Instr) :
    ((r.take c).sendAll l).seal = after s c r l := by
  simp only [after, ← h]
  rfl

/-! ## One channel written twice -/

theorem setChan_setChan {α : Type} (t : PerChan α) (c : Chan) (a b : α) : setChan (setChan t c a) c b = setChan t c b := by
  obtain ⟨g, k⟩ := c
  cases g <;> cases k <;> rfl

@[simp] theorem State.setChan_setChan (s : State) (c : Chan) (v w : ChanRec) : (s.setChan c v).setChan c w = s.setChan c w := by
  simp [State.setChan, Machine.setChan_setChan]

/-! ## The end of a calibration -/

/-- A calibration that ends leaves the context idle and the record with its result, and sends CALIBRATION_DONE (R18, R19). -/
theorem endCal_eq (s : State) (c : Chan) (res : CalResult) (new : Option Int) :
    s.endCal c res new =
      ((s.setChan c { s.chan c with cal := { (s.chan c).cal with result := res, new := new } }).setCal none).sendAll
        (attention s .calibrationDone (some c.g)) :=
  attend_eq_sendAll _ _ _

/-- A calibration that writes a value also sends the re-settle notice after CALIBRATION_DONE (R16, R17, R19). -/
theorem applyCal_eq (s : State) (c : Chan) (cfg : ChanCfg) (v : Int) (unclamped : Bool) :
    s.applyCal c cfg v unclamped =
      (((s.setChan c { s.chan c with cal := { (s.chan c).cal with
        result := if unclamped then .applied else .clamped, new := some v } }).setCal none).setCfg c cfg).sendAll
          (attention s .calibrationDone (some c.g) ++ stateNotices ⟨c, .ok, .ok, true, false⟩) := by
  rw [State.applyCal, endCal_eq, sendStateChange_eq_sendAll, State.sendAll_sendAll]
  rfl

/-- The deviation a SPAN may set is at most 410, so that its limits lie within 512 to 2047 (R2). -/
theorem corrDeviation_le (n : Nat) : corrDeviation n ≤ 410 := by
  unfold corrDeviation
  split <;> decide

/-- The two clamps of a SPAN both leave the gain exactly when the value after both is the gain itself, since the first clamps
into the range of the second (R16). -/
theorem spanClamps_leave_iff {dev : Nat} (h : dev ≤ 410) (g : Nat) :
    (clampNat (1024 - dev) (1024 + dev) g = g ∧
      clampNat 512 2047 (clampNat (1024 - dev) (1024 + dev) g) = clampNat (1024 - dev) (1024 + dev) g) ↔
    clampNat 512 2047 (clampNat (1024 - dev) (1024 + dev) g) = g := by
  unfold clampNat
  omega

/-- A SPAN that completes is FAILED on a zero average, and otherwise writes the gain after both clamps, APPLIED when that is
the computed one (R16). -/
theorem completeSpan_eq (s : State) (x : CalContext) :
    let avg := x.sum / 16
    let gain := (x.ref * 1024 + avg / 2) / avg
    let dev := corrDeviation (s.cfg x.chan).corrLimit
    let final := clampNat 512 2047 (clampNat (1024 - dev) (1024 + dev) gain)
    s.completeSpan x =
      if avg = 0 then s.endCal x.chan .failed none
      else s.applyCal x.chan { s.cfg x.chan with gain := final } final (final = gain) := by
  have leave := spanClamps_leave_iff (corrDeviation_le (s.cfg x.chan).corrLimit)
  simp only [State.completeSpan, ← leave, Bool.decide_and]

/-! ## The sixteenth good sample -/

/-- What a good sample of an OK channel leaves, the calibration context aside: the raw and the corrected code in the channel's
record, the corrected code sent to the tracking filter bank (R3, R5). -/
def State.sampled (s : State) (c : Chan) (r : Nat) : State :=
  (s.setChan c { s.chan c with lastRaw := some r, lastCorrected := some (correct (s.cfg c) c.k r) }).sendAll
    [.correctedSampleNotice c (correct (s.cfg c) c.k r)]

@[simp] theorem State.chan_sampled (s : State) (c : Chan) (r : Nat) : (s.sampled c r).chan c =
    { s.chan c with lastRaw := some r, lastCorrected := some (correct (s.cfg c) c.k r) } := by
  simp [State.sampled]

/-- The record a good sample leaves is the one written last. -/
@[simp] theorem State.setChan_sampled (s : State) (c : Chan) (r : Nat) (v : ChanRec) :
    (s.sampled c r).setChan c v = (s.setChan c v).sendAll [.correctedSampleNotice c (correct (s.cfg c) c.k r)] := by
  simp [State.sampled]

/-- A good sample of an OK channel with its rail count at 0 is passed on (R3, R5). -/
theorem chanSample_good {s : State} {c : Chan} {r : Nat} (hok : (s.chan c).state = .ok) (hrail : (s.chan c).railCount = 0)
    (hr : isRail r = false) : s.chanSample c r = s.sampled c r := by
  simp [State.chanSample, State.passOn, State.sampled, send_eq_sendAll, hok, hr, ← hrail]

/-- The sixteenth good sample of a SPAN adds its offset-subtracted code and completes it (R15). -/
theorem calSample_completes_span {s : State} {x : CalContext} {r : Nat} (hcal : s.acq.cal = some x) (hop : x.op = .span)
    (hn : x.count = 15) (hr : isRail r = false) :
    s.calSample x.chan r = s.completeSpan { x with count := 16, sum := x.sum + offsetCode (s.cfg x.chan) r } := by
  simp [State.calSample, hcal, hop, hn, hr]

/-- The sixteenth good sample of a ZERO adds its raw code and completes it (R15). -/
theorem calSample_completes_zero {s : State} {x : CalContext} {r : Nat} (hcal : s.acq.cal = some x) (hop : x.op = .zero)
    (hn : x.count = 15) (hr : isRail r = false) :
    s.calSample x.chan r = s.completeZero { x with count := 16, sum := x.sum + r } := by
  simp [State.calSample, hcal, hop, hn, hr]

/-- A good sample of the channel under calibration is passed on first, and then taken by the calibration context (R15). -/
theorem arrival_under_calibration {s : State} {x : CalContext} {r : Half} (ready : Ready s .acquisition) (inv : ChanInv s)
    (hcal : s.acq.cal = some x) (hr : isRail r.toNat = false) :
    exec (.sampleArrival x.chan r) s =
      .next ((((s.take (.sampleArrival x.chan r)).sampled x.chan r.toNat).calSample x.chan r.toNat).seal) := by
  obtain ⟨chans, -, context, -⟩ := inv
  obtain ⟨-, hok⟩ := context x hcal
  obtain ⟨-, -, hrail, -⟩ := chans x.chan
  have passed := chanSample_good (s := s.take (.sampleArrival x.chan r)) hok (hrail (by simp [hok])) hr
  have taken : exec (.sampleArrival x.chan r) s = arrival x.chan r s := rfl
  rw [taken, arrival, deliver_ready ready, State.arrive, passed]
  simp [discards, hok]

theorem isRail_eq_false {r : Nat} (lo : 64 ≤ r) (hi : r ≤ 65471) : isRail r = false := by
  simp [isRail, lo, hi]

/-- A calibration that ends when a sample has been passed on (R15, R18, R19). -/
theorem endCal_sampled (s : State) (i : Instr) (c : Chan) (r : Nat) (res : CalResult) (new : Option Int) :
    let y := correct (s.cfg c) c.k r
    let k := { s.chan c with lastRaw := some r, lastCorrected := some y }
    (((s.take i).sampled c r).endCal c res new).seal =
      after s i ((s.setChan c { k with cal := { k.cal with result := res, new := new } }).setCal none)
        ([Instr.correctedSampleNotice c y] ++ attention s .calibrationDone (some c.g)) := by
  intro y k
  have sent : attention ((s.take i).sampled c r) = attention s := attention_congr rfl
  rw [endCal_eq, sent, State.chan_sampled, State.setChan_sampled, State.setCal_sendAll, State.sendAll_sendAll]
  exact seal_sendAll_take (r := ((s.setChan c _).setCal none)) rfl i _

/-- A calibration that writes a value when a sample has been passed on (R15, R16, R17, R19). -/
theorem applyCal_sampled (s : State) (i : Instr) (c : Chan) (r : Nat) (cfg : ChanCfg) (v : Int) (unclamped : Bool) :
    let y := correct (s.cfg c) c.k r
    let k := { s.chan c with lastRaw := some r, lastCorrected := some y }
    (((s.take i).sampled c r).applyCal c cfg v unclamped).seal =
      after s i
        (((s.setChan c { k with cal := { k.cal with
          result := if unclamped then .applied else .clamped, new := some v } }).setCal none).setCfg c cfg)
        ([Instr.correctedSampleNotice c y] ++ attention s .calibrationDone (some c.g) ++
          stateNotices ⟨c, .ok, .ok, true, false⟩) := by
  intro y k
  have sent : attention ((s.take i).sampled c r) = attention s := attention_congr rfl
  rw [applyCal_eq, sent, State.chan_sampled, State.setChan_sampled, State.setCal_sendAll,
    State.setCfg_sendAll, State.sendAll_sendAll, List.append_assoc]
  exact seal_sendAll_take (r := (((s.setChan c _).setCal none).setCfg c cfg)) rfl i _

/-- Settles O22: the sample is passed on first; then the SPAN completes, FAILED on a zero average and with its gain written
otherwise. -/
theorem spanCompletes : Obligations.SpanCompletes := by
  rintro _ r s x ready inv hcal rfl hop hn lo hi
  have good := isRail_eq_false lo hi
  intro i y d avg gain dev limited final k
  have context : ((s.take i).sampled x.chan r.toNat).acq.cal = some x := hcal
  rw [arrival_under_calibration ready inv hcal good, calSample_completes_span context hop hn good, completeSpan_eq]
  have average : (x.sum + offsetCode ((s.take i |>.sampled x.chan r.toNat).cfg x.chan) r.toNat) / 16 = avg := rfl
  by_cases zero : avg = 0
  · simp only [average, zero, if_true]
    exact congrArg _ (endCal_sampled s i x.chan r.toNat .failed none)
  · simp only [average, zero, if_false]
    refine congrArg _ ((applyCal_sampled s i x.chan r.toNat _ _ _).trans ?_)
    simp only [decide_eq_true_eq]
    rfl

/-- Settles O23: the sample is passed on first; then the ZERO completes with its offset written. -/
theorem zeroCompletes : Obligations.ZeroCompletes := by
  rintro _ r s x ready inv hcal rfl hop hn lo hi
  have good := isRail_eq_false lo hi
  intro i y avg offset final k
  have context : ((s.take i).sampled x.chan r.toNat).acq.cal = some x := hcal
  rw [arrival_under_calibration ready inv hcal good, calSample_completes_zero context hop hn good]
  refine congrArg _ ((applyCal_sampled s i x.chan r.toNat _ _ _).trans ?_)
  simp only [decide_eq_true_eq]
  rfl

/-! ## The gallery field -/

theorem galleryOf_eq_some {n : Nat} {g : Gallery} : galleryOf n = some g ↔ n = galleryNum g := by
  constructor
  · intro h
    unfold galleryOf at h
    split at h <;> cases h <;> rfl
  · rintro rfl
    cases g <;> rfl

theorem le_of_galleryOf_eq_none {n : Nat} (h : galleryOf n = none) : 6 ≤ n := by
  by_contra small
  have : n < 6 := by omega
  interval_cases n <;> cases h

theorem galleryNum_lt (g : Gallery) : galleryNum g < 6 := by cases g <;> decide

theorem galleryNum_inj {g h : Gallery} : galleryNum g = galleryNum h ↔ g = h := by cases g <;> cases h <;> decide

/-- A gallery field names one gallery by its number, all galleries with 7, or neither with 6. -/
theorem gallerySel_cases (b : BitVec 3) :
    (∃ g, gallerySel b = .one g ∧ b.toNat = galleryNum g) ∨ (gallerySel b = .all ∧ b.toNat = 7) ∨
      (gallerySel b = .bad ∧ b = 6) := by
  unfold gallerySel
  split
  · exact .inl ⟨_, rfl, galleryOf_eq_some.1 ‹_›⟩
  · have large := le_of_galleryOf_eq_none ‹_›
    have small := b.isLt
    split
    · exact .inr (.inl ⟨rfl, ‹_›⟩)
    · exact .inr (.inr ⟨rfl, by bv_omega⟩)

/-- A field that names one gallery addresses that one. -/
theorem addresses_one {b : BitVec 3} {g : Gallery} (h : b.toNat = galleryNum g) (i : Gallery) :
    addresses b i = decide (i = g) := by
  have := galleryNum_lt g
  simp only [addresses, h, galleryNum_inj, eq_comm (a := g)]
  simp
  omega

/-- Field 7 addresses every gallery. -/
theorem addresses_all {b : BitVec 3} (h : b.toNat = 7) (i : Gallery) : addresses b i = true := by
  simp [addresses, h]

theorem firstAddressed_one {b : BitVec 3} {g : Gallery} (h : b.toNat = galleryNum g) (p : Gallery → Bool) :
    firstAddressed b p = if p g then some g else none := by
  simp only [firstAddressed, addresses_one h]
  cases hp : p g <;> cases g <;> simp [galleries, List.find?, hp]

theorem firstAddressed_all {b : BitVec 3} (h : b.toNat = 7) (p : Gallery → Bool) :
    firstAddressed b p = galleries.find? p := by
  simp [firstAddressed, addresses_all h]

/-- When every gallery that refuses gives the same value, the first to give one is the first that refuses. -/
theorem firstGallery_guard {α : Type} (p : Gallery → Bool) (a : α) :
    firstGallery (fun g => if p g then some a else none) = (galleries.find? p).map fun g => (g, a) := by
  unfold firstGallery
  induction galleries with
  | nil => rfl
  | cons g l ih =>
    cases h : p g
    · simpa [h] using ih
    · simp [h]

/-! ## WRITE CHANNEL -/

/-- The records a WRITE CHANNEL that is not refused changes: the channel named, or the channels of the kind in all six
galleries (R11). -/
def writeNamed (q : Req) (apply : Chan → State → State) (s : State) : State :=
  match gallerySel q.gallery with
  | .one g => apply ⟨g, subKind q⟩ s
  | .all => forGalleries (fun g => apply ⟨g, subKind q⟩) s
  | .bad => s

/-- What a WRITE CHANNEL of the conservation master comes to, when the addressed channels that refuse do so with one result:
RANGE for gallery 6, the refusal of the lowest-numbered gallery that refuses, or the write (R11). -/
theorem writeChannel_eq {q : Req} {s : State} (ready : Ready s .acquisition) (port : q.port = .conservation) (i : Instr)
    (code : Nat) (judge : State → Chan → Option Result) (apply : Chan → State → State) (r : Result) (data : Nat)
    (refuses : Gallery → Bool) (res : Result)
    (judged : ∀ g, judge (s.take i) ⟨g, subKind q⟩ = if refuses g then some res else none) :
    writeChannel i code q s judge apply r data = .next (
      if q.gallery = 6 then after s i s (reply q code .range 0)
      else match firstAddressed q.gallery refuses with
        | some g => after s i s (reply q code res (refusedBy q.gallery g 0))
        | none => ((writeNamed q apply (s.take i)).sendAll (reply q code r data)).seal) := by
  have permitted : conservationOnly q.port = true := by rw [port]; rfl
  have refused (x : Result) (d : Nat) :
      ((s.take i).send (.replyNotice q.port (replyTo q code x d))).seal = after s i s (reply q code x d) :=
    seal_sendAll_take rfl i _
  rw [writeChannel, request_ready ready _ _ permitted, writeNamed]
  obtain ⟨g, sel, num⟩ | ⟨sel, num⟩ | ⟨sel, six⟩ := gallerySel_cases q.gallery
  · have field : q.gallery ≠ 6 := by have := galleryNum_lt g; bv_omega
    have single : q.gallery.toNat ≠ 7 := by have := galleryNum_lt g; omega
    simp only [sel, judged, field, firstAddressed_one num, refusedBy, single]
    cases refuses g
    · rfl
    · exact congrArg _ (refused _ _)
  · have field : q.gallery ≠ 6 := by bv_omega
    have whole : (fun g => (judge (s.take i) ⟨g, subKind q⟩).map fun x => (x, 0)) =
        fun g => if refuses g then some (res, 0) else none := by
      funext g
      rw [judged]
      split <;> rfl
    simp only [sel, judgeAll, whole, firstGallery_guard, field, firstAddressed_all num, refusedBy, num]
    cases galleries.find? refuses
    · rfl
    · exact congrArg _ (refused _ _)
  · simp only [sel, refuse, if_pos six]
    exact congrArg _ (refused _ _)

/-- `t` is `s` but for the configuration table. -/
def CfgAlone (s t : State) : Prop := t = { s with ret := { s.ret with cfg := t.ret.cfg } }

theorem CfgAlone.refl (s : State) : CfgAlone s s := rfl

theorem CfgAlone.setCfg {s t : State} (h : CfgAlone s t) (c : Chan) (v : ChanCfg) : CfgAlone s (t.setCfg c v) := by
  rw [CfgAlone, h]
  rfl

/-- A state that is `s` but for a configuration table that `f` has rewritten at the channels named is `cfgWritten`. -/
theorem eq_cfgWritten {q : Req} {f : ChanCfg → ChanCfg} {s t : State}
    (alone : CfgAlone s t)
    (written : ∀ c, t.cfg c = if namesChan q c then f (s.cfg c) else s.cfg c) : t = cfgWritten q f s := by
  have table : t.ret.cfg = (cfgWritten q f s).ret.cfg := by
    refine PerGallery.ext_get fun g => PerKind.ext_get fun k => ?_
    simp only [cfgWritten, PerGallery.get_ofFn, PerKind.get_ofFn]
    exact written ⟨g, k⟩
  rw [alone, table]
  rfl

/-- The configuration of one channel rewritten by `f`, which is what WRITE CHANNEL of such a field applies (R12, R13, R34). -/
def editCfg (f : ChanCfg → ChanCfg) (c : Chan) (s : State) : State := s.setCfg c (f (s.cfg c))

theorem cfg_editCfg (f : ChanCfg → ChanCfg) (c d : Chan) (s : State) :
    (editCfg f c s).cfg d = if d = c then f (s.cfg d) else s.cfg d := by
  rw [editCfg, State.cfg_setCfg]
  split
  · rw [‹d = c›]
  · rfl

/-- The six galleries in turn rewrite the channel of kind `k` of each. -/
theorem cfg_forGalleries_editCfg (f : ChanCfg → ChanCfg) (k : Kind) (s : State) (c : Chan) :
    (forGalleries (fun g => editCfg f ⟨g, k⟩) s).cfg c = if c.k = k then f (s.cfg c) else s.cfg c := by
  refine congrFun (forGalleries_each (fun s g j => s.cfg ⟨g, j⟩)
    (fun _ row j => if j = k then f (row j) else row j) ?self ?other s c.g) c.k
  case self =>
    intro g s
    funext j
    simp [cfg_editCfg]
  case other =>
    intro g h s ne
    funext j
    simp [cfg_editCfg, ne]

theorem namesChan_one {q : Req} {g : Gallery} (h : q.gallery.toNat = galleryNum g) (c : Chan) :
    namesChan q c = decide (c = ⟨g, subKind q⟩) := by
  obtain ⟨i, k⟩ := c
  simp only [namesChan, addresses_one h, Chan.mk.injEq, Bool.decide_and]
  rfl

theorem namesChan_all {q : Req} (h : q.gallery.toNat = 7) (c : Chan) : namesChan q c = decide (c.k = subKind q) := by
  simp only [namesChan, addresses_all h, Bool.true_and]
  rfl

/-- The write of a configuration field rewrites it in the channels named, and nothing else (R11). -/
theorem writeNamed_editCfg {q : Req} (h : q.gallery ≠ 6) (f : ChanCfg → ChanCfg) (s : State) :
    writeNamed q (editCfg f) s = cfgWritten q f s := by
  obtain ⟨g, sel, num⟩ | ⟨sel, num⟩ | ⟨-, six⟩ := gallerySel_cases q.gallery
  · simp only [writeNamed, sel]
    refine eq_cfgWritten ((CfgAlone.refl s).setCfg _ _) fun c => ?_
    simp only [namesChan_one num, decide_eq_true_eq]
    exact cfg_editCfg f ⟨g, subKind q⟩ c s
  · simp only [writeNamed, sel]
    refine eq_cfgWritten (forGalleries_keeps (fun _ _ h => h.setCfg _ _) (CfgAlone.refl s)) fun c => ?_
    simp only [namesChan_all num, decide_eq_true_eq]
    exact cfg_forGalleries_editCfg f (subKind q) s c
  · exact absurd six h

/-- WRITE CHANNEL of a configuration field: refused with BUSY by the lowest-numbered channel that refuses, and otherwise
written to every channel named (R11, R12). -/
theorem writeChannel_editCfg {q : Req} {s : State} (ready : Ready s .acquisition) (port : q.port = .conservation) (i : Instr)
    (code : Nat) (judge : State → Chan → Option Result) (f : ChanCfg → ChanCfg) (r : Result) (data : Nat)
    (refuses : Gallery → Bool)
    (judged : ∀ g, judge (s.take i) ⟨g, subKind q⟩ = if refuses g then some .busy else none) :
    writeChannel i code q s judge (editCfg f) r data = .next (
      if q.gallery = 6 then after s i s (reply q code .range 0)
      else match firstAddressed q.gallery refuses with
        | some g => after s i s (reply q code .busy (refusedBy q.gallery g 0))
        | none => after s i (cfgWritten q f s) (reply q code r data)) := by
  rw [writeChannel_eq ready port i code judge _ r data refuses .busy judged]
  split
  · rfl
  · rw [writeNamed_editCfg ‹_›]
    split
    · rfl
    · exact congrArg _ (seal_sendAll_take (r := cfgWritten q f s) rfl i _)

/-- A field that is never refused is written, gallery 6 apart (R13, R34). -/
theorem writeChannel_unrefused {q : Req} {s : State} (ready : Ready s .acquisition) (port : q.port = .conservation)
    (i : Instr) (code : Nat) (f : ChanCfg → ChanCfg) (r : Result) (data : Nat) :
    writeChannel i code q s neverRefused (editCfg f) r data = .next (
      if q.gallery = 6 then after s i s (reply q code .range 0)
      else after s i (cfgWritten q f s) (reply q code r data)) := by
  have nobody : firstAddressed q.gallery (fun _ => false) = none := by simp [firstAddressed]
  rw [writeChannel_editCfg ready port i code neverRefused f r data (fun _ => false) fun _ => rfl, nobody]

/-- The channel of gallery `g` that a GAIN or OFFSET write names refuses it: a calibration runs on it, or it is CHECKING
(R12). -/
def correctionBusy (q : Req) (s : State) (g : Gallery) : Bool :=
  (match s.acq.cal with | some x => x.chan == ⟨g, subKind q⟩ | none => false) ||
    (s.chan ⟨g, subKind q⟩).state == .checking

theorem busyChannel_eq (q : Req) (s : State) (i : Instr) (g : Gallery) :
    busyChannel (s.take i) ⟨g, subKind q⟩ = if correctionBusy q s g then some .busy else none := rfl

/-- The filter mode a value clamped to 2 names (R34). -/
theorem modeOf_min (n : Nat) :
    modeOf (min 2 n) = if n = 0 then .stepped else if n = 1 then .twoLevel else .fixed := by
  match n with
  | 0 => rfl
  | 1 => rfl
  | n + 2 => simp [modeOf]

theorem clampNat_zero (hi v : Nat) : clampNat 0 hi v = min hi v := Nat.zero_max _

theorem clampNat_eq_self_iff {lo hi v : Nat} (h : lo ≤ hi) : clampNat lo hi v = v ↔ lo ≤ v ∧ v ≤ hi := by
  unfold clampNat
  omega

/-- Settles O25: each write is WRITE CHANNEL of one field, GAIN and OFFSET judged for BUSY and the others never refused. -/
theorem channelFieldsWritten : Obligations.ChannelFieldsWritten := by
  intro q s ready port v busy answer gain offset
  have judged (i : Instr) (f : ChanCfg → ChanCfg) (r : Result) (data : Nat) :=
    writeChannel_editCfg ready port i 0x18 busyChannel f r data (correctionBusy q s) (busyChannel_eq q s i)
  have unjudged := writeChannel_unrefused ready port
  refine ⟨?gain, ?offset, ?corrLimit, ?du, ?mode, ?hold⟩
  case gain =>
    refine (judged _ (fun x => { x with gain := gain }) _ _).trans ?_
    rfl
  case offset =>
    refine (judged _ (fun x => { x with offset := offset }) _ _).trans ?_
    rfl
  case corrLimit =>
    refine (unjudged _ 0x18 (fun x => { x with corrLimit := clampNat 0 3 v }) _ _).trans ?_
    simp only [clampNat_zero, min_eq_right_iff]
    rfl
  case du =>
    refine (unjudged _ 0x18 (fun x => { x with du := clampNat 1 4096 v }) _ _).trans ?_
    simp only [clampNat_eq_self_iff (show 1 ≤ 4096 by decide), Bool.decide_and]
    rfl
  case mode =>
    refine (unjudged _ 0x18 (fun x => { x with mode := modeOf (clampNat 0 2 v) }) _ _).trans ?_
    simp only [clampNat_zero, modeOf_min, min_eq_right_iff]
    rfl
  case hold =>
    have zero : q.value = 0 ↔ v = 0 := BitVec.toNat_eq
    refine (unjudged _ 0x19 (fun x => { x with hold := q.value != 0 }) _ _).trans ?_
    simp only [bne, beq_eq_decide, zero, ← decide_not]
    rfl

end Sys2Proof.Machine
end

section
/-! SUPPORT. Chapter 02, tracking filters: the readout, the gain shift and the step of a corrected sample (O29), the
tracker after a channel state change (O30), and WRITE CHANNEL of the shift limits (O26). -/

namespace Sys2Proof.Machine

/-! ## The readout and the step -/

/-- Division truncated toward zero divides the magnitude and keeps the sign (R29, R30). -/
theorem tdiv_natCast_eq_sign_mul (d : Int) (n : Nat) : d.tdiv n = d.sign * (d.natAbs / n : Nat) := by
  obtain ⟨k, rfl | rfl⟩ := d.eq_nat_or_neg
  all_goals
    obtain rfl | pos := k.eq_zero_or_pos
    · simp
    · simp [Int.neg_tdiv, Int.sign_natCast_of_ne_zero pos.ne']

/-- The readout has the deviation's sign, and its magnitude in quarters of a deviation unit up to 127 (R30). -/
theorem readoutOf_eq (d : Int) (du : Nat) : readoutOf d du = d.sign * (min 127 (d.natAbs / (4 * du)) : Nat) := by
  rw [readoutOf, tdiv_natCast_eq_sign_mul, clampInt]
  generalize d.natAbs / (4 * du) = n
  obtain neg | rfl | pos := lt_trichotomy d 0
  · rw [Int.sign_eq_neg_one_of_neg neg]
    omega
  · simp
  · rw [Int.sign_eq_one_of_pos pos]
    omega

/-- The step has the deviation's sign; its magnitude is the deviation's, divided by 2 to the shift, but at least one sixteenth
unless there is no deviation (R29). -/
theorem stepOf_eq (d : Int) (shift : Nat) :
    stepOf d shift = d.sign * (if d = 0 then 0 else max 1 (d.natAbs / 2 ^ shift) : Nat) := by
  by_cases still : d = 0
  · simp [stepOf, still]
  · have signed : d.sign ≠ 0 := mt Int.sign_eq_zero_iff_zero.1 still
    simp only [stepOf, tdiv_natCast_eq_sign_mul, still, if_false]
    generalize d.natAbs / 2 ^ shift = n
    obtain rfl | pos := n.eq_zero_or_pos
    · simp
    · rw [max_eq_right pos, if_neg (mul_ne_zero signed (by omega))]

/-! ## The gain shift -/

/-- The target shift falls by one from 6 at each of the six boundaries the deviation reaches (R26). -/
theorem targetShift_eq (m du : Nat) :
    targetShift m du = 6 - ([1, 2, 4, 8, 16, 32].filter fun n => n * (16 * du) ≤ m).length := by
  simp only [targetShift]
  split_ifs
  all_goals simp (disch := simp only [decide_eq_true_eq]; omega) only [List.filter_cons_of_pos,
    List.filter_cons_of_neg, List.filter_nil, List.length_cons, List.length_nil]

/-- STEPPED mode: one step up or any number down toward the target, within the limits, of which the fast one does not hold
while settling (R26). -/
theorem chooseShift_stepped {f : ChanCfg} (mode : f.mode = .stepped) (shift : Nat) (settling : Bool) (m : Nat) :
    let target := targetShift m f.du
    let moved := if target < shift then target else if shift < target then shift + 1 else shift
    chooseShift f shift settling m =
      if settling then (min f.slow moved, decide (min f.slow moved < f.fast)) else (max f.fast (min f.slow moved), false) := by
  simp only [chooseShift, mode, clampNat_zero]
  rfl

/-- TWO-LEVEL mode: the fast or the slow limit, with hysteresis; 0 while settling on a deviation of 8 deviation units or more
(R27). -/
theorem chooseShift_twoLevel {f : ChanCfg} (mode : f.mode = .twoLevel) (shift : Nat) (settling : Bool) (m : Nat) :
    let u := 16 * f.du
    chooseShift f shift settling m =
      if settling then (if 8 * u ≤ m then (0, true) else (f.slow, false))
      else (if 24 * u ≤ m then f.fast else if m < 8 * u then f.slow else shift, false) := by
  simp only [chooseShift, mode]
  split
  · rfl
  · split_ifs <;> rfl

/-- FIXED mode: the slow limit; 0 while settling on a deviation of 8 deviation units or more (R28). -/
theorem chooseShift_fixed {f : ChanCfg} (mode : f.mode = .fixed) (shift : Nat) (settling : Bool) (m : Nat) :
    chooseShift f shift settling m =
      if settling then (if 8 * (16 * f.du) ≤ m then (0, true) else (f.slow, false)) else (f.slow, false) := by
  simp only [chooseShift, mode, Bool.and_eq_true, decide_eq_true_eq, ite_and]

/-! ## The tracked update -/

theorem sendTracked_eq_sendAll (s : State) (u : TrackedUpdate) : s.sendTracked u = s.sendAll (trackedNotices u) := by
  cases kind : u.chan.k <;> simp [State.sendTracked, trackedNotices, kind, send_eq_sendAll]

/-- A command of the filter bank that writes one tracker and sends a tracked update (R33). -/
theorem setTracker_sendTracked_take (s : State) (i : Instr) (c : Chan) (t : Tracker) (u : TrackedUpdate) :
    (((s.take i).setTracker c t).sendTracked u).seal = after s i (s.setTracker c t) (trackedNotices u) := by
  rw [sendTracked_eq_sendAll]
  exact seal_sendAll_take (r := s.setTracker c t) rfl i _

/-- What a corrected sample leaves and sends (R24, R25, R33). -/
theorem exec_correctedSampleNotice {s : State} (ready : Ready s .filter) {c : Chan} {x : Nat} {t : Tracker}
    (taken : (s.tracker c).take (s.cfg c) x = t) :
    exec (.correctedSampleNotice c x) s = .next (after s (.correctedSampleNotice c x) (s.setTracker c t)
      (trackedNotices ⟨c, .sample, trackedCode t, .ok, (s.cfg c).du⟩)) := by
  subst taken
  have delivered : exec (.correctedSampleNotice c x) s = execCorrectedSampleNotice c x s := rfl
  rw [delivered, execCorrectedSampleNotice, deliver_ready ready]
  exact congrArg _ (setTracker_sendTracked_take s _ c _ _)

/-- What a channel state change leaves and sends (R31, R32, R33). -/
theorem exec_stateChangeAtFilter {s : State} (ready : Ready s .filter) {n : StateChange} {t : Tracker}
    (changed : (s.tracker n.chan).change (s.cfg n.chan) n = t) :
    exec (.stateChangeAtFilter n) s = .next (after s (.stateChangeAtFilter n) (s.setTracker n.chan t)
      (trackedNotices ⟨n.chan, .state, trackedCode t, t.chanState, (s.cfg n.chan).du⟩)) := by
  subst changed
  have delivered : exec (.stateChangeAtFilter n) s = execStateChangeAtFilter n s := rfl
  rw [delivered, execStateChangeAtFilter, deliver_ready ready]
  exact congrArg _ (setTracker_sendTracked_take s _ n.chan _ _)

/-- A corrected sample leaves its tracker TRACKING, with a tracked code (R24, R29). -/
theorem trackedCode_take (t : Tracker) (f : ChanCfg) (x : Nat) :
    trackedCode (t.take f x) = some (((t.take f x).x + 8) / 16) := by
  have tracking : (t.take f x).tracking = true := by
    unfold Tracker.take
    split
    · assumption
    · rfl
  rw [trackedCode, if_pos tracking]

/-- A channel state change keeps the tracked value (R31, R32). -/
theorem Tracker.change_x (t : Tracker) (f : ChanCfg) (n : StateChange) : (t.change f n).x = t.x := by
  unfold Tracker.change
  split
  · rfl
  · split <;> rfl

/-- Settles O29: the model's readout, choice and step are those of the rules, mode by mode. -/
theorem correctedSampleTracked : Obligations.CorrectedSampleTracked := by
  intro c x s ready i t f d m u target moved choice step readout next
  have dev : deviation t x = d := by simp only [deviation, d, Nat.mul_comm]
  have chosen : chooseShift f t.shift t.settling d.natAbs = choice := by
    cases mode : f.mode
    case' stepped => rw [chooseShift_stepped mode, targetShift_eq]
    case' twoLevel => rw [chooseShift_twoLevel mode]
    case' fixed => rw [chooseShift_fixed mode]
    all_goals
      simp only [choice, mode]
      cases t.settling <;> rfl
  have taken : t.take f x = next := by
    simp only [Tracker.take, next, dev, chosen, readoutOf_eq, stepOf_eq, Nat.mul_comm x 16]
    rfl
  have code : trackedCode next = some ((next.x + 8) / 16) := taken ▸ trackedCode_take t f x
  rw [← code]
  exact exec_correctedSampleNotice ready taken

/-- Settles O30: the new tracker is the rules' case by case, and no case moves the tracked value. -/
theorem stateChangeHeld : Obligations.StateChangeHeld := by
  intro n s ready i t next
  have changed : t.change (s.cfg n.chan) n = next := by
    simp only [Tracker.change, next]
    split
    · rfl
    · split
      · obtain ⟨ok, -⟩ := ‹n.new = .ok ∧ _›
        rw [ok]
      · rfl
  have kept : next.x = t.x := changed ▸ t.change_x _ n
  rw [← kept]
  exact exec_stateChangeAtFilter ready changed

/-! ## WRITE CHANNEL of the shift limits -/

/-- A WRITE CHANNEL that is not refused rewrites the channels named, and no other, when the write of one channel rewrites that
channel alone (R11). -/
theorem writeNamed_each {α : Type} {q : Req} (field : q.gallery ≠ 6) (r : State → Chan → α) (φ : α → α)
    {apply : Chan → State → State} (one : ∀ c d s, r (apply c s) d = if d = c then φ (r s d) else r s d) (s : State)
    (c : Chan) : r (writeNamed q apply s) c = if namesChan q c then φ (r s c) else r s c := by
  obtain ⟨g, sel, num⟩ | ⟨sel, num⟩ | ⟨-, six⟩ := gallerySel_cases q.gallery
  · simp only [writeNamed, sel, namesChan_one num, decide_eq_true_eq, one]
  · simp only [writeNamed, sel, namesChan_all num, decide_eq_true_eq]
    refine congrFun (forGalleries_each (fun s g j => r s ⟨g, j⟩)
      (fun _ row j => if j = subKind q then φ (row j) else row j) ?self ?other s c.g) c.k
    case self =>
      intro g s
      simp [one]
    case other =>
      intro g h s ne
      simp [one, ne]
  · exact absurd six field

/-- What the write of one channel keeps, a WRITE CHANNEL keeps. -/
theorem writeNamed_keeps {P : State → Prop} {q : Req} {apply : Chan → State → State} (one : ∀ c s, P s → P (apply c s))
    {s : State} (h : P s) : P (writeNamed q apply s) := by
  unfold writeNamed
  split
  · exact one _ _ h
  · exact forGalleries_keeps (fun g => one ⟨g, subKind q⟩) h
  · exact h

/-- The limits of one channel rewritten by `f` and its tracker's shift clamped to them, which is what WRITE CHANNEL of a limit
applies (R35). -/
def editLimits (f : ChanCfg → ChanCfg) (c : Chan) (s : State) : State :=
  (editCfg f c s).setTracker c ((s.tracker c).reclamp (f (s.cfg c)).fast (f (s.cfg c)).slow)

/-- A channel's configuration and tracker, the two records a write of its limits changes. -/
def State.filterPair (s : State) (c : Chan) : ChanCfg × Tracker := (s.cfg c, s.tracker c)

/-- The two records after the write of the limits by `f` (R35). -/
def reclamped (f : ChanCfg → ChanCfg) (p : ChanCfg × Tracker) : ChanCfg × Tracker :=
  (f p.1, p.2.reclamp (f p.1).fast (f p.1).slow)

theorem filterPair_editLimits (f : ChanCfg → ChanCfg) (c d : Chan) (s : State) :
    (editLimits f c s).filterPair d = if d = c then reclamped f (s.filterPair d) else s.filterPair d := by
  simp only [State.filterPair, editLimits, State.cfg_setTracker, cfg_editCfg, State.tracker_setTracker]
  split
  · rw [‹d = c›]
    rfl
  · rfl

/-- The state with the limits of the channels a WRITE CHANNEL names rewritten by `f` and the shifts of their trackers clamped
(R11, R35). -/
def limitsWritten (q : Req) (f : ChanCfg → ChanCfg) (s : State) : State :=
  { cfgWritten q f s with
    trackers := .ofFn fun g => .ofFn fun k =>
      if namesChan q ⟨g, k⟩ then (reclamped f (s.filterPair ⟨g, k⟩)).2 else s.tracker ⟨g, k⟩ }

/-- `t` is `s` but for the configuration table and the trackers. -/
def FilterAlone (s t : State) : Prop := t = { s with ret := { s.ret with cfg := t.ret.cfg }, trackers := t.trackers }

theorem FilterAlone.editLimits {s t : State} (h : FilterAlone s t) (f : ChanCfg → ChanCfg) (c : Chan) :
    FilterAlone s (editLimits f c t) := by
  rw [FilterAlone, h]
  rfl

/-- The write of a limit rewrites it and clamps the shift in the channels named, and nothing else (R11, R35). -/
theorem writeNamed_editLimits {q : Req} (field : q.gallery ≠ 6) (f : ChanCfg → ChanCfg) (s : State) :
    writeNamed q (editLimits f) s = limitsWritten q f s := by
  have alone : FilterAlone s (writeNamed q (editLimits f) s) :=
    writeNamed_keeps (fun c _ h => h.editLimits f c) rfl
  have pair := writeNamed_each field State.filterPair (reclamped f) (filterPair_editLimits f) s
  have cfgs : (writeNamed q (editLimits f) s).ret.cfg = (limitsWritten q f s).ret.cfg :=
    PerGallery.ext_get fun g => PerKind.ext_get fun k => by
      simp only [limitsWritten, cfgWritten, PerGallery.get_ofFn, PerKind.get_ofFn]
      refine (congrArg Prod.fst (pair ⟨g, k⟩)).trans ?_
      split <;> rfl
  have trackers : (writeNamed q (editLimits f) s).trackers = (limitsWritten q f s).trackers :=
    PerGallery.ext_get fun g => PerKind.ext_get fun k => by
      simp only [limitsWritten, PerGallery.get_ofFn, PerKind.get_ofFn]
      refine (congrArg Prod.snd (pair ⟨g, k⟩)).trans ?_
      split <;> rfl
  rw [alone, cfgs, trackers]
  rfl

/-- WRITE CHANNEL of a limit: refused with INCONSISTENT by the lowest-numbered channel for which the write is `bad`, and
otherwise written to every channel named (R11, R35). -/
theorem writeChannel_editLimits {q : Req} {s : State} (ready : Ready s .acquisition) (port : q.port = .conservation)
    (i : Instr) (code : Nat) (bad : ChanCfg → Prop) [DecidablePred bad] (f : ChanCfg → ChanCfg) (r : Result) (data : Nat) :
    writeChannel i code q s (fun s c => if bad (s.cfg c) then some .inconsistent else none) (editLimits f) r data = .next (
      if q.gallery = 6 then after s i s (reply q code .range 0)
      else match firstAddressed q.gallery fun g => decide (bad (s.cfg ⟨g, subKind q⟩)) with
        | some g => after s i s (reply q code .inconsistent (refusedBy q.gallery g 0))
        | none => after s i (limitsWritten q f s) (reply q code r data)) := by
  have judged (g : Gallery) : (if bad ((s.take i).cfg ⟨g, subKind q⟩) then some Result.inconsistent else none) =
      if decide (bad (s.cfg ⟨g, subKind q⟩)) then some Result.inconsistent else none := by
    simp only [decide_eq_true_eq]
    rfl
  rw [writeChannel_eq ready port i code _ _ r data _ .inconsistent judged]
  split
  · rfl
  · rw [writeNamed_editLimits ‹_›]
    cases firstAddressed q.gallery _
    · exact congrArg _ (seal_sendAll_take (r := limitsWritten q f s) rfl i _)
    · rfl

/-- Settles O26: each write is WRITE CHANNEL of one limit, INCONSISTENT where the fast limit would stand above the slow one. -/
theorem filterLimitsWritten : Obligations.FilterLimitsWritten := by
  intro q s ready port v moved answer
  have moves (f : ChanCfg → ChanCfg) : limitsWritten q f s = moved f := by
    simp only [limitsWritten, moved, reclamped, State.filterPair, Tracker.reclamp, ite_and]
    rfl
  have written (i : Instr) (bad : ChanCfg → Prop) [DecidablePred bad] (f : ChanCfg → ChanCfg) (r : Result) (data : Nat) :=
    moves f ▸ writeChannel_editLimits ready port i 0x18 bad f r data
  refine ⟨?fast, ?slow⟩
  case fast =>
    refine (written _ (fun x => x.slow < clampNat 0 6 q.value.toNat)
      (fun x => { x with fast := clampNat 0 6 q.value.toNat }) _ _).trans ?_
    simp only [clampNat_zero, clampResult, min_eq_right_iff, decide_eq_true_eq]
    rfl
  case slow =>
    refine (written _ (fun x => clampNat 0 6 q.value.toNat < x.fast)
      (fun x => { x with slow := clampNat 0 6 q.value.toNat }) _ _).trans ?_
    simp only [clampNat_zero, clampResult, min_eq_right_iff, decide_eq_true_eq]
    rfl

end Sys2Proof.Machine
end

section
/-! SUPPORT. Chapter 04, conservation envelopes: WRITE STAGED (O33). -/

namespace Sys2Proof.Machine

/-! ## The judgement of a gallery -/

/-- A gallery refuses the value `v` for the field `f`: a commit is pending, or the loan does not permit it (R57, R59). -/
def stagedRefuses (s : State) (f : EnvField) (v : Nat) (g : Gallery) : Bool :=
  (s.envStaged g).commitPending || (s.loanLock g && !loanPermits (loanDirection f) (envGet (s.active g) f) v)

/-- With what a gallery refuses: a pending commit comes before the loan, whose refusal carries the active value (R57). -/
def stagedRefusal (s : State) (f : EnvField) (g : Gallery) : Result × Nat :=
  if (s.envStaged g).commitPending then (.pending, 0) else (.locked, envGet (s.active g) f)

theorem judgeStaged_eq (s : State) (f : EnvField) (v : Nat) (g : Gallery) :
    judgeStaged s f v g = if stagedRefuses s f v g then some (stagedRefusal s f g) else none := by
  unfold judgeStaged stagedRefuses stagedRefusal
  cases (s.envStaged g).commitPending
  · simp
  · rfl

/-- The first gallery for which a guarded value is given is the first that meets the guard, with its value. -/
theorem firstGallery_guarded {α : Type} (p : Gallery → Bool) (a : Gallery → α) :
    firstGallery (fun g => if p g then some (a g) else none) = (galleries.find? p).map fun g => (g, a g) := by
  rw [firstGallery, List.find?_eq_findSome?_guard, List.map_findSome?]
  refine congrArg (galleries.findSome? ·) (funext fun g => ?_)
  cases refuses : p g <;> simp [refuses]

/-- A request judged as a whole, when the galleries that refuse are those of `p` and each names its refusal: the
lowest-numbered of them refuses, or the six are written (R60). -/
theorem judgeAll_guarded (s : State) (p : Gallery → Bool) (a : Gallery → Result × Nat) (apply : Gallery → State → State)
    (r : Result) (data : Nat) :
    judgeAll s (fun g => if p g then some (a g) else none) apply r data =
      match galleries.find? p with
      | some g => (s, (a g).1, 256 * galleryNum g + (a g).2)
      | none => (forGalleries apply s, r, data) := by
  rw [judgeAll, firstGallery_guarded]
  cases galleries.find? p <;> rfl

/-! ## The envelopes written -/

/-- A gallery's staged envelope with one field written. -/
def EnvStaged.write (f : EnvField) (v : Nat) (e : EnvStaged) : EnvStaged := { e with staged := envSet e.staged f v }

/-- The state with the field staged in the galleries that a gallery field names (R57, step 4; R60). -/
def fieldStaged (b : BitVec 3) (f : EnvField) (v : Nat) (s : State) : State :=
  { s with env := .ofFn fun g => if addresses b g then (s.envStaged g).write f v else s.envStaged g }

theorem envStaged_writeStaged (s : State) (f : EnvField) (v : Nat) (g h : Gallery) :
    (s.writeStaged f v g).envStaged h = if h = g then (s.envStaged h).write f v else s.envStaged h := by
  rw [State.writeStaged, State.envStaged_setEnvStaged]
  split
  · rw [‹h = g›]
    rfl
  · rfl

/-- `t` is `s` but for the staged envelopes and pending commits. -/
def StagedAlone (s t : State) : Prop := t = { s with env := t.env }

theorem StagedAlone.refl (s : State) : StagedAlone s s := rfl

theorem StagedAlone.writeStaged {s t : State} (h : StagedAlone s t) (f : EnvField) (v : Nat) (g : Gallery) :
    StagedAlone s (t.writeStaged f v g) := by
  rw [StagedAlone, h]
  rfl

theorem eq_fieldStaged {b : BitVec 3} {f : EnvField} {v : Nat} {s t : State} (alone : StagedAlone s t)
    (written : ∀ g, t.envStaged g = if addresses b g then (s.envStaged g).write f v else s.envStaged g) :
    t = fieldStaged b f v s := by
  have table : t.env = (fieldStaged b f v s).env :=
    PerGallery.ext_get fun g => by
      simp only [fieldStaged, PerGallery.get_ofFn]
      exact written g
  rw [alone, table]
  rfl

/-- The write for one gallery stages the field there. -/
theorem writeStaged_eq_fieldStaged {b : BitVec 3} {g : Gallery} (num : b.toNat = galleryNum g) (f : EnvField) (v : Nat)
    (s : State) : s.writeStaged f v g = fieldStaged b f v s := by
  refine eq_fieldStaged ((StagedAlone.refl s).writeStaged f v g) fun h => ?_
  simp only [addresses_one num, decide_eq_true_eq]
  exact envStaged_writeStaged s f v g h

/-- The writes for all six galleries stage the field in each. -/
theorem forGalleries_writeStaged_eq_fieldStaged {b : BitVec 3} (num : b.toNat = 7) (f : EnvField) (v : Nat) (s : State) :
    forGalleries (fun g s => s.writeStaged f v g) s = fieldStaged b f v s := by
  refine eq_fieldStaged (forGalleries_keeps (fun g _ h => h.writeStaged f v g) (StagedAlone.refl s)) fun g => ?_
  simp only [addresses_all num, if_true]
  refine forGalleries_each State.envStaged (fun _ e => e.write f v) ?self ?other s g
  case self =>
    intro g s
    simp [envStaged_writeStaged]
  case other =>
    intro g h s ne
    simp [envStaged_writeStaged, ne]

/-! ## WRITE STAGED -/

theorem envRange_le (f : EnvField) : (envRange f).1 ≤ (envRange f).2 := by cases f <;> decide

/-- WRITE STAGED of a field number above 18 (R57). -/
theorem execWriteStaged_unknown {q : Req} {s : State} (ready : Ready s .envelope) (port : q.port = .conservation)
    (field : envFields[q.sub.toNat]? = none) :
    execWriteStaged q s = .next (after s (.writeStaged q) s (reply q 0x10 .range 0)) := by
  have permitted : conservationOnly q.port = true := by rw [port]; rfl
  rw [execWriteStaged, request_ready ready _ _ permitted]
  simp only [field, refuse]
  exact congrArg _ (seal_sendAll_take rfl (.writeStaged q) _)

/-- WRITE STAGED of a field: RANGE for gallery 6, the refusal of the lowest-numbered gallery that refuses, or the clamped
value staged in the galleries named (R57, R58, R60). -/
theorem execWriteStaged_field {q : Req} {s : State} {f : EnvField} (ready : Ready s .envelope)
    (port : q.port = .conservation) (field : envFields[q.sub.toNat]? = some f) :
    let i := Instr.writeStaged q
    let v := envClamp f q.value.toNat
    execWriteStaged q s = .next (
      if q.gallery = 6 then after s i s (reply q 0x10 .range 0)
      else match firstAddressed q.gallery (stagedRefuses s f v) with
        | some g => after s i s (reply q 0x10 (stagedRefusal s f g).1
            (refusedBy q.gallery g (if q.gallery = 7 then 0 else (stagedRefusal s f g).2)))
        | none => after s i (fieldStaged q.gallery f v s)
            (reply q 0x10 (if v = q.value.toNat then .ok else .clamped) v)) := by
  intro i v
  have permitted : conservationOnly q.port = true := by rw [port]; rfl
  have answered (t : State) (same : t.inFlight = s.inFlight) (x : Result) (d : Nat) :
      ((t.take i).send (.replyNotice q.port (replyTo q 0x10 x d))).seal = after s i t (reply q 0x10 x d) :=
    seal_sendAll_take same i _
  have judged (g : Gallery) :
      judgeStaged (s.take i) f v g = if stagedRefuses s f v g then some (stagedRefusal s f g) else none :=
    judgeStaged_eq _ f v g
  rw [execWriteStaged, request_ready ready _ _ permitted]
  obtain ⟨g, sel, num⟩ | ⟨sel, num⟩ | ⟨sel, six⟩ := gallerySel_cases q.gallery
  · have small := galleryNum_lt g
    have known : q.gallery ≠ 6 := by bv_omega
    have single : q.gallery ≠ 7 := by bv_omega
    have single' : q.gallery.toNat ≠ 7 := by omega
    simp only [field, sel]
    rw [judged, firstAddressed_one num, if_neg known]
    cases stagedRefuses s f v g
    · simp only [writeStaged_eq_fieldStaged num]
      exact congrArg _ (answered (fieldStaged q.gallery f v s) rfl _ _)
    · simp only [refusedBy, single, single', if_true, if_false]
      exact congrArg _ (answered s rfl _ _)
  · have known : q.gallery ≠ 6 := by bv_omega
    have all : q.gallery = 7 := by bv_omega
    have whole : (fun g => (judgeStaged (s.take i) f v g).map fun p => (p.1, 0)) =
        fun g => if stagedRefuses s f v g then some ((stagedRefusal s f g).1, 0) else none := by
      funext g
      rw [judged]
      split <;> rfl
    simp only [field, sel]
    rw [whole, judgeAll_guarded, firstAddressed_all num, if_neg known]
    cases galleries.find? (stagedRefuses s f v)
    · simp only [forGalleries_writeStaged_eq_fieldStaged num]
      exact congrArg _ (answered (fieldStaged q.gallery f v s) rfl _ _)
    · simp only [refusedBy, all, if_true]
      exact congrArg _ (answered s rfl _ _)
  · simp only [field, sel, refuse, if_pos six]
    exact congrArg _ (answered s rfl _ _)

/-- Settles O33: the field number is judged first, then gallery 6, then each gallery addressed for its pending commit and its
loan; the reply is OK exactly when the clamp leaves the value. -/
theorem stagedWritten : Obligations.StagedWritten := by
  intro q s ready port
  cases field : envFields[q.sub.toNat]? with
  | none => exact execWriteStaged_unknown ready port field
  | some f =>
    intro i named low high v
    have within : envClamp f q.value.toNat = q.value.toNat ↔ low ≤ q.value.toNat ∧ q.value.toNat ≤ high :=
      clampNat_eq_self_iff (envRange_le f)
    have refused (g : Gallery) :
        after s (.writeStaged q) s (reply q 0x10 (stagedRefusal s f g).1
          (refusedBy q.gallery g (if q.gallery = 7 then 0 else (stagedRefusal s f g).2))) =
        if (s.envStaged g).commitPending then after s i s (reply q 0x10 .pending (refusedBy q.gallery g 0))
        else after s i s
          (reply q 0x10 .locked (refusedBy q.gallery g (if q.gallery = 7 then 0 else envGet (s.active g) f))) := by
      unfold stagedRefusal
      split
      · rw [ite_self]
      · rfl
    refine (execWriteStaged_field ready port field).trans (congrArg _ ?_)
    simp only [within, refused]
    rfl

end Sys2Proof.Machine
end

section
/-! SUPPORT. Chapter 05, light dose accounts: START PERIOD, QUERY ALLOWANCE and DECLARE LEVEL (O39). -/

namespace Sys2Proof.Machine

/-! ## What a request leaves -/

/-- A permitted request leaves the records its action makes and the reply its action names (R182). -/
theorem request_answers {b : Block} {q : Req} {s t : State} {i : Instr} {code d : Nat} {permitted : Port → Bool}
    {act : State → Taken} {x : Result} (ready : Ready s b) (allowed : permitted q.port = true)
    (same : t.inFlight = s.inFlight) (acts : act (s.take i) = (t.take i, x, d)) :
    request b i code permitted q s act = .next (after s i t (reply q code x d)) := by
  rw [request_ready ready i code allowed, acts]
  exact congrArg _ (seal_sendAll_take same i _)

/-- A request from a port that may not send it leaves the records as they are (R182). -/
theorem request_refused {b : Block} {q : Req} {s : State} (ready : Ready s b) (i : Instr) (code : Nat)
    {permitted : Port → Bool} (barred : permitted q.port = false) (act : State → Taken) :
    request b i code permitted q s act = .next (after s i s (reply q code .notPermitted 0)) := by
  rw [request_notPermitted ready i code barred]
  exact congrArg _ (seal_sendAll_take rfl i _)

/-! ## Sets of galleries -/

/-- The set of the galleries for which `p` holds, written as a sum over all six. -/
theorem maskOf_eq_sum (p : Gallery → Bool) : maskOf p = (galleries.map fun g => (p g).toNat * 2 ^ galleryNum g).sum := by
  unfold maskOf
  induction galleries with
  | nil => rfl
  | cons g l ih => cases holds : p g <;> simp [holds, ih]

/-- The mask the model answers is the set of R192. -/
theorem galleryMask_ofFn (p : Gallery → Bool) : galleryMask (.ofFn p) = maskOf p := by
  rw [maskOf_eq_sum]
  simp only [galleryMask, PerGallery.ofFn, bitsLow, galleries, galleryNum, List.map_cons, List.map_nil, List.sum_cons,
    List.sum_nil]
  omega

/-- A set of galleries is 0 exactly when it has no member. -/
theorem maskOf_eq_zero_iff (p : Gallery → Bool) : maskOf p = 0 ↔ galleries.any p = false := by
  rw [maskOf, List.sum_eq_zero_iff, List.forall_mem_map]
  simp

/-- A field that names one gallery names that one of the six. -/
theorem galleries_filter_addresses_one {b : BitVec 3} {g : Gallery} (h : b.toNat = galleryNum g) :
    galleries.filter (addresses b) = [g] := by
  rw [funext (addresses_one h)]
  cases g <;> rfl

theorem galleries_any_addresses_one {b : BitVec 3} {g : Gallery} (h : b.toNat = galleryNum g) (p : Gallery → Bool) :
    galleries.any (fun i => addresses b i && p i) = p g := by
  rw [← List.any_filter, galleries_filter_addresses_one h]
  simp

/-! ## The light records written -/

/-- The light record of one gallery rewritten by `φ`. -/
def editLight (φ : LightRec → LightRec) (g : Gallery) (s : State) : State := s.setLight g (φ (s.lightRec g))

/-- The state with the light records of the galleries that a gallery field names rewritten by `φ`. -/
def lightWritten (b : BitVec 3) (φ : LightRec → LightRec) (s : State) : State :=
  { s with light := .ofFn fun g => if addresses b g then φ (s.lightRec g) else s.lightRec g }

theorem lightRec_editLight (φ : LightRec → LightRec) (g h : Gallery) (s : State) :
    (editLight φ g s).lightRec h = if h = g then φ (s.lightRec h) else s.lightRec h := by
  rw [editLight, State.lightRec_setLight]
  split
  · rw [‹h = g›]
  · rfl

/-- A record rewritten to itself leaves the state as it is. -/
theorem editLight_of_fixed {φ : LightRec → LightRec} {g : Gallery} {s : State} (fixed : φ (s.lightRec g) = s.lightRec g) :
    editLight φ g s = s := by
  rw [editLight, fixed]
  cases g <;> rfl

/-- `t` is `s` but for the light records. -/
def LightAlone (s t : State) : Prop := t = { s with light := t.light }

theorem LightAlone.refl (s : State) : LightAlone s s := rfl

theorem LightAlone.editLight {s t : State} (h : LightAlone s t) (φ : LightRec → LightRec) (g : Gallery) :
    LightAlone s (editLight φ g t) := by
  rw [LightAlone, h]
  rfl

theorem eq_lightWritten {b : BitVec 3} {φ : LightRec → LightRec} {s t : State} (alone : LightAlone s t)
    (written : ∀ g, t.lightRec g = if addresses b g then φ (s.lightRec g) else s.lightRec g) : t = lightWritten b φ s := by
  have table : t.light = (lightWritten b φ s).light :=
    PerGallery.ext_get fun g => by
      simp only [lightWritten, PerGallery.get_ofFn]
      exact written g
  rw [alone, table]
  rfl

/-- The write for one gallery rewrites its record. -/
theorem editLight_eq_lightWritten {b : BitVec 3} {g : Gallery} (num : b.toNat = galleryNum g) (φ : LightRec → LightRec)
    (s : State) : editLight φ g s = lightWritten b φ s := by
  refine eq_lightWritten ((LightAlone.refl s).editLight φ g) fun h => ?_
  simp only [addresses_one num, decide_eq_true_eq]
  exact lightRec_editLight φ g h s

/-- The writes for all six galleries rewrite each record. -/
theorem forGalleries_editLight_eq_lightWritten {b : BitVec 3} (num : b.toNat = 7) (φ : LightRec → LightRec) (s : State) :
    forGalleries (editLight φ) s = lightWritten b φ s := by
  refine eq_lightWritten (forGalleries_keeps (fun g _ h => h.editLight φ g) (LightAlone.refl s)) fun g => ?_
  simp only [addresses_all num, if_true]
  refine forGalleries_each State.lightRec (fun _ => φ) ?self ?other s g
  case self =>
    intro g s
    simp [lightRec_editLight]
  case other =>
    intro g h s ne
    simp [lightRec_editLight, ne]

/-- A marking action on a gallery that rewrites its light record by `φ` and is marked when `m` held of the record before. -/
def markLight (φ : LightRec → LightRec) (m : LightRec → Bool) (g : Gallery) (s : State) : State × Bool :=
  (editLight φ g s, m (s.lightRec g))

/-- The marking action on all six galleries rewrites each record and answers the set of those marked. -/
theorem forMask_markLight {b : BitVec 3} (num : b.toNat = 7) (φ : LightRec → LightRec) (m : LightRec → Bool) (s : State) :
    forMask (markLight φ m) s = (lightWritten b φ s, maskOf fun g => m (s.lightRec g)) := by
  refine Prod.ext (forGalleries_editLight_eq_lightWritten num φ s) ?_
  refine (forMask_mask State.lightRec (fun _ => m) (fun g s => rfl) ?other s).trans (galleryMask_ofFn _)
  intro g h s ne
  simp [markLight, lightRec_editLight, ne]

/-- What a request that marks the galleries it names comes to: RANGE for gallery 6; for one gallery the data `d` gives, and for
all six the set of those marked (R81, R102, R192). -/
def markNamed (b : BitVec 3) (f : Gallery → State → State × Bool) (yes no : Result) (d : Gallery → Nat) (s : State) : Taken :=
  match gallerySel b with
  | .bad => refuse s .range
  | .one g => ((f g s).1, if (f g s).2 then yes else no, d g)
  | .all => ((forMask f s).1, if (forMask f s).2 = 0 then no else yes, (forMask f s).2)

theorem markNamed_markLight (b : BitVec 3) (φ : LightRec → LightRec) (m : LightRec → Bool) (yes no : Result)
    (d : Gallery → Nat) (s : State) :
    let marked : Gallery → Bool := fun g => addresses b g && m (s.lightRec g)
    markNamed b (markLight φ m) yes no d s =
      if b = 6 then refuse s .range
      else (lightWritten b φ s, if galleries.any marked then yes else no,
        if b = 7 then maskOf marked else ((galleries.filter (addresses b)).map d).sum) := by
  intro marked
  obtain ⟨g, sel, num⟩ | ⟨sel, num⟩ | ⟨sel, six⟩ := gallerySel_cases b
  · have small := galleryNum_lt g
    have known : b ≠ 6 := by bv_omega
    have single : b ≠ 7 := by bv_omega
    have mark : galleries.any marked = m (s.lightRec g) := galleries_any_addresses_one num _
    simp only [markNamed, sel, markLight, editLight_eq_lightWritten num, if_neg known, if_neg single, mark,
      galleries_filter_addresses_one num, List.map_singleton, List.sum_singleton]
  · have known : b ≠ 6 := by bv_omega
    have all : b = 7 := by bv_omega
    have mark : marked = fun g => m (s.lightRec g) := by
      funext g
      simp only [marked, addresses_all num, Bool.true_and]
    simp only [markNamed, sel, forMask_markLight num, if_neg known, if_pos all, mark, maskOf_eq_zero_iff]
    cases galleries.any fun g => m (s.lightRec g) <;> rfl
  · simp only [markNamed, sel, if_pos six]

/-- A permitted request that marks the galleries it names leaves their light records rewritten; for gallery 6 it
changes nothing. -/
theorem request_markLight {q : Req} {s : State} {i : Instr} {code : Nat} {permitted : Port → Bool} {act : State → Taken}
    {φ : LightRec → LightRec} {m : LightRec → Bool} {yes no : Result} {d : Gallery → Nat} (ready : Ready s .light)
    (allowed : permitted q.port = true)
    (acts : act (s.take i) = markNamed q.gallery (markLight φ m) yes no d (s.take i)) :
    let marked : Gallery → Bool := fun g => addresses q.gallery g && m (s.lightRec g)
    request .light i code permitted q s act = .next (
      if q.gallery = 6 then after s i s (reply q code .range 0)
      else after s i (lightWritten q.gallery φ s) (reply q code (if galleries.any marked then yes else no)
        (if q.gallery = 7 then maskOf marked else ((galleries.filter (addresses q.gallery)).map d).sum))) := by
  intro marked
  rw [markNamed_markLight] at acts
  split at acts
  · rw [if_pos ‹_›]
    exact request_answers ready allowed rfl acts
  · rw [if_neg ‹_›]
    exact request_answers (t := lightWritten q.gallery φ s) ready allowed rfl acts

/-! ## START PERIOD -/

theorem exec_startPeriod (q : Req) (s : State) : exec (.startPeriod q) s = execStartPeriod q s := rfl

/-- A start period pends (R81). -/
def LightRec.withStart (r : LightRec) : LightRec := { r with startPending := true }

/-- START PERIOD of a gallery marks it when none was pending there, and rewrites nothing otherwise (R81). -/
theorem startPeriod_mark (g : Gallery) (s : State) :
    (if (s.lightRec g).startPending then (s, false)
      else (s.setLight g { s.lightRec g with startPending := true }, true)) =
    markLight LightRec.withStart (fun r => !r.startPending) g s := by
  cases pending : (s.lightRec g).startPending
  · simp [markLight, pending, editLight, LightRec.withStart]
  · have fixed : (s.lightRec g).withStart = s.lightRec g := by simp only [LightRec.withStart, ← pending]
    simp [markLight, pending, editLight_of_fixed fixed]

/-- START PERIOD of the conservation master (R81). -/
theorem execStartPeriod_permitted {q : Req} {s : State} (ready : Ready s .light) (port : q.port = .conservation) :
    let new : Gallery → Bool := fun g => addresses q.gallery g && !(s.lightRec g).startPending
    execStartPeriod q s = .next (
      if q.gallery = 6 then after s (.startPeriod q) s (reply q 0x14 .range 0)
      else after s (.startPeriod q) (lightWritten q.gallery LightRec.withStart s)
        (reply q 0x14 (if galleries.any new then .accepted else .duplicate) (if q.gallery = 7 then maskOf new else 0))) := by
  have permitted : conservationOnly q.port = true := by rw [port]; rfl
  refine (request_markLight (φ := LightRec.withStart) (m := fun r => !r.startPending) (yes := .accepted) (no := .duplicate)
    (d := fun _ => 0) ready permitted ?_).trans ?_
  · simp only [startPeriod_mark]
    rfl
  · simp

/-! ## QUERY ALLOWANCE -/

theorem exec_queryAllowance (q : Req) (s : State) : exec (.queryAllowance q) s = execQueryAllowance q s := rfl

/-- QUERY ALLOWANCE of the lighting master (R101). -/
theorem execQueryAllowance_permitted {q : Req} {s : State} (ready : Ready s .light) (port : q.port = .lighting) :
    execQueryAllowance q s = .next (after s (.queryAllowance q) s (
      match galleryOf q.gallery.toNat, q.sub.toNat with
      | some g, 0 => reply q 0x08 .ok (s.lightRec g).allowance
      | some g, 1 => reply q 0x08 .ok (paceCode (s.lightRec g).pace)
      | some g, 2 => reply q 0x08 .ok ((s.lightRec g).declared.getD 0xFFFF)
      | some g, 3 => reply q 0x08 .ok ((s.lightRec g).hrem.getD 0xFFFF)
      | _, _ => reply q 0x08 .range 0)) := by
  have permitted : lightingOnly q.port = true := by rw [port]; rfl
  unfold execQueryAllowance
  cases named : galleryOf q.gallery.toNat with
  | none =>
    refine request_answers ready permitted rfl ?_
    simp only [gallerySel, named]
    split_ifs <;> rfl
  | some g =>
    have sel : gallerySel q.gallery = .one g := by simp only [gallerySel, named]
    simp only [sel]
    match q.sub.toNat with
    | 0 | 1 | 2 | 3 | _ + 4 => exact request_answers ready permitted rfl rfl

/-! ## DECLARE LEVEL -/

theorem exec_declareLevel (q : Req) (s : State) : exec (.declareLevel q) s = execDeclareLevel q s := rfl

/-- The level declared as `v`, within the allowance (R102). -/
def LightRec.declare (v : Nat) (r : LightRec) : LightRec := { r with declared := some (min v r.allowance) }

/-- The level withdrawn (R102). -/
def LightRec.withdraw (r : LightRec) : LightRec := { r with declared := none }

/-- DECLARE LEVEL of the lighting master with the value that withdraws (R102). -/
theorem execDeclareLevel_withdraws {q : Req} {s : State} (ready : Ready s .light) (port : q.port = .lighting)
    (withdraws : q.value.toNat = 0xFFFF) :
    execDeclareLevel q s = .next (
      if q.gallery = 6 then after s (.declareLevel q) s (reply q 0x09 .range 0)
      else after s (.declareLevel q) (lightWritten q.gallery LightRec.withdraw s) (reply q 0x09 .ok 0xFFFF)) := by
  have permitted : lightingOnly q.port = true := by rw [port]; rfl
  unfold execDeclareLevel
  obtain ⟨g, sel, num⟩ | ⟨sel, num⟩ | ⟨sel, six⟩ := gallerySel_cases q.gallery
  · have known : q.gallery ≠ 6 := by have := galleryNum_lt g; bv_omega
    simp only [sel, withdraws, if_true, if_neg known]
    exact request_answers (t := lightWritten q.gallery LightRec.withdraw s) ready permitted rfl
      (congrArg (·, _) (editLight_eq_lightWritten num LightRec.withdraw _))
  · have known : q.gallery ≠ 6 := by bv_omega
    simp only [sel, withdraws, if_true, if_neg known]
    exact request_answers (t := lightWritten q.gallery LightRec.withdraw s) ready permitted rfl
      (congrArg (·, _) (forGalleries_editLight_eq_lightWritten num LightRec.withdraw _))
  · simp only [sel, if_pos six]
    exact request_answers ready permitted rfl rfl

/-- DECLARE LEVEL of the lighting master with a level (R102). -/
theorem execDeclareLevel_declares {q : Req} {s : State} (ready : Ready s .light) (port : q.port = .lighting)
    (declares : q.value.toNat ≠ 0xFFFF) :
    let v := q.value.toNat
    let clamped : Gallery → Bool := fun g => addresses q.gallery g && decide ((s.lightRec g).allowance < v)
    execDeclareLevel q s = .next (
      if q.gallery = 6 then after s (.declareLevel q) s (reply q 0x09 .range 0)
      else after s (.declareLevel q) (lightWritten q.gallery (LightRec.declare v) s)
        (reply q 0x09 (if galleries.any clamped then .clamped else .ok) (if q.gallery = 7 then maskOf clamped
          else ((galleries.filter (addresses q.gallery)).map fun g => min v (s.lightRec g).allowance).sum))) := by
  intro v
  have permitted : lightingOnly q.port = true := by rw [port]; rfl
  refine request_markLight (φ := LightRec.declare v) (m := fun r => decide (r.allowance < v)) ready permitted ?_
  simp only [declares, if_false]
  rfl

/-! ## The three requests -/

/-- Settles O39: each request is refused to the masters that may not send it, and otherwise answered as its own rule says;
DECLARE LEVEL withdraws or declares by its value. -/
theorem lightRequestsAnswered : Obligations.LightRequestsAnswered := by
  intro q s ready named all v
  refine ⟨?start, ?query, ?declare⟩
  case start =>
    intro new
    by_cases port : q.port = .conservation
    · refine (execStartPeriod_permitted ready port).trans ?_
      simp only [if_neg (not_not_intro port), all, decide_eq_true_eq]
      rfl
    · have barred : conservationOnly q.port = false := beq_false_of_ne port
      rw [if_pos port, exec_startPeriod]
      exact request_refused ready (.startPeriod q) 0x14 barred _
  case query =>
    by_cases port : q.port = .lighting
    · rw [if_neg (not_not_intro port)]
      exact execQueryAllowance_permitted ready port
    · have barred : lightingOnly q.port = false := beq_false_of_ne port
      rw [if_pos port, exec_queryAllowance]
      exact request_refused ready (.queryAllowance q) 0x08 barred _
  case declare =>
    intro clamped
    by_cases port : q.port = .lighting
    · rw [if_neg (not_not_intro port)]
      by_cases withdraws : v = 0xFFFF
      · refine (execDeclareLevel_withdraws ready port withdraws).trans ?_
        simp only [withdraws, if_true]
        rfl
      · refine (execDeclareLevel_declares ready port withdraws).trans ?_
        simp only [withdraws, if_false, all, decide_eq_true_eq]
        rfl
    · have barred : lightingOnly q.port = false := beq_false_of_ne port
      rw [if_pos port, exec_declareLevel]
      exact request_refused ready (.declareLevel q) 0x09 barred _

end Sys2Proof.Machine
end

section
/-! SUPPORT. Chapter 07, climate stability and the climate band: QUERY BAND and DECLARE SETPOINT (O42). -/

namespace Sys2Proof.Machine

/-! ## The climate records written -/

/-- The climate record of one gallery rewritten by `φ`. -/
def editClimate (φ : ClimateRec → ClimateRec) (g : Gallery) (s : State) : State := s.setClimate g (φ (s.climateRec g))

/-- `t` is `s` but for the climate records. -/
def ClimateAlone (s t : State) : Prop := t = { s with climate := t.climate }

theorem ClimateAlone.refl (s : State) : ClimateAlone s s := rfl

theorem ClimateAlone.editClimate {s t : State} (h : ClimateAlone s t) (φ : ClimateRec → ClimateRec) (g : Gallery) :
    ClimateAlone s (editClimate φ g t) := by
  rw [ClimateAlone, h]
  rfl

/-- The state with the climate records of the galleries that a gallery field names rewritten by `φ`. -/
def climateWritten (b : BitVec 3) (φ : ClimateRec → ClimateRec) (s : State) : State :=
  { s with climate := .ofFn fun g => if addresses b g then φ (s.climateRec g) else s.climateRec g }

/-- The write for one gallery rewrites its record. -/
theorem editClimate_eq_climateWritten {b : BitVec 3} {g : Gallery} (num : b.toNat = galleryNum g)
    (φ : ClimateRec → ClimateRec) (s : State) : editClimate φ g s = climateWritten b φ s := by
  simp only [climateWritten, addresses_one num]
  cases g <;> rfl

/-- The writes for all six galleries rewrite each record. -/
theorem forGalleries_editClimate_eq_climateWritten {b : BitVec 3} (num : b.toNat = 7) (φ : ClimateRec → ClimateRec)
    (s : State) : forGalleries (editClimate φ) s = climateWritten b φ s := by
  have alone : ClimateAlone s (forGalleries (editClimate φ) s) :=
    forGalleries_keeps (fun g _ h => h.editClimate φ g) (ClimateAlone.refl s)
  have each : ∀ g, (forGalleries (editClimate φ) s).climateRec g = φ (s.climateRec g) :=
    forGalleries_each State.climateRec (fun _ => φ) (fun g s => by simp [editClimate])
      (fun g h s ne => by simp [editClimate, ne]) s
  have table : (forGalleries (editClimate φ) s).climate = (climateWritten b φ s).climate :=
    PerGallery.ext_get fun g => by
      simp only [climateWritten, PerGallery.get_ofFn, addresses_all num, if_true]
      exact each g
  rw [alone, table]
  rfl

/-- A marking action on all six galleries that rewrites each record by `φ`, and marks those of which `m` held before, answers
the set of those marked. -/
theorem forMask_editClimate {b : BitVec 3} (num : b.toNat = 7) (φ : ClimateRec → ClimateRec) (m : ClimateRec → Bool)
    (s : State) : forMask (fun g s => (editClimate φ g s, m (s.climateRec g))) s =
      (climateWritten b φ s, maskOf fun g => m (s.climateRec g)) := by
  refine Prod.ext (forGalleries_editClimate_eq_climateWritten num φ s) ?_
  refine (forMask_mask State.climateRec (fun _ => m) (fun _ _ => rfl) ?other s).trans (galleryMask_ofFn _)
  intro g h s ne
  simp [editClimate, ne]

/-- A request that marks the galleries it names refuses gallery 6; when its action leaves `t` and marks by `m`, for one gallery
and for all six, it leaves `t` and answers by the addressed galleries marked. -/
theorem markNamed_of_marks {b : BitVec 3} {f : Gallery → State → State × Bool} {s t : State} {m : Gallery → Bool}
    (one : ∀ g, b.toNat = galleryNum g → f g s = (t, m g)) (all : b.toNat = 7 → forMask f s = (t, maskOf m))
    (yes no : Result) (d : Gallery → Nat) :
    let marked : Gallery → Bool := fun g => addresses b g && m g
    markNamed b f yes no d s =
      if b = 6 then refuse s .range
      else (t, if galleries.any marked then yes else no,
        if b = 7 then maskOf marked else ((galleries.filter (addresses b)).map d).sum) := by
  intro marked
  obtain ⟨g, sel, num⟩ | ⟨sel, num⟩ | ⟨sel, six⟩ := gallerySel_cases b
  · have small := galleryNum_lt g
    have known : b ≠ 6 := by bv_omega
    have single : b ≠ 7 := by bv_omega
    have mark : galleries.any marked = m g := galleries_any_addresses_one num m
    simp only [markNamed, sel, one g num, if_neg known, if_neg single, mark, galleries_filter_addresses_one num,
      List.map_singleton, List.sum_singleton]
  · have known : b ≠ 6 := by bv_omega
    have seven : b = 7 := by bv_omega
    have mark : marked = m := by
      funext g
      simp only [marked, addresses_all num, Bool.true_and]
    simp only [markNamed, sel, all num, if_neg known, if_pos seven, mark, maskOf_eq_zero_iff]
    cases galleries.any m <;> rfl
  · simp only [markNamed, sel, if_pos six]

/-! ## QUERY BAND -/

theorem exec_queryBand (q : Req) (s : State) : exec (.queryBand q) s = execQueryBand q s := rfl

theorem collapseCode_eq (r : ClimateRec) :
    collapseCode r = (if r.rh.collapsed then 1 else 0) + (if r.t.collapsed then 2 else 0) := by
  unfold collapseCode
  cases r.rh.collapsed <;> cases r.t.collapsed <;> rfl

/-- QUERY BAND of the climate master (R116). -/
theorem execQueryBand_permitted {q : Req} {s : State} (ready : Ready s .climate) (port : q.port = .climate) :
    execQueryBand q s = .next (after s (.queryBand q) s (
      match galleryOf q.gallery.toNat, q.sub.toNat with
      | some g, 0 => reply q 0x0C .ok (s.climateRec g).rh.low
      | some g, 1 => reply q 0x0C .ok (s.climateRec g).rh.high
      | some g, 2 => reply q 0x0C .ok (s.climateRec g).t.low
      | some g, 3 => reply q 0x0C .ok (s.climateRec g).t.high
      | some g, 4 => reply q 0x0C .ok ((s.climateRec g).rhSet.getD 0xFFFF)
      | some g, 5 => reply q 0x0C .ok ((s.climateRec g).tSet.getD 0xFFFF)
      | some g, 6 => reply q 0x0C .ok (collapseCode (s.climateRec g))
      | _, _ => reply q 0x0C .range 0)) := by
  have permitted : climateOnly q.port = true := by rw [port]; rfl
  unfold execQueryBand
  cases named : galleryOf q.gallery.toNat with
  | none =>
    refine request_answers ready permitted rfl ?_
    simp only [gallerySel, named]
    split_ifs <;> rfl
  | some g =>
    have sel : gallerySel q.gallery = .one g := by simp only [gallerySel, named]
    simp only [sel]
    match q.sub.toNat with
    | 0 | 1 | 2 | 3 | 4 | 5 | 6 | _ + 7 => exact request_answers ready permitted rfl rfl

/-! ## DECLARE SETPOINT -/

theorem exec_declareSetpoint (q : Req) (s : State) : exec (.declareSetpoint q) s = execDeclareSetpoint q s := rfl

/-- A sub-argument names RH by 0, temperature by 1, and no quantity from 2 on. -/
theorem quantityOf_cases (n : Nat) :
    (quantityOf n = some .rh ∧ n = 0) ∨ (quantityOf n = some .temp ∧ n = 1) ∨ (quantityOf n = none ∧ 2 ≤ n) := by
  match n with
  | 0 => exact .inl ⟨rfl, rfl⟩
  | 1 => exact .inr (.inl ⟨rfl, rfl⟩)
  | n + 2 => exact .inr (.inr ⟨rfl, Nat.le_add_left 2 n⟩)

/-- What a declaration of `v` makes the setpoint of a quantity: absent for FFFFh, and otherwise `v` clamped to the band
(R117). -/
def setpointOf (x : Quantity) (v : Nat) (r : ClimateRec) : Option Nat :=
  if v = 0xFFFF then none else some ((r.band x).grant v)

/-- The state with `v` declared in the galleries that a gallery field names (R117). -/
def setpointWritten (b : BitVec 3) (x : Quantity) (v : Nat) (s : State) : State :=
  climateWritten b (fun r => r.declare x (setpointOf x v r)) s

theorem withdrawSetpoint_eq {v : Nat} (withdraws : v = 0xFFFF) (x : Quantity) :
    State.withdrawSetpoint x = editClimate fun r => r.declare x (setpointOf x v r) := by
  simp only [setpointOf, if_pos withdraws]
  rfl

theorem declareSetpoint_eq {v : Nat} (declares : v ≠ 0xFFFF) (x : Quantity) :
    State.declareSetpoint x v = fun g s => (editClimate (fun r => r.declare x (setpointOf x v r)) g s,
      ((s.climateRec g).band x).grant v != v) := by
  simp only [setpointOf, if_neg declares]
  rfl

/-- DECLARE SETPOINT of the climate master for no quantity (R117). -/
theorem execDeclareSetpoint_unknown {q : Req} {s : State} (ready : Ready s .climate) (port : q.port = .climate)
    (unknown : quantityOf q.sub.toNat = none) :
    execDeclareSetpoint q s = .next (after s (.declareSetpoint q) s (reply q 0x0D .range 0)) := by
  have permitted : climateOnly q.port = true := by rw [port]; rfl
  unfold execDeclareSetpoint
  simp only [unknown]
  exact request_answers ready permitted rfl rfl

/-- DECLARE SETPOINT of the climate master for a quantity, with the value that withdraws (R117). -/
theorem execDeclareSetpoint_withdraws {q : Req} {s : State} {x : Quantity} (ready : Ready s .climate)
    (port : q.port = .climate) (known : quantityOf q.sub.toNat = some x) (withdraws : q.value.toNat = 0xFFFF) :
    execDeclareSetpoint q s = .next (
      if q.gallery = 6 then after s (.declareSetpoint q) s (reply q 0x0D .range 0)
      else after s (.declareSetpoint q) (setpointWritten q.gallery x q.value.toNat s) (reply q 0x0D .ok 0xFFFF)) := by
  have permitted : climateOnly q.port = true := by rw [port]; rfl
  unfold execDeclareSetpoint
  simp only [known, if_pos withdraws, withdrawSetpoint_eq withdraws]
  obtain ⟨g, sel, num⟩ | ⟨sel, num⟩ | ⟨sel, six⟩ := gallerySel_cases q.gallery
  · have named : q.gallery ≠ 6 := by have := galleryNum_lt g; bv_omega
    simp only [sel, if_neg named]
    exact request_answers (t := setpointWritten q.gallery x q.value.toNat s) ready permitted rfl
      (congrArg (·, _) (editClimate_eq_climateWritten num _ _))
  · have named : q.gallery ≠ 6 := by bv_omega
    simp only [sel, if_neg named]
    exact request_answers (t := setpointWritten q.gallery x q.value.toNat s) ready permitted rfl
      (congrArg (·, _) (forGalleries_editClimate_eq_climateWritten num _ _))
  · simp only [sel, if_pos six]
    exact request_answers ready permitted rfl rfl

/-- The declarations of the galleries a request names, with what they answer (R117). -/
theorem markNamed_declareSetpoint {v : Nat} (declares : v ≠ 0xFFFF) (b : BitVec 3) (x : Quantity) (d : Gallery → Nat)
    (s : State) :
    let clamped : Gallery → Bool := fun g => addresses b g && ((s.climateRec g).band x).grant v != v
    markNamed b (State.declareSetpoint x v) .clamped .ok d s =
      if b = 6 then refuse s .range
      else (setpointWritten b x v s, if galleries.any clamped then .clamped else .ok,
        if b = 7 then maskOf clamped else ((galleries.filter (addresses b)).map d).sum) := by
  rw [declareSetpoint_eq declares]
  exact markNamed_of_marks (fun g num => congrArg (·, _) (editClimate_eq_climateWritten num _ s))
    (fun num => forMask_editClimate num _ (fun r => (r.band x).grant v != v) s) _ _ d

/-- DECLARE SETPOINT of the climate master for a quantity, with a value to be granted (R117). -/
theorem execDeclareSetpoint_declares {q : Req} {s : State} {x : Quantity} (ready : Ready s .climate)
    (port : q.port = .climate) (known : quantityOf q.sub.toNat = some x) (declares : q.value.toNat ≠ 0xFFFF) :
    let granted : Gallery → Nat := fun g => ((s.climateRec g).band x).grant q.value.toNat
    let clamped : Gallery → Bool := fun g => addresses q.gallery g && granted g != q.value.toNat
    execDeclareSetpoint q s = .next (
      if q.gallery = 6 then after s (.declareSetpoint q) s (reply q 0x0D .range 0)
      else after s (.declareSetpoint q) (setpointWritten q.gallery x q.value.toNat s)
        (reply q 0x0D (if galleries.any clamped then .clamped else .ok)
          (if q.gallery = 7 then maskOf clamped else ((galleries.filter (addresses q.gallery)).map granted).sum))) := by
  intro granted clamped
  have permitted : climateOnly q.port = true := by rw [port]; rfl
  have acts := markNamed_declareSetpoint declares q.gallery x granted (s.take (.declareSetpoint q))
  unfold execDeclareSetpoint
  simp only [known, if_neg declares]
  by_cases six : q.gallery = 6
  · rw [if_pos six]
    exact request_answers ready permitted rfl (acts.trans (if_pos six))
  · rw [if_neg six]
    exact request_answers (t := setpointWritten q.gallery x q.value.toNat s) ready permitted rfl (acts.trans (if_neg six))

/-- DECLARE SETPOINT of the climate master for a quantity: it withdraws with FFFFh and declares with any other value (R117). -/
theorem execDeclareSetpoint_known {q : Req} {s : State} {x : Quantity} (ready : Ready s .climate) (port : q.port = .climate)
    (known : quantityOf q.sub.toNat = some x) :
    let v := q.value.toNat
    let granted : Gallery → Nat := fun g => ((s.climateRec g).band x).grant v
    let clamped : Gallery → Bool := fun g => addresses q.gallery g && granted g != v
    execDeclareSetpoint q s = .next (
      if q.gallery = 6 then after s (.declareSetpoint q) s (reply q 0x0D .range 0)
      else after s (.declareSetpoint q) (setpointWritten q.gallery x v s)
        (if v = 0xFFFF then reply q 0x0D .ok 0xFFFF
        else reply q 0x0D (if galleries.any clamped then .clamped else .ok)
          (if q.gallery = 7 then maskOf clamped else ((galleries.filter (addresses q.gallery)).map granted).sum))) := by
  intro v granted clamped
  by_cases withdraws : v = 0xFFFF
  · rw [if_pos withdraws]
    exact execDeclareSetpoint_withdraws ready port known withdraws
  · rw [if_neg withdraws]
    exact execDeclareSetpoint_declares ready port known withdraws

/-! ## The two requests -/

/-- Settles O42: each request is refused to the masters that may not send it; QUERY BAND reads one field of the record, and
DECLARE SETPOINT is refused or writes the setpoint of the quantity its sub-argument names. -/
theorem climateRequestsAnswered : Obligations.ClimateRequestsAnswered := by
  intro q s ready v collapse
  refine ⟨?query, ?declare⟩
  case query =>
    by_cases port : q.port = .climate
    · rw [if_neg (not_not_intro port), exec_queryBand, execQueryBand_permitted ready port]
      simp only [collapseCode_eq]
      rfl
    · have barred : climateOnly q.port = false := beq_false_of_ne port
      rw [if_pos port, exec_queryBand]
      exact request_refused ready (.queryBand q) 0x0C barred _
  case declare =>
    intro band granted set clamped
    by_cases port : q.port = .climate
    · rw [if_neg (not_not_intro port), exec_declareSetpoint]
      obtain ⟨known, zero⟩ | ⟨known, one⟩ | ⟨unknown, large⟩ := quantityOf_cases q.sub.toNat
      · have sub : q.sub = 0 := by bv_omega
        have small : ¬ 2 ≤ q.sub.toNat := by omega
        refine (execDeclareSetpoint_known ready port known).trans ?_
        simp only [small, false_or]
        simp only [clamped, granted, set, band, if_pos sub]
        rfl
      · have sub : q.sub ≠ 0 := by bv_omega
        have small : ¬ 2 ≤ q.sub.toNat := by omega
        refine (execDeclareSetpoint_known ready port known).trans ?_
        simp only [small, false_or]
        simp only [clamped, granted, set, band, if_neg sub]
        rfl
      · rw [if_pos (.inl large)]
        exact execDeclareSetpoint_unknown ready port unknown
    · have barred : climateOnly q.port = false := beq_false_of_ne port
      rw [if_pos port, exec_declareSetpoint]
      exact request_refused ready (.declareSetpoint q) 0x0D barred _

end Sys2Proof.Machine
end

section
/-! SUPPORT. Chapter 08, the hourly history: the running aggregates that a tracked update leaves, and the notice of their change
(O43). -/

namespace Sys2Proof.Machine

/-! ## What a tracked update does to the running aggregates -/

/-- An extreme after an update of its channel, when a code moves it by `move`: only a SAMPLE that carries a code moves it
(R126). -/
def movedBy (move : Option Nat → Nat → Option Nat) (u : TrackedUpdate) (m : Option Nat) : Option Nat :=
  if u.kind = .sample then u.code.elim m (move m) else m

/-- The update marks the hour of an H or T channel incomplete: a STATE that does not measure (R127). -/
def spoilsHour (u : TrackedUpdate) : Bool := u.kind = .state && !measures u.state u.code

/-- The running aggregates after an update, by the kind of its channel: the extremes of that kind move, and for an H or T
channel the kept copy follows and the hour may be spoilt (R126, R127). -/
def Aggregates.gathered (a : Aggregates) (u : TrackedUpdate) : Aggregates :=
  match u.chan.k with
  | .lux => { a with peakL := movedBy raiseTo u a.peakL }
  | .uv => { a with uvMax := movedBy raiseTo u a.uvMax }
  | .rh => { a with
      rhMin := movedBy lowerTo u a.rhMin, rhMax := movedBy raiseTo u a.rhMax, hState := u.state, hCode := u.code,
      hIncomplete := a.hIncomplete || spoilsHour u }
  | .temp => { a with
      tMin := movedBy lowerTo u a.tMin, tMax := movedBy raiseTo u a.tMax, tState := u.state, tCode := u.code,
      tIncomplete := a.tIncomplete || spoilsHour u }

/-- The model's three branches, of a SAMPLE with a code, a SAMPLE without, and a STATE, gather what the kind of the channel
says. -/
theorem Aggregates.take_eq_gathered (a : Aggregates) (u : TrackedUpdate) : a.take u = a.gathered u := by
  unfold take gathered
  split
  case h_1 x kind code =>
    have moved (f m) : movedBy f u m = f m x := by simp [movedBy, kind, code]
    have whole : spoilsHour u = false := by simp [spoilsHour, kind]
    cases chan : u.chan.k <;> simp [keep, sample, moved, whole, code, chan]
  case h_2 kind code =>
    have still (f m) : movedBy f u m = m := by simp [movedBy, kind, code]
    have whole : spoilsHour u = false := by simp [spoilsHour, kind]
    cases chan : u.chan.k <;> simp [keep, still, whole, code, chan]
  case h_3 kind =>
    have still (f m) : movedBy f u m = m := by simp [movedBy, kind]
    have spoilt : spoilsHour u = !measures u.state u.code := by simp [spoilsHour, kind]
    cases measured : measures u.state u.code <;> cases chan : u.chan.k <;>
      simp [keep, spoil, still, spoilt, measured, chan]

theorem Aggregates.change_eq_iff (a b : Aggregates) (g : Gallery) :
    b.change g = a.change g ↔ (b.rhMin, b.rhMax, b.tMin, b.tMax) = (a.rhMin, a.rhMax, a.tMin, a.tMax) := by
  simp [change]

/-! ## TRACKED_UPDATE_AT_HISTORY -/

/-- What a tracked update leaves and sends: the gathered aggregates, and a notice when one of the four climate extremes has
changed (R126, R127, R128). -/
theorem exec_trackedUpdateAtHistory {u : TrackedUpdate} {s : State} (ready : Ready s .history) {b : Aggregates}
    (gathered : (s.aggregates u.chan.g).gathered u = b) :
    let a := s.aggregates u.chan.g
    exec (.trackedUpdateAtHistory u) s = .next (after s (.trackedUpdateAtHistory u) (s.setAggregates u.chan.g b)
      (if (b.rhMin, b.rhMax, b.tMin, b.tMax) = (a.rhMin, a.rhMax, a.tMin, a.tMax) then []
      else [.aggregateChangeNotice (b.change u.chan.g)])) := by
  intro a
  have taken : a.take u = b := (a.take_eq_gathered u).trans gathered
  have delivered : exec (.trackedUpdateAtHistory u) s = execTrackedUpdateAtHistory u s := rfl
  have sealed := seal_sendAll_take (s := s) (r := s.setAggregates u.chan.g b) rfl (.trackedUpdateAtHistory u)
  rw [delivered, execTrackedUpdateAtHistory, deliver_ready ready]
  simp only [State.aggregates_take, a, taken, Aggregates.change_eq_iff, ← sealed]
  split
  · rw [State.sendAll, List.append_nil]
    rfl
  · rfl

/-- Settles O43: the aggregates that the model gathers are the rules' for each kind of channel, since a minimum, a maximum and
an incomplete mark each move as the rules say. -/
theorem aggregatesGathered : Obligations.AggregatesGathered := by
  intro u s ready i g a sampled spoils low high b
  have lowered (m : Option Nat) : movedBy lowerTo u m = low m := by
    simp only [movedBy, low, sampled, decide_eq_true_eq]
    cases u.code <;> cases m <;> rfl
  have raised (m : Option Nat) : movedBy raiseTo u m = high m := by
    simp only [movedBy, high, sampled, decide_eq_true_eq]
    cases u.code <;> cases m <;> rfl
  have spoilt : spoilsHour u = spoils := by
    simp only [spoilsHour, measures, spoils, Bool.not_and]
    cases u.code <;> rfl
  have gathered : a.gathered u = b := by
    cases chan : u.chan.k <;> simp only [Aggregates.gathered, b, chan, lowered, raised, spoilt]
  exact exec_trackedUpdateAtHistory ready gathered

end Sys2Proof.Machine
end

section
/-! SUPPORT. The ownership of state: what each action of a block leaves of the part when the records the block owns are blanked
out. -/

namespace Sys2Proof.Machine

open Sys2Proof

/-! ## A state with one block's records blanked out -/

/-- An envelope changed notice on its way to the climate unit: the one notice whose contents an invariant speaks of. -/
def isBandNews : Instr → Bool
  | .envelopeChangedAtClimate _ => true
  | _ => false

/-- The envelope changed notices among those in flight to the climate unit. -/
def bandNews (l : List Instr) : List Instr := l.filter isBandNews

/-- The state with everything that block `b` owns set to a fixed value, and with it the check code and what is in flight; of
the notices in flight those to the climate unit that carry an envelope stay, unless the block is the one that sends them. Two
states that are equal so differ in what `b` owns alone. -/
def State.blank (b : Block) (s : State) : State :=
  match b with
  | .timeBase => { s with ret := { s.ret with clock := .cold }, inFlight := bandNews s.inFlight, checkCode := 0 }
  | .acquisition =>
    { s with
      ret := { s.ret with cfg := Retained.cold.cfg, checkFault := Retained.cold.checkFault }, acq := State.reset.acq,
      trackers := State.reset.trackers, inFlight := bandNews s.inFlight, checkCode := 0 }
  | .filter => { s with trackers := State.reset.trackers, inFlight := bandNews s.inFlight, checkCode := 0 }
  | .envelope =>
    { s with ret := { s.ret with env := Retained.cold.env }, env := State.reset.env, inFlight := [], checkCode := 0 }
  | .light =>
    { s with
      ret := { s.ret with accounts := Retained.cold.accounts }, light := State.reset.light,
      inFlight := bandNews s.inFlight, checkCode := 0 }
  | .climate => { s with climate := State.reset.climate, inFlight := bandNews s.inFlight, checkCode := 0 }
  | .history =>
    { s with
      ret := { s.ret with history := .cold }, agg := State.reset.agg, inFlight := bandNews s.inFlight, checkCode := 0 }
  | .log =>
    { s with
      ret := { s.ret with log := Retained.cold.log }, log := State.reset.log, inFlight := bandNews s.inFlight,
      checkCode := 0 }
  | .darkening =>
    { s with
      ret := { s.ret with sources := Retained.cold.sources, triggers := Retained.cold.triggers }, dark := State.reset.dark,
      shade := State.reset.shade, inFlight := bandNews s.inFlight, checkCode := 0 }
  | .sequencer =>
    { s with
      ret := { s.ret with setup := Retained.cold.setup }, seq := .start, inFlight := bandNews s.inFlight, checkCode := 0 }
  | .port p =>
    { s with
      ret := { s.ret with timeouts := s.ret.timeouts.set p 2, log := { s.ret.log with overflow := false } },
      log := { s.log with sinceSelection := false }, ports := s.ports.set p .start,
      inFlight := bandNews s.inFlight, checkCode := 0 }

theorem PerPort.set_set {α : Type} (t : PerPort α) (p : Port) (a b : α) : (t.set p a).set p b = t.set p b := by
  cases p <;> rfl

/-- A table that agrees with another but for one entry is the other with that entry written. -/
theorem PerPort.eq_set_get {α : Type} {t u : PerPort α} {p : Port} {a : α} (h : t.set p a = u.set p a) :
    u = t.set p (u.get p) := by
  refine PerPort.ext_get fun i => ?_
  have at_i := congrArg (fun x => x.get i) h
  simp only [PerPort.get_set] at at_i ⊢
  split
  · subst i
    rfl
  · simpa [*] using at_i.symm

/-- The state with everything that block `b` owns, the check code and everything in flight blanked out. -/
def State.rest (b : Block) (s : State) : State := { s.blank b with inFlight := [] }

theorem rest_eq_of_blank {b : Block} {s t : State} (h : t.blank b = s.blank b) : t.rest b = s.rest b :=
  congrArg (fun u : State => { u with inFlight := [] }) h

@[simp] theorem State.rest_take (b : Block) (s : State) (c : Instr) : (s.take c).rest b = s.rest b := by cases b <;> rfl

@[simp] theorem State.rest_seal (b : Block) (s : State) : s.seal.rest b = s.rest b := by cases b <;> rfl

/-- States that are equal with a block's records blanked out differ in what it owns alone. -/
theorem owned_of_rest {b : Block} {s t : State} (h : t.rest b = s.rest b) : Owned b s t := by
  obtain ⟨_, _, ⟨⟩, _, _, _, _, _, _, _, _, ⟨⟩, _, _, _, _, _, _, _, _, _, _⟩ := s
  obtain ⟨_, _, ⟨⟩, _, _, _, _, _, _, _, _, ⟨⟩, _, _, _, _, _, _, _, _, _, _⟩ := t
  cases b
  case port p =>
    simp only [State.rest, State.blank, State.mk.injEq, Retained.mk.injEq, LogRec.mk.injEq, LogRetained.mk.injEq] at h
    obtain ⟨rfl, rfl, ⟨rfl, rfl, rfl, rfl, rfl, rfl, ⟨hpool, hid, -⟩, rfl, rfl, rfl, ht⟩, rfl, -, rfl, rfl, rfl, rfl, rfl,
      rfl, ⟨rfl, -⟩, rfl, rfl, hp, rfl, rfl, rfl, rfl, -, rfl, rfl⟩ := h
    have timeouts := PerPort.eq_set_get ht.symm
    have ports := PerPort.eq_set_get hp.symm
    simp only [Owned, State.port, ← timeouts, ← ports, ← hpool, ← hid]
  all_goals
    simp only [State.rest, State.blank, State.mk.injEq, Retained.mk.injEq, LogRec.mk.injEq] at h
    simp only [Owned, h]

/-! ## What every action keeps outside its block -/

theorem isBandNews_eq_false {c : Instr} (h : ∀ e, c ≠ .envelopeChangedAtClimate e) : isBandNews c = false := by
  unfold isBandNews
  split
  · exact absurd rfl (h _)
  · rfl

@[simp] theorem State.blank_send (b : Block) (s : State) (c : Instr) (h : ∀ e, c ≠ .envelopeChangedAtClimate e) :
    (s.send c).blank b = s.blank b := by
  cases b <;> simp [State.blank, bandNews, isBandNews_eq_false h]

/-- A command other than an envelope changed notice to the climate unit is taken without one being lost. -/
@[simp] theorem State.blank_take (b : Block) (s : State) (c : Instr) (h : ∀ e, c ≠ .envelopeChangedAtClimate e) :
    (s.take c).blank b = s.blank b := by
  have kept : bandNews (s.inFlight.erase c) = bandNews s.inFlight := by
    rw [bandNews, ← List.erase_filter, List.erase_of_not_mem]
    · rfl
    · simp [isBandNews_eq_false h]
  cases b <;> simp [State.blank, kept]

@[simp] theorem State.blank_send_envelope (s : State) (c : Instr) : (s.send c).blank .envelope = s.blank .envelope := rfl

@[simp] theorem State.blank_attend (b : Block) (s : State) (c : Cause) (g : Option Gallery) :
    (s.attend c g).blank b = s.blank b := by
  unfold State.attend
  split <;> simp

@[simp] theorem State.blank_sendStateChange (b : Block) (s : State) (n : StateChange) :
    (s.sendStateChange n).blank b = s.blank b := by
  simp [State.sendStateChange]

@[simp] theorem State.blank_sendTracked (b : Block) (s : State) (u : TrackedUpdate) :
    (s.sendTracked u).blank b = s.blank b := by
  unfold State.sendTracked
  split <;> simp

@[simp] theorem State.blank_sendDarkState (b : Block) (s : State) (g : Gallery) (v : Bool) :
    (s.sendDarkState g v).blank b = s.blank b := by
  simp [State.sendDarkState]

@[simp] theorem State.blank_sendHourMark (b : Block) (s : State) (m : HourMark) :
    (s.sendHourMark m).blank b = s.blank b := by
  unfold State.sendHourMark
  dsimp only
  split <;> simp

/-- What an action on a gallery leaves of the rest of the part, the six leave. -/
theorem State.blank_forGalleries {b : Block} {f : Gallery → State → State} (h : ∀ g s, (f g s).blank b = s.blank b)
    (s : State) : (forGalleries f s).blank b = s.blank b := forGalleries_same (State.blank b) h s

theorem State.blank_forMask {b : Block} {f : Gallery → State → State × Bool}
    (h : ∀ g s, (f g s).1.blank b = s.blank b) (s : State) : (forMask f s).1.blank b = s.blank b :=
  forMask_same (State.blank b) h s

theorem State.blank_judgeAll {b : Block} {apply : Gallery → State → State}
    (h : ∀ g s, (apply g s).blank b = s.blank b) (s : State) (judge : Gallery → Option (Result × Nat)) (r : Result)
    (data : Nat) : (judgeAll s judge apply r data).1.blank b = s.blank b := by
  rcases judgeAll_cases s judge apply r data with ⟨g, res, d, -, eq⟩ | ⟨-, eq⟩
  · rw [eq]
  · rw [eq]
    exact State.blank_forGalleries h s

@[simp] theorem refuse_fst (s : State) (r : Result) : (refuse s r).1 = s := rfl

/-! ### Acquisition unit and tracking filter bank -/

@[simp] theorem State.blank_setCfg (s : State) (c : Chan) (v : ChanCfg) :
    (s.setCfg c v).blank .acquisition = s.blank .acquisition := rfl

@[simp] theorem State.blank_setCheckFault (s : State) (c : Chan) (v : Bool) :
    (s.setCheckFault c v).blank .acquisition = s.blank .acquisition := rfl

@[simp] theorem State.blank_setChan (s : State) (c : Chan) (v : ChanRec) :
    (s.setChan c v).blank .acquisition = s.blank .acquisition := rfl

@[simp] theorem State.blank_setCal (s : State) (v : Option CalContext) :
    (s.setCal v).blank .acquisition = s.blank .acquisition := rfl

@[simp] theorem State.blank_setFaulted (s : State) (g : Gallery) (n : Nat) :
    (s.setFaulted g n).blank .acquisition = s.blank .acquisition := rfl

@[simp] theorem State.blank_setTracker (s : State) (c : Chan) (v : Tracker) :
    (s.setTracker c v).blank .filter = s.blank .filter := rfl

@[simp] theorem State.blank_recountFaulted (s : State) (g : Gallery) :
    (s.recountFaulted g).blank .acquisition = s.blank .acquisition := by
  unfold State.recountFaulted
  dsimp only
  split_ifs <;> simp

@[simp] theorem State.blank_enterState (s : State) (c : Chan) (r : ChanRec) (recovery uninit : Bool) :
    (s.enterState c r recovery uninit).blank .acquisition = s.blank .acquisition := by
  simp [State.enterState]

@[simp] theorem State.blank_endCal (s : State) (c : Chan) (res : CalResult) (new : Option Int) :
    (s.endCal c res new).blank .acquisition = s.blank .acquisition := by
  simp [State.endCal]

@[simp] theorem State.blank_abortCal (s : State) (hit : Chan → Bool) :
    (s.abortCal hit).blank .acquisition = s.blank .acquisition := by
  unfold State.abortCal
  split
  · split <;> simp
  · rfl

@[simp] theorem State.blank_applyCal (s : State) (c : Chan) (cfg : ChanCfg) (v : Int) (unclamped : Bool) :
    (s.applyCal c cfg v unclamped).blank .acquisition = s.blank .acquisition := by
  simp [State.applyCal]

@[simp] theorem State.blank_completeSpan (s : State) (x : CalContext) :
    (s.completeSpan x).blank .acquisition = s.blank .acquisition := by
  unfold State.completeSpan
  dsimp only
  split <;> simp

@[simp] theorem State.blank_completeZero (s : State) (x : CalContext) :
    (s.completeZero x).blank .acquisition = s.blank .acquisition := by
  simp [State.completeZero]

@[simp] theorem State.blank_calSample (s : State) (c : Chan) (r : Nat) :
    (s.calSample c r).blank .acquisition = s.blank .acquisition := by
  unfold State.calSample
  dsimp only
  (repeat' split) <;> simp

@[simp] theorem State.blank_passOn (s : State) (c : Chan) (r : Nat) :
    (s.passOn c r).blank .acquisition = s.blank .acquisition := by
  simp [State.passOn]

@[simp] theorem State.blank_chanSample (s : State) (c : Chan) (r : Nat) :
    (s.chanSample c r).blank .acquisition = s.blank .acquisition := by
  unfold State.chanSample
  dsimp only
  (repeat' split) <;> simp

@[simp] theorem State.blank_arrive (s : State) (c : Chan) (r : Nat) :
    (s.arrive c r).blank .acquisition = s.blank .acquisition := by
  unfold State.arrive
  split <;> simp

@[simp] theorem State.blank_disableChan (s : State) (c : Chan) :
    (s.disableChan c).blank .acquisition = s.blank .acquisition := by
  unfold State.disableChan
  dsimp only
  split <;> simp

@[simp] theorem State.blank_enableChan (s : State) (c : Chan) :
    (s.enableChan c).blank .acquisition = s.blank .acquisition := by
  unfold State.enableChan
  split <;> simp

@[simp] theorem State.blank_setLimits (s : State) (c : Chan) (fast slow : Nat) :
    (s.setLimits c fast slow).blank .acquisition = s.blank .acquisition := rfl

/-! ### Time base and envelope table -/

@[simp] theorem State.blank_setClock (s : State) (v : Clock) : (s.setClock v).blank .timeBase = s.blank .timeBase := rfl

@[simp] theorem State.blank_issueHourMark (s : State) (m : HourMark) :
    (s.issueHourMark m).blank .timeBase = s.blank .timeBase := by
  simp [State.issueHourMark]

@[simp] theorem State.blank_writeTime (s : State) (m : Nat) : (s.writeTime m).blank .timeBase = s.blank .timeBase := by
  unfold State.writeTime
  dsimp only
  split <;> simp

@[simp] theorem State.blank_sendSecondMarks (b : Block) (s : State) : s.sendSecondMarks.blank b = s.blank b := by
  simp [State.sendSecondMarks]

@[simp] theorem State.blank_advance (s : State) : s.advance.blank .timeBase = s.blank .timeBase := by
  unfold State.advance
  dsimp only
  (repeat' split) <;> simp

@[simp] theorem State.blank_setEnvRet (s : State) (g : Gallery) (v : EnvRetained) :
    (s.setEnvRet g v).blank .envelope = s.blank .envelope := rfl

@[simp] theorem State.blank_setEnvStaged (s : State) (g : Gallery) (v : EnvStaged) :
    (s.setEnvStaged g v).blank .envelope = s.blank .envelope := rfl

@[simp] theorem State.blank_writeStaged (s : State) (f : EnvField) (v : Nat) (g : Gallery) :
    (s.writeStaged f v g).blank .envelope = s.blank .envelope := rfl

@[simp] theorem State.blank_discardStaged (s : State) (g : Gallery) :
    (s.discardStaged g).blank .envelope = s.blank .envelope := rfl

@[simp] theorem State.blank_setCommit (s : State) (g : Gallery) :
    (s.setCommit g).blank .envelope = s.blank .envelope := rfl

@[simp] theorem State.blank_setLoan (s : State) (g : Gallery) (on : Bool) :
    (s.setLoan g on).blank .envelope = s.blank .envelope := rfl

@[simp] theorem State.blank_applyCommit (s : State) (g : Gallery) :
    (s.applyCommit g).blank .envelope = s.blank .envelope := by
  unfold State.applyCommit
  dsimp only
  split <;> simp [State.sendEnvelopeChange]

/-! ### Light account unit -/

@[simp] theorem State.blank_setAccount (s : State) (g : Gallery) (v : Account) :
    (s.setAccount g v).blank .light = s.blank .light := rfl

@[simp] theorem State.blank_setLight (s : State) (g : Gallery) (v : LightRec) :
    (s.setLight g v).blank .light = s.blank .light := rfl

@[simp] theorem State.blank_reevalExhausted (s : State) (g : Gallery) :
    (s.reevalExhausted g).blank .light = s.blank .light := by
  unfold State.reevalExhausted
  dsimp only
  (repeat' split) <;> simp

@[simp] theorem State.blank_judgeDoseShort (s : State) (g : Gallery) (q : Option Nat) :
    (s.judgeDoseShort g q).blank .light = s.blank .light := by
  unfold State.judgeDoseShort
  dsimp only
  (repeat' split) <;> simp

@[simp] theorem State.blank_recompute (s : State) (g : Gallery) : (s.recompute g).blank .light = s.blank .light := by
  unfold State.recompute
  dsimp only
  split <;> simp

@[simp] theorem State.blank_judgeOver (s : State) (g : Gallery) (l : Nat) :
    (s.judgeOver g l).blank .light = s.blank .light := by
  unfold State.judgeOver
  dsimp only
  split_ifs <;> simp

@[simp] theorem State.blank_rebase (s : State) (g : Gallery) : (s.rebase g).blank .light = s.blank .light := by
  unfold State.rebase
  dsimp only
  split <;> simp

@[simp] theorem State.blank_reevalAndRecompute (s : State) (g : Gallery) :
    (s.reevalAndRecompute g).blank .light = s.blank .light := by
  unfold State.reevalAndRecompute
  dsimp only
  split <;> simp

@[simp] theorem State.blank_lightSecond (g : Gallery) (s : State) : (s.lightSecond g).blank .light = s.blank .light := by
  simp [State.lightSecond]

@[simp] theorem State.blank_foldHour (s : State) (g : Gallery) (st : HourStamp) (changed gap : Bool) :
    (s.foldHour g st changed gap).blank .light = s.blank .light := by
  unfold State.foldHour
  dsimp only
  split <;> simp

@[simp] theorem State.blank_beginPeriod (s : State) (g : Gallery) : (s.beginPeriod g).blank .light = s.blank .light := by
  simp [State.beginPeriod]

@[simp] theorem State.blank_dayStep (g : Gallery) (s : State) : (s.dayStep g).blank .light = s.blank .light := by
  unfold State.dayStep
  dsimp only
  (repeat' split) <;> simp

@[simp] theorem State.blank_renewHour (s : State) (g : Gallery) (st : HourStamp) (dark changed : Bool) :
    (s.renewHour g st dark changed).blank .light = s.blank .light := rfl

@[simp] theorem State.blank_lightHour (m : HourMark) (g : Gallery) (s : State) :
    (s.lightHour m g).blank .light = s.blank .light := by
  unfold State.lightHour
  dsimp only
  split_ifs <;> simp

@[simp] theorem State.blank_judgeUv (s : State) (g : Gallery) : (s.judgeUv g).blank .light = s.blank .light := by
  unfold State.judgeUv
  dsimp only
  (repeat' split) <;> simp

@[simp] theorem State.blank_keepL (s : State) (g : Gallery) (st : ChanState) :
    (s.keepL g st).blank .light = s.blank .light := by
  unfold State.keepL
  dsimp only
  split <;> simp

@[simp] theorem State.blank_renewSchedule (s : State) (g : Gallery) :
    (s.renewSchedule g).blank .light = s.blank .light := by
  unfold State.renewSchedule
  dsimp only
  split <;> simp

@[simp] theorem State.blank_declareLevel (v : Nat) (g : Gallery) (s : State) :
    (s.declareLevel v g).1.blank .light = s.blank .light := rfl

@[simp] theorem State.blank_withdrawLevel (g : Gallery) (s : State) :
    (s.withdrawLevel g).blank .light = s.blank .light := rfl

/-! ### Climate unit -/

@[simp] theorem State.blank_setClimate (s : State) (g : Gallery) (v : ClimateRec) :
    (s.setClimate g v).blank .climate = s.blank .climate := rfl

@[simp] theorem State.blank_judge (s : State) (g : Gallery) (t : ClimateType) (opens closes : Bool) (limit value : Nat) :
    (s.judge g t opens closes limit value).blank .climate = s.blank .climate := by
  unfold State.judge
  dsimp only
  split_ifs <;> simp

@[simp] theorem State.blank_judgePair (s : State) (g : Gallery) (hiT loT : ClimateType) (hi lo top du x : Nat) :
    (s.judgePair g hiT loT hi lo top du x).blank .climate = s.blank .climate := by
  simp [State.judgePair]

@[simp] theorem State.blank_judgeRh (s : State) (g : Gallery) : (s.judgeRh g).blank .climate = s.blank .climate := by
  unfold State.judgeRh
  dsimp only
  (repeat' split) <;> simp

@[simp] theorem State.blank_judgeT (s : State) (g : Gallery) : (s.judgeT g).blank .climate = s.blank .climate := by
  unfold State.judgeT
  dsimp only
  (repeat' split) <;> simp

@[simp] theorem State.blank_judgeSpan (s : State) (g : Gallery) (t : ClimateType) (span : Option Nat) (swing du : Nat) :
    (s.judgeSpan g t span swing du).blank .climate = s.blank .climate := by
  unfold State.judgeSpan
  split <;> simp

@[simp] theorem State.blank_judgeSwing (s : State) (g : Gallery) :
    (s.judgeSwing g).blank .climate = s.blank .climate := by
  simp [State.judgeSwing]

@[simp] theorem State.blank_closeFlag (s : State) (g : Gallery) (t : ClimateType) :
    (s.closeFlag g t).blank .climate = s.blank .climate := by
  unfold State.closeFlag
  dsimp only
  split <;> simp

@[simp] theorem State.blank_setSpans (s : State) (g : Gallery) : (s.setSpans g).blank .climate = s.blank .climate := rfl

@[simp] theorem State.blank_computeBands (s : State) (g : Gallery) :
    (s.computeBands g).blank .climate = s.blank .climate := by
  simp [State.computeBands]

@[simp] theorem State.blank_computeAndTell (s : State) (g : Gallery) :
    (s.computeAndTell g).blank .climate = s.blank .climate := by
  unfold State.computeAndTell
  dsimp only
  split <;> simp

@[simp] theorem State.blank_keepH (s : State) (g : Gallery) (st : ChanState) :
    (s.keepH g st).blank .climate = s.blank .climate := by
  unfold State.keepH
  dsimp only
  split <;> simp

@[simp] theorem State.blank_keepT (s : State) (g : Gallery) (st : ChanState) :
    (s.keepT g st).blank .climate = s.blank .climate := by
  unfold State.keepT
  dsimp only
  split <;> simp

@[simp] theorem State.blank_keepHCode (s : State) (u : TrackedUpdate) :
    (s.keepHCode u).blank .climate = s.blank .climate := rfl

@[simp] theorem State.blank_keepTCode (s : State) (u : TrackedUpdate) :
    (s.keepTCode u).blank .climate = s.blank .climate := rfl

@[simp] theorem State.blank_declareSetpoint (x : Quantity) (v : Nat) (g : Gallery) (s : State) :
    (s.declareSetpoint x v g).1.blank .climate = s.blank .climate := rfl

@[simp] theorem State.blank_withdrawSetpoint (x : Quantity) (g : Gallery) (s : State) :
    (s.withdrawSetpoint x g).blank .climate = s.blank .climate := rfl

/-! ### History store and excursion log -/

@[simp] theorem State.blank_setHistory (s : State) (v : History) : (s.setHistory v).blank .history = s.blank .history := rfl

@[simp] theorem State.blank_setRing (s : State) (g : Gallery) (v : Ring) :
    (s.setRing g v).blank .history = s.blank .history := rfl

@[simp] theorem State.blank_setAggregates (s : State) (g : Gallery) (v : Aggregates) :
    (s.setAggregates g v).blank .history = s.blank .history := rfl

@[simp] theorem State.blank_appendRecord (s : State) (g : Gallery) (x : HourRecord) :
    (s.appendRecord g x).blank .history = s.blank .history := by
  unfold State.appendRecord
  dsimp only
  split <;> simp

@[simp] theorem State.blank_advanceRing (n : Nat) (g : Gallery) (s : State) :
    (s.advanceRing n g).1.blank .history = s.blank .history := rfl

@[simp] theorem State.blank_propose (s : State) (ls : PerGallery Nat) (r : Result) :
    (s.propose ls r).1.blank .history = s.blank .history := by
  unfold State.propose
  split <;> rfl

@[simp] theorem State.blank_setLogRet (s : State) (v : LogRetained) : (s.setLogRet v).blank .log = s.blank .log := rfl

@[simp] theorem State.blank_setActiveType (s : State) (g : Gallery) (t : ExcType) (v : Bool) :
    (s.setActiveType g t v).blank .log = s.blank .log := rfl

@[simp] theorem State.blank_setMarker (s : State) (v : Bool) : (s.setMarker v).blank .log = s.blank .log := rfl

@[simp] theorem State.blank_overflow (s : State) : s.overflow.blank .log = s.blank .log := by
  simp [State.overflow]

@[simp] theorem State.blank_createEntry (s : State) (g : Gallery) (t : ExcType) (limit value : Nat) :
    (s.createEntry g t limit value).blank .log = s.blank .log := by
  simp [State.createEntry]

@[simp] theorem State.blank_openExc (s : State) (g : Gallery) (t : ExcType) (limit value : Nat) :
    (s.openExc g t limit value).blank .log = s.blank .log := by
  unfold State.openExc
  dsimp only
  split_ifs <;> simp

@[simp] theorem State.blank_valueExc (s : State) (g : Gallery) (t : ExcType) (v : Nat) :
    (s.valueExc g t v).blank .log = s.blank .log := rfl

@[simp] theorem State.blank_closeExc (s : State) (g : Gallery) (t : ExcType) (at_ : SecondStamp) (tell : Bool) :
    (s.closeExc g t at_ tell).blank .log = s.blank .log := by
  unfold State.closeExc
  dsimp only
  split <;> simp

@[simp] theorem State.blank_ackAll (s : State) (p : Gallery → Bool) : (s.ackAll p).1.blank .log = s.blank .log := rfl

/-! ### Darkening controller -/

@[simp] theorem State.blank_setDark (s : State) (g : Gallery) (v : DarkRec) :
    (s.setDark g v).blank .darkening = s.blank .darkening := rfl

@[simp] theorem State.blank_setSources (s : State) (g : Gallery) (v : SourceSet) :
    (s.setSources g v).blank .darkening = s.blank .darkening := rfl

@[simp] theorem State.blank_setShade (s : State) (g : Gallery) (v : Bool) :
    (s.setShade g v).blank .darkening = s.blank .darkening := rfl

@[simp] theorem State.blank_setTriggerCfg (s : State) (x : Trigger) (v : TriggerCfg) :
    (s.setTriggerCfg x v).blank .darkening = s.blank .darkening := rfl

@[simp] theorem State.blank_enterDark (s : State) (g : Gallery) (o : DarkOutcome) :
    (s.enterDark g o).blank .darkening = s.blank .darkening := by
  simp [State.enterDark]

@[simp] theorem State.blank_enterDarkening (s : State) (g : Gallery) (n : Nat) :
    (s.enterDarkening g n).blank .darkening = s.blank .darkening := by
  unfold State.enterDarkening
  dsimp only
  split <;> simp

@[simp] theorem State.blank_leaveIdle (s : State) (g : Gallery) (i : Source) (n : Nat) :
    (s.leaveIdle g i n).blank .darkening = s.blank .darkening := by
  unfold State.leaveIdle
  dsimp only
  split <;> simp

@[simp] theorem State.blank_join (s : State) (g : Gallery) (i : Source) (immediate : Bool) :
    (s.join g i immediate).blank .darkening = s.blank .darkening := by
  unfold State.join
  dsimp only
  split <;> simp

@[simp] theorem State.blank_returnToIdle (s : State) (g : Gallery) (cause : EndCause) :
    (s.returnToIdle g cause).blank .darkening = s.blank .darkening := by
  unfold State.returnToIdle
  dsimp only
  split <;> simp

@[simp] theorem State.blank_release (s : State) (g : Gallery) (x : SourceSet) (cause : EndCause) :
    (s.release g x cause).blank .darkening = s.blank .darkening := by
  unfold State.release
  dsimp only
  split <;> simp

@[simp] theorem State.blank_leave (s : State) (g : Gallery) (i : Source) (cause : EndCause) :
    (s.leave g i cause).blank .darkening = s.blank .darkening := by
  unfold State.leave
  split <;> simp

@[simp] theorem State.blank_courseSecond (s : State) (g : Gallery) :
    (s.courseSecond g).blank .darkening = s.blank .darkening := by
  unfold State.courseSecond State.armedSecond State.darkeningSecond
  dsimp only
  (repeat' split) <;> simp

@[simp] theorem State.blank_stepHardLux (s : State) (g : Gallery) :
    (s.stepHardLux g).blank .darkening = s.blank .darkening := by
  unfold State.stepHardLux
  dsimp only
  split <;> simp

@[simp] theorem State.blank_judgeLuxHard (s : State) (g : Gallery) (reached : Bool) :
    (s.judgeLuxHard g reached).blank .darkening = s.blank .darkening := by
  unfold State.judgeLuxHard
  dsimp only
  (repeat' split) <;> simp

@[simp] theorem State.blank_darkSecond (g : Gallery) (s : State) :
    (s.darkSecond g).blank .darkening = s.blank .darkening := by
  simp [State.darkSecond]

@[simp] theorem State.blank_lightDarken (g : Gallery) (s : State) :
    (s.lightDarken g).1.blank .darkening = s.blank .darkening := by
  unfold State.lightDarken
  split <;> simp

@[simp] theorem State.blank_lightRelease (g : Gallery) (s : State) :
    (s.lightRelease g).1.blank .darkening = s.blank .darkening := by
  unfold State.lightRelease
  split <;> simp

@[simp] theorem State.blank_consDarken (immediate : Bool) (g : Gallery) (s : State) :
    (s.consDarken immediate g).1.blank .darkening = s.blank .darkening := by
  unfold State.consDarken State.endDelay
  dsimp only
  split_ifs <;> simp

@[simp] theorem State.blank_consRelease (g : Gallery) (s : State) :
    (s.consRelease g).1.blank .darkening = s.blank .darkening := by
  unfold State.consRelease
  dsimp only
  split <;> simp

@[simp] theorem State.blank_darkRequest {act : Gallery → State → State × Bool}
    (h : ∀ g s, (act g s).1.blank .darkening = s.blank .darkening) (q : Req) (s : State) (unchanged : Result)
    (keepData : Bool) : (darkRequest q s act unchanged keepData).1.blank .darkening = s.blank .darkening := by
  unfold darkRequest
  dsimp only
  (repeat' split) <;> simp [h, State.blank_forMask h]

@[simp] theorem State.blank_silenceJoins (g : Gallery) (s : State) :
    (s.silenceJoins g).blank .darkening = s.blank .darkening := by
  unfold State.silenceJoins
  split <;> simp

@[simp] theorem State.blank_rise (s : State) (x : Trigger) : (s.rise x).blank .darkening = s.blank .darkening := by
  unfold State.rise
  dsimp only
  split
  · rfl
  · refine State.blank_forGalleries (fun g s => ?_) s
    split <;> simp

@[simp] theorem State.blank_fall (s : State) (x : Trigger) : (s.fall x).blank .darkening = s.blank .darkening := by
  unfold State.fall
  split
  · exact State.blank_forGalleries (fun g s => s.blank_leave g _ _) s
  · rfl

/-! ### Self-check sequencer -/

@[simp] theorem State.blank_setSeq (s : State) (v : Sequencer) : (s.setSeq v).blank .sequencer = s.blank .sequencer := rfl

@[simp] theorem State.blank_setCheckResult (s : State) (g : Gallery) (v : CheckResult) :
    (s.setCheckResult g v).blank .sequencer = s.blank .sequencer := rfl

@[simp] theorem State.blank_setSetup (s : State) (v : CheckSetup) :
    (s.setSetup v).blank .sequencer = s.blank .sequencer := rfl

@[simp] theorem State.blank_setChanVerdict (s : State) (g : Gallery) (k : Kind) (v : Verdict) :
    (s.setChanVerdict g k v).blank .sequencer = s.blank .sequencer := rfl

@[simp] theorem State.blank_setStepVerdict (s : State) (g : Gallery) (k : Kind) (x : CheckStep) (v : Verdict) :
    (s.setStepVerdict g k x v).blank .sequencer = s.blank .sequencer := rfl

@[simp] theorem State.blank_setSummary (s : State) (g : Gallery) (v : Summary) :
    (s.setSummary g v).blank .sequencer = s.blank .sequencer := rfl

@[simp] theorem State.blank_setRun (s : State) (r : Option CheckRun) :
    (s.setRun r).blank .sequencer = s.blank .sequencer := rfl

@[simp] theorem State.blank_setQueue (s : State) (l : List Gallery) :
    (s.setQueue l).blank .sequencer = s.blank .sequencer := rfl

@[simp] theorem State.blank_setCondition (s : State) (c : Option (Chan × CheckStep)) :
    (s.setCondition c).blank .sequencer = s.blank .sequencer := rfl

@[simp] theorem State.blank_beginStep (s : State) (g : Gallery) (k : Kind) (x : CheckStep) :
    (s.beginStep g k x).blank .sequencer = s.blank .sequencer := rfl

@[simp] theorem State.blank_endChannel (s : State) (g : Gallery) (k : Kind) :
    (s.endChannel g k).blank .sequencer = s.blank .sequencer := by
  simp [State.endChannel]

@[simp] theorem State.blank_steps (s : State) (g : Gallery) (k : Kind) (l : List CheckStep) :
    (s.steps g k l).1.blank .sequencer = s.blank .sequencer := by
  unfold State.steps
  split <;> simp

@[simp] theorem State.blank_turn (s : State) (g : Gallery) (k : Kind) :
    (s.turn g k).1.blank .sequencer = s.blank .sequencer := by
  unfold State.turn
  split <;> simp

@[simp] theorem State.blank_turns (s : State) (g : Gallery) (l : List Kind) :
    (s.turns g l).1.blank .sequencer = s.blank .sequencer := by
  induction l generalizing s with
  | nil => rfl
  | cons k l ih =>
    unfold State.turns
    split <;> simp [ih]

@[simp] theorem State.blank_completeGallery (s : State) (g : Gallery) :
    (s.completeGallery g).blank .sequencer = s.blank .sequencer := by
  simp [State.completeGallery]

@[simp] theorem State.blank_turnsOrComplete (s : State) (g : Gallery) (l : List Kind) :
    (s.turnsOrComplete g l).1.blank .sequencer = s.blank .sequencer := by
  unfold State.turnsOrComplete
  dsimp only
  split <;> simp

@[simp] theorem State.blank_startGallery (s : State) (g : Gallery) :
    (s.startGallery g).1.blank .sequencer = s.blank .sequencer := by
  unfold State.startGallery
  split <;> simp

@[simp] theorem State.blank_runQueue (s : State) (l : List Gallery) :
    (s.runQueue l).blank .sequencer = s.blank .sequencer := by
  induction l generalizing s with
  | nil => rfl
  | cons g l ih =>
    unfold State.runQueue
    split <;> simp [ih]

@[simp] theorem State.blank_takeHead (s : State) : s.takeHead.blank .sequencer = s.blank .sequencer := by
  unfold State.takeHead
  split <;> simp

@[simp] theorem State.blank_enqueue (g : Gallery) (s : State) :
    (s.enqueue g).1.blank .sequencer = s.blank .sequencer := by
  unfold State.enqueue
  split <;> simp

@[simp] theorem State.blank_nextChannel (s : State) (g : Gallery) (k : Kind) :
    (s.nextChannel g k).blank .sequencer = s.blank .sequencer := by
  unfold State.nextChannel State.goOn
  split <;> simp

@[simp] theorem State.blank_judgeStep (s : State) (run : CheckRun) (v : Verdict) :
    (s.judgeStep run v).blank .sequencer = s.blank .sequencer := by
  unfold State.judgeStep
  dsimp only
  split_ifs <;> simp

@[simp] theorem State.blank_takeReading (s : State) (run : CheckRun) (r : Reading) :
    (s.takeReading run r).blank .sequencer = s.blank .sequencer := by
  unfold State.takeReading
  dsimp only
  (repeat' split) <;> simp

@[simp] theorem State.blank_abortRun (s : State) (run : CheckRun) (sm : Summary) :
    (s.abortRun run sm).blank .sequencer = s.blank .sequencer := by
  simp [State.abortRun]

@[simp] theorem State.blank_cancelQueued (g : Gallery) (s : State) :
    (s.cancelQueued g).1.blank .sequencer = s.blank .sequencer := by
  unfold State.cancelQueued
  split <;> simp

@[simp] theorem State.blank_cancelRunning (s : State) (p : Gallery → Bool) :
    (s.cancelRunning p).1.blank .sequencer = s.blank .sequencer := by
  unfold State.cancelRunning
  (repeat' split) <;> simp

/-! ### Port controllers -/

@[simp] theorem State.blank_setPort (s : State) (p : Port) (v : PortRec) :
    (s.setPort p v).blank (.port p) = s.blank (.port p) := by
  simp [State.blank, PerPort.set_set]

@[simp] theorem State.blank_setTimeout (s : State) (p : Port) (n : Nat) :
    (s.setTimeout p n).blank (.port p) = s.blank (.port p) := by
  simp [State.blank, PerPort.set_set]

@[simp] theorem State.blank_setMarker_port (s : State) (p : Port) (v : Bool) :
    (s.setMarker v).blank (.port p) = s.blank (.port p) := rfl

@[simp] theorem State.blank_clearOverflow (s : State) (p : Port) (v : Bool) :
    (s.setLogRet { s.ret.log with overflow := v }).blank (.port p) = s.blank (.port p) := rfl

@[simp] theorem State.blank_setReply (s : State) (p : Port) (r : Reply) :
    (s.setReply p r).blank (.port p) = s.blank (.port p) := by
  simp [State.setReply]

@[simp] theorem State.blank_answer (s : State) (q : Req) (code : Nat) (r : Result) (data : Nat) :
    (s.answer q code r data).blank (.port q.port) = s.blank (.port q.port) := by
  simp [State.answer]

@[simp] theorem State.blank_takeNop (q : Req) (s : State) :
    (s.takeNop q).blank (.port q.port) = s.blank (.port q.port) := by
  simp [State.takeNop]

@[simp] theorem State.blank_setSelection (s : State) (p : Port) (x : Option Snapshot) :
    (s.setSelection p x).blank (.port p) = s.blank (.port p) := by
  simp [State.setSelection]

@[simp] theorem State.blank_takeSelect (q : Req) (s : State) :
    (s.takeSelect q).blank (.port q.port) = s.blank (.port q.port) := by
  unfold State.takeSelect
  dsimp only
  (repeat' split) <;> simp

@[simp] theorem State.blank_takeFetch (q : Req) (s : State) :
    (s.takeFetch q).blank (.port q.port) = s.blank (.port q.port) := by
  unfold State.takeFetch
  dsimp only
  (repeat' split) <;> simp

@[simp] theorem State.blank_takeNext (q : Req) (s : State) :
    (s.takeNext q).blank (.port q.port) = s.blank (.port q.port) := by
  unfold State.takeNext
  dsimp only
  split <;> simp

@[simp] theorem State.blank_takeSet (q : Req) (s : State) :
    (s.takeSet q).blank (.port q.port) = s.blank (.port q.port) := by
  unfold State.takeSet
  (repeat' split) <;> simp

@[simp] theorem State.blank_takeMode (q : Req) (s : State) :
    (s.takeMode q).blank (.port q.port) = s.blank (.port q.port) := by
  unfold State.takeMode
  split <;> simp

@[simp] theorem State.blank_tellOthers (b : Block) (s : State) (p : Port) : (s.tellOthers p).blank b = s.blank b := by
  unfold State.tellOthers
  (repeat' split) <;> simp

@[simp] theorem State.blank_sendPresence (b : Block) (s : State) (p : Port) (v : Presence) :
    (s.sendPresence p v).blank b = s.blank b := by
  unfold State.sendPresence
  split <;> simp

@[simp] theorem State.blank_setPresence (s : State) (p : Port) (v : Presence) (n : Nat) :
    (s.setPresence p v n).blank (.port p) = s.blank (.port p) := by
  unfold State.setPresence
  dsimp only
  split <;> simp

@[simp] theorem State.blank_portSecond (p : Port) (s : State) :
    (s.portSecond p).blank (.port p) = s.blank (.port p) := by
  unfold State.portSecond
  dsimp only
  split <;> simp


/-- The command that carries a request to its owner is no notice. -/
theorem ownerCmd_ne_bandNews {n : Nat} {q : Req} {c : Instr} (h : ownerCmd n q = some c) (e : EnvelopeChange) :
    c ≠ .envelopeChangedAtClimate e := by
  rintro rfl
  unfold ownerCmd writeChannelCmd at h
  split at h <;> (repeat' split at h) <;> simp_all

@[simp] theorem State.blank_forward (s : State) (n : Nat) (q : Req) :
    (s.forward n q).blank (.port q.port) = s.blank (.port q.port) := by
  unfold State.forward
  dsimp only
  cases h : ownerCmd n q with
  | none => simp
  | some c => simp [ownerCmd_ne_bandNews h]

@[simp] theorem State.blank_takeRequest (s : State) (n : Nat) (q : Req) :
    (s.takeRequest n q).blank (.port q.port) = s.blank (.port q.port) := by
  unfold State.takeRequest
  split <;> simp

@[simp] theorem State.blank_judgeRequest (s : State) (n : Nat) (q : Req) :
    (s.judgeRequest n q).blank (.port q.port) = s.blank (.port q.port) := by
  unfold State.judgeRequest
  split
  · simp
  · split <;> simp

@[simp] theorem State.blank_judgeFrame (s : State) (p : Port) (bits : List Bool) :
    (s.judgeFrame p bits).blank (.port p) = s.blank (.port p) := by
  unfold State.judgeFrame
  split
  · simp
  · exact (State.blank_judgeRequest _ _ (frameReq p bits)).trans (State.blank_setPresence s p _ _)

/-! ### Starts -/

/-- The block whose records the start notice of a block writes: its own, and for the tracking filter bank the acquisition
unit's, whose configuration records hold the filter fields (R36). -/
def startOwner (b : Block) : Block := if b = .filter then .acquisition else b

@[simp] theorem State.blank_startUpdate (b : Block) (s : State) (c : Chan) : (s.startUpdate c).blank b = s.blank b := by
  simp [State.startUpdate]

@[simp] theorem State.blank_startFilter (s : State) (i : StartInfo) :
    (s.startFilter i).blank .acquisition = s.blank .acquisition := by
  have updates (g : Gallery) (u : State) :
      (kinds.foldl (fun s k => s.startUpdate ⟨g, k⟩) u).blank .acquisition = u.blank .acquisition := by
    simp [kinds]
  unfold State.startFilter
  rw [State.blank_forGalleries updates]
  cases i.kind <;> rfl

@[simp] theorem State.blank_catchUp (s : State) (g : Gallery) (i : StartInfo) :
    (s.catchUp g i).blank .light = s.blank .light := by
  have days (n : Nat) (u : State) : (u.daySteps g n).blank .light = u.blank .light := by
    induction n generalizing u with
    | zero => rfl
    | succ n ih => simp [State.daySteps, ih]
  unfold State.catchUp
  dsimp only
  rw [days]
  split <;> simp

@[simp] theorem State.blank_warmLight (i : StartInfo) (g : Gallery) (s : State) :
    (s.warmLight i g).blank .light = s.blank .light := by
  simp [State.warmLight]

@[simp] theorem State.blank_coldLight (g : Gallery) (s : State) : (s.coldLight g).blank .light = s.blank .light := by
  simp [State.coldLight]

@[simp] theorem State.blank_reevalFault (i : StartInfo) (g : Gallery) (s : State) :
    (s.reevalFault i g).blank .log = s.blank .log := by
  unfold State.reevalFault
  split <;> simp

@[simp] theorem State.blank_warmDark (i : StartInfo) (g : Gallery) (s : State) :
    (s.warmDark i g).blank .darkening = s.blank .darkening := by
  unfold State.warmDark
  dsimp only
  split <;> simp

@[simp] theorem State.blank_coldDark (g : Gallery) (s : State) :
    (s.coldDark g).blank .darkening = s.blank .darkening := by
  simp [State.coldDark]

@[simp] theorem State.blank_startAcquisition (s : State) (i : StartInfo) :
    (s.startAcquisition i).blank .acquisition = s.blank .acquisition := by
  unfold State.startAcquisition
  cases i.kind <;> rfl

@[simp] theorem State.blank_startEnvelope (s : State) (i : StartInfo) :
    (s.startEnvelope i).blank .envelope = s.blank .envelope := by
  unfold State.startEnvelope
  cases i.kind <;> rfl

@[simp] theorem State.blank_startLight (s : State) (i : StartInfo) : (s.startLight i).blank .light = s.blank .light := by
  unfold State.startLight
  cases i.kind
  · exact State.blank_forGalleries State.blank_coldLight s
  · exact State.blank_forGalleries (State.blank_warmLight i) s

@[simp] theorem State.blank_startClimate (s : State) (i : StartInfo) :
    (s.startClimate i).blank .climate = s.blank .climate :=
  State.blank_forGalleries (fun g u => State.blank_computeBands (u.setClimate g (u.startClimateRec i g)) g) s

@[simp] theorem State.blank_startHistory (s : State) (i : StartInfo) :
    (s.startHistory i).blank .history = s.blank .history := by
  unfold State.startHistory
  cases i.kind
  · rfl
  · dsimp only
    split <;> rfl

@[simp] theorem State.blank_startLog (s : State) (i : StartInfo) : (s.startLog i).blank .log = s.blank .log := by
  unfold State.startLog
  cases i.kind
  · rfl
  · exact State.blank_forGalleries (State.blank_reevalFault i) _

@[simp] theorem State.blank_startDarkening (s : State) (i : StartInfo) :
    (s.startDarkening i).blank .darkening = s.blank .darkening := by
  unfold State.startDarkening
  cases i.kind
  · exact State.blank_forGalleries State.blank_coldDark _
  · exact State.blank_forGalleries (State.blank_warmDark i) s

@[simp] theorem State.blank_startSequencer (s : State) (i : StartInfo) :
    (s.startSequencer i).blank .sequencer = s.blank .sequencer := by
  unfold State.startSequencer
  cases i.kind <;> rfl

@[simp] theorem State.blank_startPort (s : State) (p : Port) (i : StartInfo) :
    (s.startPort p i).blank (.port p) = s.blank (.port p) := by
  unfold State.startPort
  cases i.kind <;> simp

/-- A block that takes its start notice keeps what it does not own. -/
theorem State.blank_startBlock (s : State) (b : Block) (i : StartInfo) :
    (s.startBlock b i).blank (startOwner b) = s.blank (startOwner b) := by
  cases b <;> simp [startOwner, State.startBlock]

end Sys2Proof.Machine
end

section
/-! SUPPORT. Every command of a block as a delivery to it that keeps the rest (O3, O4, O5), everything a command can do, said
once, and the step (O1, O2). -/

namespace Sys2Proof.Machine

open Sys2Proof

/-! ## Every command of a block -/

/-- The answer to command `c` is the delivery of its event to block `b` with an action that keeps what `b` does not own; a
command that names one outcome of another command's event may change nothing instead. -/
def DeliversOwn (c : Instr) (b : Block) (s : State) (a : Answer) : Prop :=
  (∃ act, (∀ u : State, (act u).blank b = u.blank b) ∧ a = deliver b (eventOf c) s act) ∨ (eventOf c ≠ c ∧ a = .next s)

theorem deliversOwn_deliver {c d : Instr} {b : Block} {s : State} {act : State → State}
    (h : ∀ u : State, (act u).blank b = u.blank b) (hd : eventOf c = d := by rfl) : DeliversOwn c b s (deliver b d s act) :=
  .inl ⟨act, h, by rw [hd]⟩

theorem deliversOwn_request {c : Instr} {b : Block} {s : State} {n : Nat} {p : Port → Bool} {q : Req}
    {act : State → Taken} (h : ∀ u, (act u).1.blank b = u.blank b) (hc : eventOf c = c := by rfl) :
    DeliversOwn c b s (request b c n p q s act) := by
  refine deliversOwn_deliver (fun u => ?_) hc
  split <;> simp [h]

theorem deliversOwn_onlyWhen {c : Instr} {b : Block} {s : State} {a : Answer} (p : Bool)
    (h : DeliversOwn c b s a) (hc : eventOf c ≠ c := by simp [eventOf]) : DeliversOwn c b s (onlyWhen p s a) := by
  cases p
  · exact .inr ⟨hc, rfl⟩
  · exact h

theorem deliversOwn_arrival {i : Instr} {c : Chan} {r : Half} {s : State} (hi : eventOf i = .sampleArrival c r := by rfl) :
    DeliversOwn i .acquisition s (arrival c r s) :=
  deliversOwn_deliver (fun u => u.blank_arrive c r.toNat) hi

theorem deliversOwn_writeChannel {i : Instr} {q : Req} {s : State} {code data : Nat} {r : Result}
    {judge : State → Chan → Option Result} {apply : Chan → State → State}
    (h : ∀ c u, (apply c u).blank .acquisition = u.blank .acquisition) (hi : eventOf i = i := by rfl) :
    DeliversOwn i .acquisition s (writeChannel i code q s judge apply r data) := by
  refine deliversOwn_request (fun u => ?_) hi
  split
  · rfl
  · split <;> simp [h]
  · exact State.blank_judgeAll (fun g => h _) u _ _ _

theorem deliversOwn_calibrate {i : Instr} {op : CalOp} {q : Req} {s : State} (hi : eventOf i = i := by rfl) :
    DeliversOwn i .acquisition s (calibrate i op q s) := by
  refine deliversOwn_request (fun u => ?_) hi
  dsimp only
  split
  · split_ifs <;> simp
  · rfl

theorem deliversOwn_lightMark {i : Instr} {t : SecondStamp} {s : State} (hi : eventOf i = .secondMarkAtLight t := by rfl) :
    DeliversOwn i .light s (lightMark t s) :=
  deliversOwn_deliver (fun u => State.blank_forGalleries State.blank_lightSecond u) hi

theorem deliversOwn_darkMark {i : Instr} {t : SecondStamp} {s : State} (hi : eventOf i = .secondMarkAtDarkening t := by rfl) :
    DeliversOwn i .darkening s (darkMark t s) :=
  deliversOwn_deliver (fun u => State.blank_forGalleries State.blank_darkSecond u) hi

theorem deliversOwn_seqMark {i : Instr} {t : SecondStamp} {s : State} (hi : eventOf i = .secondMarkAtSequencer t := by rfl) :
    DeliversOwn i .sequencer s (seqMark t s) :=
  deliversOwn_deliver (fun _ => rfl) hi

theorem deliversOwn_portMark {i : Instr} {p : Port} {t : SecondStamp} {s : State}
    (hi : eventOf i = .secondMarkAtPort p t := by rfl) : DeliversOwn i (.port p) s (portMark p t s) :=
  deliversOwn_deliver (fun u => State.blank_portSecond p u) hi

/-- Every command that is addressed to a block is the delivery of its event to it, or changes nothing, and keeps what the
block does not own. -/
theorem exec_deliversOwn {c : Instr} {b : Block} (s : State) (h : blockOf c = some b) : DeliversOwn c b s (exec c s) := by
  cases c <;> cases h <;> unfold exec
  case sampleArrival => exact deliversOwn_arrival
  case railFault => exact deliversOwn_onlyWhen _ (deliversOwn_arrival)
  case railRecovery => exact deliversOwn_onlyWhen _ (deliversOwn_arrival)
  case spanCompletion => exact deliversOwn_onlyWhen _ (deliversOwn_arrival)
  case zeroCompletion => exact deliversOwn_onlyWhen _ (deliversOwn_arrival)
  case galleryStartNotice =>
    unfold execGalleryStartNotice
    exact deliversOwn_deliver fun u => u.blank_abortCal _
  case channelEnterNotice =>
    unfold execChannelEnterNotice
    refine deliversOwn_deliver fun u => ?_
    dsimp only
    split <;> simp
  case verdictNotice =>
    unfold execVerdictNotice
    refine deliversOwn_deliver fun u => ?_
    dsimp only
    (repeat' split) <;> simp
  case channelAbortNotice =>
    unfold execChannelAbortNotice
    refine deliversOwn_deliver fun u => ?_
    dsimp only
    split <;> simp
  case correctedSampleNotice =>
    unfold execCorrectedSampleNotice
    exact deliversOwn_deliver fun u => by simp
  case stateChangeAtFilter =>
    unfold execStateChangeAtFilter
    exact deliversOwn_deliver fun u => by simp
  case stateChangeAtLight =>
    unfold execStateChangeAtLight
    refine deliversOwn_deliver fun u => ?_
    split <;> simp
  case stateChangeAtClimate =>
    unfold execStateChangeAtClimate
    refine deliversOwn_deliver fun u => ?_
    split <;> simp
  case trackedUpdateAtHistory =>
    unfold execTrackedUpdateAtHistory
    refine deliversOwn_deliver fun u => ?_
    dsimp only
    split <;> simp
  case trackedUpdateAtLight =>
    unfold execTrackedUpdateAtLight
    refine deliversOwn_deliver fun u => ?_
    dsimp only
    split <;> simp
  case trackedUpdateAtClimate =>
    unfold execTrackedUpdateAtClimate
    refine deliversOwn_deliver fun u => ?_
    split <;> simp
  case trackedUpdateAtDarkening =>
    unfold execTrackedUpdateAtDarkening
    refine deliversOwn_deliver fun u => ?_
    split <;> simp
  case secondMarkAtLight => exact deliversOwn_lightMark
  case overCounterExpiry => exact deliversOwn_onlyWhen _ (deliversOwn_lightMark)
  case secondMarkAtDarkening => exact deliversOwn_darkMark
  case delayExpiry => exact deliversOwn_onlyWhen _ (deliversOwn_darkMark)
  case timeToDarkExpiry => exact deliversOwn_onlyWhen _ (deliversOwn_darkMark)
  case heldMinute => exact deliversOwn_onlyWhen _ (deliversOwn_darkMark)
  case hardLuxCountExpiry => exact deliversOwn_onlyWhen _ (deliversOwn_darkMark)
  case secondMarkAtPort => exact deliversOwn_portMark
  case silenceTimeout => exact deliversOwn_onlyWhen _ (deliversOwn_portMark)
  case secondMarkAtSequencer => exact deliversOwn_seqMark
  case dwellExpiry => exact deliversOwn_onlyWhen _ (deliversOwn_seqMark)
  case hourMarkAtEnvelope =>
    unfold execHourMarkAtEnvelope
    exact deliversOwn_deliver fun u => State.blank_forGalleries (fun g v => v.blank_applyCommit g) u
  case hourMarkAtLight m =>
    unfold execHourMarkAtLight
    exact deliversOwn_deliver fun u => State.blank_forGalleries (State.blank_lightHour m) u
  case dayMarkAtHistory =>
    unfold execDayMarkAtHistory
    refine deliversOwn_deliver fun u => ?_
    split <;> simp
  case hourCloseNotice =>
    unfold execHourCloseNotice
    exact deliversOwn_deliver fun u => by simp
  case recordWrittenNotice =>
    unfold execRecordWrittenNotice
    exact deliversOwn_deliver fun u => by simp
  case aggregateChangeNotice =>
    unfold execAggregateChangeNotice
    exact deliversOwn_deliver fun u => by simp
  case envelopeChangedAtLight =>
    unfold execEnvelopeChangedAtLight
    exact deliversOwn_deliver fun u => by simp
  case envelopeChangedAtClimate =>
    unfold execEnvelopeChangedAtClimate
    exact deliversOwn_deliver fun u => by simp
  case envelopeChangedAtDarkening =>
    unfold execEnvelopeChangedAtDarkening
    exact deliversOwn_deliver fun u => by simp
  case exhaustionChangeNotice =>
    unfold execExhaustionChangeNotice
    refine deliversOwn_deliver fun u => ?_
    split_ifs <;> simp
  case darkeningStateAtLight =>
    unfold execDarkeningStateAtLight
    refine deliversOwn_deliver fun u => ?_
    dsimp only
    split_ifs <;> simp
  case darkeningStateAtSequencer =>
    unfold execDarkeningStateAtSequencer
    refine deliversOwn_deliver fun u => ?_
    dsimp only
    (repeat' split) <;> simp
  case presenceNoticeAtClimate =>
    unfold execPresenceNoticeAtClimate
    refine deliversOwn_deliver fun u => ?_
    split
    · exact State.blank_forGalleries (fun g v => v.blank_setClimate g _) u
    · rfl
  case presenceNoticeAtDarkening =>
    unfold execPresenceNoticeAtDarkening
    refine deliversOwn_deliver fun u => ?_
    split
    · exact State.blank_forGalleries State.blank_silenceJoins u
    · exact State.blank_forGalleries (fun g v => v.blank_leave g _ _) u
    · rfl
  case openNotice =>
    unfold execOpenNotice
    refine deliversOwn_deliver fun u => ?_
    split <;> simp
  case valueNotice =>
    unfold execValueNotice
    refine deliversOwn_deliver fun u => ?_
    split <;> simp
  case closeNotice =>
    unfold execCloseNotice
    refine deliversOwn_deliver fun u => ?_
    split <;> simp
  case attentionNotice =>
    unfold execAttentionNotice
    exact deliversOwn_deliver fun u => by simp
  case replyNotice =>
    unfold execReplyNotice
    exact deliversOwn_deliver fun u => by simp
  case nop q =>
    unfold execNop
    exact deliversOwn_deliver (State.blank_takeNop q)
  case select q =>
    unfold execSelect
    exact deliversOwn_deliver (State.blank_takeSelect q)
  case fetch q =>
    unfold execFetch
    exact deliversOwn_deliver (State.blank_takeFetch q)
  case nextAttention q =>
    unfold execNextAttention
    exact deliversOwn_deliver (State.blank_takeNext q)
  case setAttention q =>
    unfold execSetAttention
    exact deliversOwn_deliver (State.blank_takeSet q)
  case attentionMode q =>
    unfold execAttentionMode
    exact deliversOwn_deliver (State.blank_takeMode q)
  case queryAllowance =>
    unfold execQueryAllowance
    refine deliversOwn_request fun u => ?_
    dsimp only
    (repeat' split) <;> rfl
  case declareLevel =>
    unfold execDeclareLevel
    refine deliversOwn_request fun u => ?_
    dsimp only
    split
    · rfl
    · split <;> simp
    · split
      · exact State.blank_forGalleries State.blank_withdrawLevel u
      · exact State.blank_forMask (State.blank_declareLevel _) u
  case lightingDarken =>
    unfold execLightingDarken
    exact deliversOwn_request fun u => State.blank_darkRequest State.blank_lightDarken _ u _ _
  case lightingRelease =>
    unfold execLightingRelease
    exact deliversOwn_request fun u => State.blank_darkRequest State.blank_lightRelease _ u _ _
  case conservationDarken =>
    unfold execConservationDarken
    refine deliversOwn_request fun u => ?_
    split
    · rfl
    · exact State.blank_darkRequest (State.blank_consDarken _) _ u _ _
  case conservationRelease =>
    unfold execConservationRelease
    refine deliversOwn_request fun u => ?_
    dsimp only
    split
    · rfl
    · simp
    · exact State.blank_forMask State.blank_consRelease u
  case queryBand =>
    unfold execQueryBand
    refine deliversOwn_request fun u => ?_
    dsimp only
    (repeat' split) <;> rfl
  case declareSetpoint =>
    unfold execDeclareSetpoint
    refine deliversOwn_request fun u => ?_
    dsimp only
    split
    · rfl
    split
    · rfl
    · split <;> simp
    · split
      · exact State.blank_forGalleries (State.blank_withdrawSetpoint _) u
      · exact State.blank_forMask (State.blank_declareSetpoint _ _) u
  case writeStaged =>
    unfold execWriteStaged
    refine deliversOwn_request fun u => ?_
    dsimp only
    split
    · rfl
    split
    · rfl
    · split <;> simp
    · exact State.blank_judgeAll (fun g v => v.blank_writeStaged _ _ g) u _ _ _
  case commit =>
    unfold execCommit
    refine deliversOwn_request fun u => ?_
    split
    · rfl
    · split <;> simp
    · exact State.blank_judgeAll (fun g v => v.blank_setCommit g) u _ _ _
  case discard =>
    unfold execDiscard
    refine deliversOwn_request fun u => ?_
    split
    · rfl
    · simp
    · exact State.blank_forGalleries (fun g v => v.blank_discardStaged g) u
  case loanLock =>
    unfold execLoanLock
    refine deliversOwn_request fun u => ?_
    dsimp only
    split
    · rfl
    · (repeat' split) <;> simp
    · exact State.blank_judgeAll (fun g v => v.blank_setLoan g _) u _ _ _
  case startPeriod =>
    unfold execStartPeriod
    refine deliversOwn_request fun u => ?_
    have mark (g : Gallery) (v : State) : (if (v.lightRec g).startPending then (v, false)
        else (v.setLight g { v.lightRec g with startPending := true }, true)).1.blank .light = v.blank .light := by
      split <;> simp
    dsimp only
    split
    · rfl
    · exact mark _ _
    · exact State.blank_forMask mark u
  case setDate =>
    unfold execSetDate
    refine deliversOwn_request fun u => ?_
    split_ifs <;> simp
  case setTime =>
    unfold execSetTime
    refine deliversOwn_request fun u => ?_
    split_ifs <;> simp
  case unsetClock =>
    unfold execUnsetClock
    exact deliversOwn_request fun u => by simp
  case writeChannelEnable =>
    unfold execWriteChannelEnable
    refine deliversOwn_writeChannel fun c u => ?_
    split <;> simp
  case writeChannelGain =>
    unfold execWriteChannelGain
    exact deliversOwn_writeChannel fun c u => by simp
  case writeChannelOffset =>
    unfold execWriteChannelOffset
    exact deliversOwn_writeChannel fun c u => by simp
  case writeChannelCorrectionLimit =>
    unfold execWriteChannelCorrectionLimit
    exact deliversOwn_writeChannel fun c u => by simp
  case writeChannelDeviationUnit =>
    unfold execWriteChannelDeviationUnit
    exact deliversOwn_writeChannel fun c u => by simp
  case writeChannelFilterMode =>
    unfold execWriteChannelFilterMode
    exact deliversOwn_writeChannel fun c u => by simp
  case writeChannelFastLimit =>
    unfold execWriteChannelFastLimit
    exact deliversOwn_writeChannel fun c u => by simp
  case writeChannelSlowLimit =>
    unfold execWriteChannelSlowLimit
    exact deliversOwn_writeChannel fun c u => by simp
  case writeChannelHold =>
    unfold execWriteChannelHold
    exact deliversOwn_writeChannel fun c u => by simp
  case calibrateZero => exact deliversOwn_calibrate
  case calibrateSpan => exact deliversOwn_calibrate
  case check =>
    unfold execCheck
    refine deliversOwn_request fun u => ?_
    dsimp only
    split
    · rfl
    · split <;> simp
    · split <;> simp [State.blank_forMask State.blank_enqueue]
  case stepReading =>
    unfold execStepReading
    refine deliversOwn_deliver fun u => ?_
    (repeat' split) <;> simp
  case cancelCheck =>
    unfold execCancelCheck
    refine deliversOwn_request fun u => ?_
    dsimp only
    split
    · rfl
    · split_ifs <;> simp
    · split <;> simp [State.blank_forMask State.blank_cancelQueued]
  case checkSetup =>
    unfold execCheckSetup
    refine deliversOwn_request fun u => ?_
    split_ifs <;> simp
  case partitionSet =>
    unfold execPartitionSet
    refine deliversOwn_request fun u => ?_
    dsimp only
    split <;> simp
  case partitionWithdraw =>
    unfold execPartitionWithdraw
    exact deliversOwn_request fun u => by simp
  case advanceMark =>
    unfold execAdvanceMark
    refine deliversOwn_request fun u => ?_
    dsimp only
    split
    · rfl
    · simp
    · exact State.blank_forMask (State.blank_advanceRing _) u
  case ackExcursionOne =>
    unfold execAckExcursionOne
    refine deliversOwn_request fun u => ?_
    dsimp only
    (repeat' split) <;> simp
  case ackExcursionAllClosed =>
    unfold execAckExcursionAllClosed
    refine deliversOwn_request fun u => ?_
    split <;> simp
  case triggerSetup =>
    unfold execTriggerSetup
    refine deliversOwn_request fun u => ?_
    (repeat' split) <;> simp
  case silenceSetup q =>
    unfold execSilenceSetup
    refine deliversOwn_request fun u => ?_
    cases portOf q.sub.toNat with
    | none => rfl
    | some p =>
      dsimp only [Option.getD_some]
      split <;> simp


/-- Everything a command of block `b` can do: nothing; its event waits for the start notice of `b`; or `b` takes it and
leaves what it does not own as it was. -/
theorem exec_cases {c : Instr} {b : Block} {s t : State} (hb : blockOf c = some b) (h : exec c s = .next t) :
    t = s ∨ (s.phase = .running ∧ b ∈ s.awaiting ∧ t = s.wait (eventOf c)) ∨
      (Ready s b ∧ ∃ u : State, u.blank b = (s.take (eventOf c)).blank b ∧ t = u.seal) := by
  rcases exec_deliversOwn s hb with ⟨act, keeps, eq⟩ | ⟨-, eq⟩
  · rw [eq] at h
    rcases deliver_cases h with ⟨-, same⟩ | waits | ⟨ready, taken⟩
    · exact .inl same
    · exact .inr (.inl waits)
    · exact .inr (.inr ⟨ready, _, keeps _, taken⟩)
  · rw [eq] at h
    cases h
    exact .inl rfl

theorem owned_of_same {b : Block} (s : State) : Owned b s s := owned_of_rest rfl

/-- Settles O4: a delivered command keeps the state but for the records of its block, and one that waits moves itself alone. -/
theorem onlyTheOwnerChanges : Obligations.OnlyTheOwnerChanges := by
  intro c b s t hb h
  rcases exec_cases hb h with rfl | ⟨-, awaits, rfl⟩ | ⟨-, u, same, rfl⟩
  · exact ⟨owned_of_same t, fun _ => rfl⟩
  · refine ⟨owned_of_rest ?_, fun ready => absurd awaits ready⟩
    cases b <;> rfl
  · have kept : u.rest b = s.rest b := (rest_eq_of_blank same).trans (by simp)
    have waiting : u.waiting = s.waiting := by
      have := congrArg State.waiting kept
      cases b <;> exact this
    refine ⟨?_, fun _ => waiting⟩
    have still : ({ s with waiting := u.seal.waiting } : State) = s := by
      change ({ s with waiting := u.waiting } : State) = s
      rw [waiting]
    rw [still]
    exact owned_of_rest (by simp [kept])

/-! ## Commands that no block owns -/

/-- The block that a request from outside the ports is addressed to takes it as a request of its code, from one port. -/
theorem exec_request {c : Instr} {q : Req} {n : Nat} {p : Port} {b : Block} (s : State) (h : askedBy c = some (q, n, p))
    (hb : blockOf c = some b) : ∃ (permitted : Port → Bool) (act : State → Taken),
      (∀ i, i ≠ p → permitted i = false) ∧ exec c s = request b c n permitted q s act := by
  have others {p i : Port} (h : i ≠ p) : (i == p) = false := by simpa using h
  cases c <;> cases h <;> cases hb <;> dsimp only [exec, writeChannel, calibrate, execQueryAllowance, execDeclareLevel,
    execLightingDarken, execConservationDarken, execLightingRelease, execConservationRelease, execQueryBand,
    execDeclareSetpoint, execWriteStaged, execCommit, execDiscard, execLoanLock, execStartPeriod, execSetDate, execSetTime,
    execUnsetClock, execWriteChannelEnable, execWriteChannelGain, execWriteChannelOffset, execWriteChannelCorrectionLimit,
    execWriteChannelDeviationUnit, execWriteChannelFilterMode, execWriteChannelFastLimit, execWriteChannelSlowLimit,
    execWriteChannelHold, execCalibrateZero, execCalibrateSpan, execCheck, execCancelCheck, execCheckSetup,
    execPartitionSet, execPartitionWithdraw, execAdvanceMark, execAckExcursionOne, execAckExcursionAllClosed,
    execTriggerSetup, execSilenceSetup] <;> exact ⟨_, _, fun i => others, rfl⟩

/-- A refusal with NOT_PERMITTED, as the claims write it. -/
theorem request_turnedAway {b : Block} {s : State} (ready : Ready s b) (c : Instr) (n : Nat) {permitted : Port → Bool}
    {q : Req} (hq : permitted q.port = false) (act : State → Taken) :
    request b c n permitted q s act = .next (after s c s (reply q n .notPermitted 0)) :=
  request_notPermitted ready c n hq act

/-- Settles O5: what a delivery does to a part that does not run, to a block that has not started and to the wrong master. -/
theorem commandsTurnedAway : Obligations.CommandsTurnedAway := by
  refine fun c s => ⟨fun held addressed => ?_, fun b hb running awaits => ?_, fun q n p b asked hb ready other => ?_⟩
  · rcases addressed with block | ⟨b, i, rfl⟩
    · obtain ⟨b, hb⟩ := Option.isSome_iff_exists.1 block
      rcases exec_deliversOwn s hb with ⟨act, -, eq⟩ | ⟨-, eq⟩
      · rw [eq, deliver_held held]
      · exact eq
    · exact if_neg held
  · rcases exec_deliversOwn s hb with ⟨act, -, eq⟩ | outcome
    · exact .inl (by rw [eq, deliver_awaiting running awaits]; rfl)
    · exact .inr outcome
  · obtain ⟨permitted, act, alone, eq⟩ := exec_request s asked hb
    rw [eq, request_turnedAway ready c n (alone _ other)]

/-! ## Every command -/

/-- Everything a command can do to the part. -/
inductive Effect (c : Instr) (s : State) : State → Prop
  /-- It changes nothing. -/
  | same : Effect c s s
  /-- It waits for the start notice of its block. -/
  | waits {b : Block} : blockOf c = some b → s.phase = .running → b ∈ s.awaiting → Effect c s (s.wait (eventOf c))
  /-- Its block takes it and leaves what it does not own. -/
  | taken {b : Block} {u : State} : blockOf c = some b → Ready s b → u.blank b = (s.take (eventOf c)).blank b →
      Effect c s u.seal
  /-- The clock advances. -/
  | ticks : Effect c s s.advance.seal
  /-- A frame begins or is discarded. -/
  | framed (p : Port) (w : PortLines) : Effect c s (s.setLines p w)
  /-- A frame ends and is judged. -/
  | judged (p : Port) (w : PortLines) (bits : List Bool) : s.startComplete = true →
      Effect c s ((s.setLines p w).judgeFrame p bits).seal
  /-- A trigger input moves while the darkening controller does not take it. -/
  | level (x : Trigger) (v : Bool) : Effect c s (s.setTriggerLevel x v)
  /-- A trigger input rises. -/
  | rises (x : Trigger) : Ready s .darkening → Effect c s ((s.setTriggerLevel x true).rise x).seal
  /-- A trigger input falls. -/
  | falls (x : Trigger) : Ready s .darkening → Effect c s ((s.setTriggerLevel x false).fall x).seal
  /-- A warm start begins. -/
  | warms (last : LastStart) : s.phase ≠ .running → Effect c s (s.beginStart .warm last)
  /-- A cold start begins. -/
  | colds : s.phase = .unpowered → Effect c s (State.beginStart { s with ret := .cold, latch := false } .cold .cold)
  /-- The main supply is lost. -/
  | unpowers : Effect c s { s.lose with phase := .unpowered, shade := .all false }
  /-- The supply of the retained domain is lost. -/
  | latches : Effect c s { s with latch := true }
  /-- The part is held in reset. -/
  | holds : Effect c s { s.lose with phase := .heldReset, shade := .ofFn fun g => !(s.sources g).isEmpty }
  /-- A block takes its start notice. -/
  | starts (b : Block) (i : StartInfo) : s.phase = .running →
      Effect c s ((((s.take (.startNotice b i)).starting b).startBlock b i).started b).seal

theorem takesTriggers_iff (s : State) : s.takesTriggers = true ↔ Ready s .darkening := by
  simp [State.takesTriggers, Ready]

/-- Every command answers a next state. -/
theorem exec_next (c : Instr) (s : State) : ∃ t, exec c s = .next t := by
  rcases hb : blockOf c with _ | b
  · cases c <;> cases hb <;> unfold exec
    case none.hourMark.refl => rcases onlyWhen_cases (endsHour s) s (tick s) with eq | eq <;> exact ⟨_, eq⟩
    all_goals
      simp only [execClockAdvance, tick, execFrameEnd, execTriggerRise, execTriggerFall, execPowerUp, execMainSupplyLoss,
        execSupplyLossLatch, execResetnAssert, execResetnRelease, execStartNotice, execFrameBegin]
      (repeat' split) <;> exact ⟨_, rfl⟩
  · rcases exec_deliversOwn s hb with ⟨act, -, eq⟩ | ⟨-, eq⟩
    · rw [eq]
      exact deliver_next _ _ _ _
    · exact ⟨s, eq⟩

/-- What a command did is one of its effects. -/
theorem exec_effect {c : Instr} {s t : State} (h : exec c s = .next t) : Effect c s t := by
  have ticked {t : State} (h : tick s = .next t) : Effect c s t := by
    cases h
    split
    · exact .ticks
    · exact .same
  rcases hb : blockOf c with _ | b
  · cases c <;> cases hb <;> dsimp only [exec] at h
    case none.clockAdvance.refl => exact ticked h
    case none.hourMark.refl =>
      rcases onlyWhen_cases (endsHour s) s (tick s) with eq | eq <;> rw [execHourMark, eq] at h
      · exact ticked h
      · cases h
        exact .same
    case none.frameEnd.refl =>
      unfold execFrameEnd at h
      dsimp only at h
      split at h
      · cases h
        exact .same
      · split at h <;> cases h
        · exact .framed _ _
        · exact .judged _ _ _ (by simp_all)
    case none.triggerRise.refl =>
      unfold execTriggerRise at h
      split at h
      · cases h
        exact .same
      · split at h <;> cases h
        · exact .rises _ ((takesTriggers_iff s).1 ‹_›)
        · exact .level _ _
    case none.triggerFall.refl =>
      unfold execTriggerFall at h
      split at h
      · split at h <;> cases h
        · exact .falls _ ((takesTriggers_iff s).1 ‹_›)
        · exact .level _ _
      · cases h
        exact .same
    case none.powerUp.refl =>
      unfold execPowerUp at h
      split_ifs at h with off valid <;> cases h
      · exact .warms _ (by simp [off])
      · exact .colds off
      · exact .same
    case none.mainSupplyLoss.refl =>
      unfold execMainSupplyLoss at h
      split at h <;> cases h
      · exact .same
      · exact .unpowers
    case none.supplyLossLatch.refl =>
      unfold execSupplyLossLatch at h
      split at h <;> cases h
      · exact .latches
      · exact .same
    case none.resetnAssert.refl =>
      unfold execResetnAssert at h
      split at h <;> cases h
      · exact .holds
      · exact .same
    case none.resetnRelease.refl =>
      unfold execResetnRelease at h
      split_ifs at h with reset <;> cases h
      · exact .warms _ (by simp [reset])
      · exact .same
    case none.startNotice.refl =>
      unfold execStartNotice at h
      split_ifs at h with running <;> cases h
      · exact .starts _ _ running
      · exact .same
    case none.frameBegin.refl =>
      unfold execFrameBegin at h
      split at h <;> cases h
      · exact .same
      · exact .framed _ _
  · rcases exec_cases hb h with rfl | ⟨running, awaits, rfl⟩ | ⟨ready, u, keeps, rfl⟩
    · exact .same
    · exact .waits hb running awaits
    · exact .taken hb ready keeps

/-! ## The queue and the straps -/

/-- Two states have the same queue and the same straps. -/
def SameQueue (s t : State) : Prop := t.pending = s.pending ∧ t.straps = s.straps

theorem SameQueue.of_blank {b : Block} {s t : State} (h : t.blank b = s.blank b) : SameQueue s t := by
  have pending := congrArg State.pending h
  have straps := congrArg State.straps h
  cases b <;> exact ⟨pending, straps⟩

theorem SameQueue.trans {s t u : State} (h : SameQueue s t) (k : SameQueue t u) : SameQueue s u :=
  ⟨k.1.trans h.1, k.2.trans h.2⟩

theorem SameQueue.starting (s : State) (b : Block) : SameQueue s (s.starting b) := by
  unfold State.starting
  split <;> exact ⟨rfl, rfl⟩

theorem SameQueue.started (s : State) (b : Block) : SameQueue s (s.started b) := by
  unfold State.started
  dsimp only
  split <;> exact ⟨rfl, rfl⟩

/-- No command touches the queue or the straps. -/
theorem exec_sameQueue {c : Instr} {s t : State} (h : exec c s = .next t) : SameQueue s t := by
  cases exec_effect h
  case taken _ same => exact (SameQueue.of_blank same : SameQueue (s.take _) _)
  case ticks => exact (SameQueue.of_blank s.blank_advance :)
  case judged p w bits _ => exact (SameQueue.of_blank ((s.setLines p w).blank_judgeFrame p bits) :)
  case rises x _ => exact (SameQueue.of_blank ((s.setTriggerLevel x true).blank_rise x) :)
  case falls x _ => exact (SameQueue.of_blank ((s.setTriggerLevel x false).blank_fall x) :)
  case starts b i _ =>
    exact ((SameQueue.starting (s.take _) b).trans (SameQueue.of_blank (State.blank_startBlock _ b i))).trans
      (SameQueue.started _ b)
  all_goals exact ⟨rfl, rfl⟩

/-- Settles O3: every answer is a next state, and it has the queue and the straps of the state before. -/
theorem everyCommandRuns : Obligations.EveryCommandRuns := fun c s => by
  obtain ⟨t, h⟩ := exec_next c s
  exact ⟨t, h, exec_sameQueue h⟩

/-! ## The step -/

/-- Settles O1: the front of the queue is what a step takes. -/
theorem stepTakesFront : Obligations.StepTakesFront := fun _ _ _ => rfl

theorem readyFor_iff (s : State) (c : Instr) : s.readyFor c = true ↔ ∀ b, blockOf c = some b → b ∉ s.awaiting := by
  unfold State.readyFor
  cases blockOf c <;> simp

theorem readyFor_eq_false_iff (s : State) (c : Instr) :
    s.readyFor c = false ↔ ∃ b ∈ s.awaiting, blockOf c = some b := by
  unfold State.readyFor
  cases blockOf c <;> simp

/-- Settles O2: the oldest command in flight whose block is ready is the one a step takes on an empty queue. -/
theorem idleStepTakesNotice : Obligations.IdleStepTakesNotice := by
  intro s idle
  refine ⟨fun l c m inFlight ready earlier => ?_, fun none => ?_⟩
  · have found : s.nextInFlight = some c := by
      have skipped : l.find? s.readyFor = none :=
        List.find?_eq_none.2 fun d hd => by simp [(readyFor_eq_false_iff s d).2 (earlier d hd)]
      rw [State.nextInFlight, inFlight, List.find?_append, skipped, Option.none_or,
        List.find?_cons_of_pos ((readyFor_iff s c).2 ready)]
    simp [step, idle, found]
  · have nothing : s.nextInFlight = Option.none :=
      List.find?_eq_none.2 fun d hd => by simp [(readyFor_eq_false_iff s d).2 (none d hd)]
    simp [step, idle, nothing]

/-- What every command keeps, whatever is queued, every step keeps. -/
theorem step_keeps {P : State → Prop} (queue : ∀ s l, P s → P { s with pending := l })
    (command : ∀ c s t, P s → exec c s = .next t → P t) {s t : State} (hs : P s) (h : step s = .next t) : P t := by
  unfold step at h
  split at h
  · exact command _ _ _ (queue _ _ hs) h
  · split at h
    · exact command _ _ _ hs h
    · cases h
      exact hs

end Sys2Proof.Machine
end

section
/-! SUPPORT. The state after reset: its values (O6), and that it meets every invariant (O7). -/

namespace Sys2Proof.Machine

open Sys2Proof

/-- Settles O6: the tables of State.reset hold one start value everywhere, and the rings lie 72 apart. -/
theorem resetValues : Obligations.ResetValues := by
  have chans (c : Chan) : State.reset.chan c = .start .ok ∧ State.reset.checkFault c = false ∧
      State.reset.cfg c = .default c.k ∧ (State.reset.tracker c).tracking = false := by
    simp [State.chan, State.checkFault, State.cfg, State.tracker, State.reset, Retained.cold, getChan, Tracker.start]
  have rings (g : Gallery) : State.reset.ring g = ⟨72 * galleryNum g, 72, 0, none, 0, false⟩ := by cases g <;> rfl
  refine ⟨⟨rfl, rfl, rfl, rfl⟩, rfl, chans, rfl, fun g => ?_, fun g => ?_, fun g => ?_, rings, rfl, rfl, fun g t => ?_,
    fun g => ?_, fun x => ?_, ⟨rfl, rfl, rfl⟩, fun p => ?_⟩
  · cases g <;> exact ⟨rfl, rfl, rfl, rfl⟩
  · cases g <;> exact ⟨rfl, rfl, rfl, rfl, rfl, rfl, rfl, rfl, rfl⟩
  · cases g <;> exact ⟨rfl, rfl, rfl, rfl⟩
  · cases g <;> cases t <;> rfl
  · cases g <;> exact ⟨rfl, rfl, rfl⟩
  · cases x <;> rfl
  · cases p <;> exact ⟨rfl, rfl, rfl, rfl, rfl, rfl, rfl⟩

theorem darkInv_reset : DarkInv State.reset := by
  refine ⟨fun _ g => ?_, nofun, nofun⟩
  cases g <;> exact ⟨by decide, by decide⟩

theorem logInv_reset : LogInv State.reset := by
  simp [LogInv, State.reset, Retained.cold]

theorem recordInv_reset : RecordInv State.reset := by
  have rings (g : Gallery) : State.reset.ring g = ⟨72 * galleryNum g, 72, 0, none, 0, false⟩ := by cases g <;> rfl
  refine ⟨⟨⟨fun g => ?_, by decide⟩, fun g => ?_, fun g => ?_, nofun⟩, fun g k hk => ?_⟩
  · cases g <;> decide
  · cases g <;> rfl
  · simp [RingOk, rings]
  · simp [rings] at hk

theorem envInv_reset : EnvInv State.reset := by
  intro g
  cases g <;> exact ⟨by decide, by decide, by decide, nofun⟩

theorem lightInv_reset : LightInv State.reset := by
  refine ⟨fun g => ?_, fun _ g => ?_⟩
  · cases g <;> exact ⟨by decide, by decide, by decide⟩
  · cases g <;> exact ⟨nofun, by decide, nofun⟩

theorem bandInv_reset : BandInv State.reset := by
  intro _ g
  cases g <;> exact ⟨by decide, by decide, by decide, nofun⟩

theorem tempInv_reset : TempInv State.reset := by
  refine ⟨nofun, fun _ g => ?_⟩
  cases g <;> exact ⟨by decide, by decide, by decide, by decide, nofun⟩

theorem chanInv_reset : ChanInv State.reset := by
  have chans (c : Chan) : State.reset.chan c = .start .ok := by simp [State.chan, State.reset, getChan]
  have cfgs (c : Chan) : State.reset.cfg c = .default c.k := by simp [State.cfg, State.reset, Retained.cold, getChan]
  refine ⟨fun c => ?_, fun g => ?_, nofun, fun _ c => ?_⟩
  · rw [chans]
    exact ⟨by decide, by decide, by decide, by decide, by decide⟩
  · cases g <;> decide
  · rw [chans, cfgs]
    exact ⟨⟨nofun, nofun⟩, nofun⟩

theorem seqInv_reset : SeqInv State.reset :=
  ⟨by decide, nofun, nofun, nofun, fun _ => ⟨rfl, rfl⟩, ⟨.openInput, rfl⟩, by decide⟩

theorem portOk_start (p : Port) : PortOk p .start := by
  cases p <;> exact ⟨by decide, by decide, by decide, by decide, by decide⟩

theorem portInv_reset : PortInv State.reset := fun p _ => by
  have start : State.reset.port p = .start := by simp [State.port, State.reset]
  rw [start]
  exact portOk_start p

/-- Settles O7: each invariant holds of the start values, and the code is that of the cold retained domain. -/
theorem resetIsSafe : Obligations.ResetIsSafe :=
  ⟨⟨darkInv_reset, logInv_reset, recordInv_reset, envInv_reset, lightInv_reset, bandInv_reset, tempInv_reset, chanInv_reset,
    by unfold ClockInv; decide, seqInv_reset, portInv_reset⟩, rfl⟩

end Sys2Proof.Machine
end

section
/-! SUPPORT. Actions on one gallery's share of a block's state: what they make of the share, what they send, and what the six
of them in turn come to. -/

namespace Sys2Proof.Machine
open Sys2Proof

theorem PerGallery.set_set {α : Type} (t : PerGallery α) (g : Gallery) (a b : α) : (t.set g a).set g b = t.set g b := by
  cases g <;> rfl

theorem PerGallery.set_get_self {α : Type} (t : PerGallery α) (g : Gallery) : t.set g (t.get g) = t := by cases g <;> rfl

@[simp] theorem State.sendAll_nil (s : State) : s.sendAll [] = s := by simp [State.sendAll]

/-- A command that a ready block takes, known by the records its action leaves and the notices it sends. -/
theorem deliver_sends {b : Block} {c : Instr} {s r : State} {act : State → State} {l : List Instr} (ready : Ready s b)
    (acts : act (s.take c) = (r.take c).sendAll l) (same : r.inFlight = s.inFlight := by rfl) :
    deliver b c s act = .next (after s c r l) := by
  rw [deliver_ready ready, acts, seal_sendAll_take same]

/-- A command that a ready block takes without sending anything. -/
theorem deliver_silent {b : Block} {c : Instr} {s r : State} {act : State → State} (ready : Ready s b)
    (acts : act (s.take c) = r.take c) (same : r.inFlight = s.inFlight := by rfl) :
    deliver b c s act = .next (after s c r []) :=
  deliver_sends ready (acts.trans (State.sendAll_nil _).symm) same

theorem next_deliver {b : Block} {c : Instr} {s : State} {act : State → State} {P : State → Prop} (ready : Ready s b)
    (h : P (act (s.take c)).seal) : Next (deliver b c s act) P := ⟨_, deliver_ready ready c act, h⟩

/-- A block's state as one share for each gallery with what stands around the shares and the notices in flight. -/
structure Slice (α : Type) where
  part : State → Gallery → α
  put : State → Gallery → α → State
  around : State → State
  part_put : ∀ s g a h, part (put s g a) h = if h = g then a else part s h
  part_sendAll : ∀ s l, part (s.sendAll l) = part s
  part_take : ∀ s c, part (s.take c) = part s
  part_seal : ∀ s, part s.seal = part s
  around_put : ∀ s g a, around (put s g a) = around s
  around_sendAll : ∀ s l, around (s.sendAll l) = around s
  around_take : ∀ s c, around (s.take c) = around s
  around_seal : ∀ s, around s.seal = around s
  put_inFlight : ∀ s g a, (put s g a).inFlight = s.inFlight
  put_put : ∀ s g a b, put (put s g a) g b = put s g b
  put_part : ∀ s g, put s g (part s g) = s
  put_sendAll : ∀ s l g a, put (s.sendAll l) g a = (put s g a).sendAll l
  put_startComplete : ∀ s g a, (put s g a).startComplete = s.startComplete

namespace Slice
variable {α : Type} (S : Slice α)

/-- The state with a gallery's share replaced and notices sent. -/
def at_ (s : State) (g : Gallery) (a : α) (l : List Instr) : State := (S.put s g a).sendAll l

theorem at_self (s : State) (g : Gallery) : S.at_ s g (S.part s g) [] = s := by
  rw [at_, S.put_part]
  simp [State.sendAll]

@[simp] theorem sendAll_at (s : State) (g : Gallery) (a : α) (l m : List Instr) :
    (S.at_ s g a l).sendAll m = S.at_ s g a (l ++ m) := State.sendAll_sendAll _ _ _

@[simp] theorem send_at (s : State) (g : Gallery) (a : α) (l : List Instr) (c : Instr) :
    (S.at_ s g a l).send c = S.at_ s g a (l ++ [c]) := by
  rw [send_eq_sendAll, sendAll_at]

@[simp] theorem attend_at (s : State) (g : Gallery) (a : α) (l : List Instr) (c : Cause) (y : Option Gallery) :
    (S.at_ s g a l).attend c y = S.at_ s g a (l ++ attention s c y) := by
  have same : attention (S.at_ s g a l) = attention s := attention_congr (S.put_startComplete s g a)
  rw [attend_eq_sendAll, same, sendAll_at]

/-- What a share becomes, as a function of the state around it. -/
abbrev Edit (α : Type) := State → Gallery → α → α

/-- What is sent, as a function of the state around a share and of the share. -/
abbrev News (α : Type) := State → Gallery → α → List Instr

/-- The action on a gallery makes `φ` of its share and sends `news`, both depending on nothing but that share and what stands
around the shares. -/
structure Acts (f : Gallery → State → State) (φ : Edit α) (news : News α) : Prop where
  eq : ∀ g s, f g s = (S.put s g (φ s g (S.part s g))).sendAll (news s g (S.part s g))
  edit_around : ∀ {s t}, S.around s = S.around t → φ s = φ t
  news_around : ∀ {s t}, S.around s = S.around t → news s = news t

/-- The state `t` is `s` with every share made over by `φ`, and `news` of every gallery sent in turn. -/
structure Made (s t : State) (φ : Gallery → α → α) (news : Gallery → α → List Instr) : Prop where
  around : S.around t = S.around s
  part : ∀ g, S.part t g = φ g (S.part s g)
  inFlight : t.inFlight = s.inFlight ++ galleries.flatMap fun g => news g (S.part s g)

/-- The command `c` is taken in `s`: every share is made over by `φ`, and `news` of every gallery is sent in turn, the answer
to a request after it. -/
structure Taken (c : Instr) (s t : State) (φ : Gallery → α → α) (news : Gallery → α → List Instr) (answer : List Instr) :
    Prop where
  around : S.around t = S.around s
  part : ∀ g, S.part t g = φ g (S.part s g)
  inFlight : t.inFlight = s.inFlight.erase c ++ galleries.flatMap (fun g => news g (S.part s g)) ++ answer

variable {S} {f f' : Gallery → State → State} {φ φ' : Edit α} {news news' : News α}

/-- What is made of the state in which a command is taken, with an answer sent and the check code following. -/
theorem Made.taken {c : Instr} {s u : State} {φ : Gallery → α → α} {news : Gallery → α → List Instr}
    (h : S.Made (s.take c) u φ news) (answer : List Instr) : S.Taken c s (u.sendAll answer).seal φ news answer where
  around := by rw [S.around_seal, S.around_sendAll, h.around, S.around_take]
  part g := by rw [S.part_seal, S.part_sendAll, h.part, S.part_take]
  inFlight := by
    show u.inFlight ++ answer = _
    rw [h.inFlight, S.part_take]
    rfl

theorem Taken.sent {c : Instr} {s t : State} {φ : Gallery → α → α} {news : Gallery → α → List Instr}
    (h : S.Taken c s t φ news []) : t.inFlight = s.inFlight.erase c ++ galleries.flatMap fun g => news g (S.part s g) := by
  rw [h.inFlight, List.append_nil]

/-- What a taken command leaves, with the shares, the notices and the answer written in other words. -/
theorem Taken.reads {c : Instr} {s t : State} {φ : Gallery → α → α} {news : Gallery → α → List Instr}
    {answer answer' : List Instr} (h : S.Taken c s t φ news answer) {x : Gallery → α} {n : Gallery → List Instr}
    (edit : ∀ g, φ g (S.part s g) = x g) (sent : ∀ g, news g (S.part s g) = n g) (same : answer = answer') :
    (∀ g, S.part t g = x g) ∧ t.inFlight = s.inFlight.erase c ++ galleries.flatMap n ++ answer' :=
  ⟨fun g => (h.part g).trans (edit g), by rw [h.inFlight, funext sent, same]⟩

/-- What is made of the state in which a command without a reply is taken. -/
theorem Made.taken_plain {c : Instr} {s u : State} {φ : Gallery → α → α} {news : Gallery → α → List Instr}
    (h : S.Made (s.take c) u φ news) : S.Taken c s u.seal φ news [] := by
  simpa [State.sendAll] using h.taken []

namespace Acts

/-- An action is known by what it makes of a share and of the notices sent before it. -/
theorem of_at (eq : ∀ s g x l, f g (S.at_ s g x l) = S.at_ s g (φ s g x) (l ++ news s g x))
    (edit_around : ∀ {s t}, S.around s = S.around t → φ s = φ t)
    (news_around : ∀ {s t}, S.around s = S.around t → news s = news t) : S.Acts f φ news where
  eq g s := by
    have fromSelf := eq s g (S.part s g) []
    rw [S.at_self, List.nil_append] at fromSelf
    exact fromSelf
  edit_around := edit_around
  news_around := news_around

theorem part_self (h : S.Acts f φ news) (g : Gallery) (s : State) : S.part (f g s) g = φ s g (S.part s g) := by
  rw [h.eq, S.part_sendAll, S.part_put, if_pos rfl]

theorem part_ne (h : S.Acts f φ news) {g i : Gallery} (ne : i ≠ g) (s : State) : S.part (f g s) i = S.part s i := by
  rw [h.eq, S.part_sendAll, S.part_put, if_neg ne]

theorem around (h : S.Acts f φ news) (g : Gallery) (s : State) : S.around (f g s) = S.around s := by
  rw [h.eq, S.around_sendAll, S.around_put]

theorem inFlight (h : S.Acts f φ news) (g : Gallery) (s : State) :
    (f g s).inFlight = s.inFlight ++ news s g (S.part s g) := by
  rw [h.eq, State.sendAll, S.put_inFlight]

/-- One action after another on the same gallery. -/
theorem andThen (h : S.Acts f φ news) (h' : S.Acts f' φ' news') :
    S.Acts (fun g s => f' g (f g s)) (fun s g x => φ' s g (φ s g x))
      (fun s g x => news s g x ++ news' s g (φ s g x)) where
  eq g s := by
    rw [h'.eq, h'.edit_around (h.around g s), h'.news_around (h.around g s), h.part_self, h.eq, S.put_sendAll, S.put_put,
      State.sendAll_sendAll]
  edit_around e := by rw [h.edit_around e, h'.edit_around e]
  news_around e := by rw [h.news_around e, h'.news_around e, h.edit_around e]

/-- An action that is skipped unless the share calls for it. -/
theorem onlyIf (h : S.Acts f φ news) (p : Gallery → α → Bool) :
    S.Acts (fun g s => if p g (S.part s g) then f g s else s) (fun s g x => if p g x then φ s g x else x)
      (fun s g x => if p g x then news s g x else []) where
  eq g s := by
    by_cases hp : p g (S.part s g) = true
    · simp only [hp, if_true]
      exact h.eq g s
    · simp only [hp]
      exact (S.put_part s g).symm.trans (by simp [State.sendAll])
  edit_around e := by rw [h.edit_around e]
  news_around e := by rw [h.news_around e]

/-- The six actions in turn. -/
theorem forGalleries (h : S.Acts f φ news) (s : State) : S.Made s (forGalleries f s) (φ s) (news s) := by
  have edit (g s) : φ (f g s) = φ s := h.edit_around (h.around g s)
  have sent (g s) : news (f g s) = news s := h.news_around (h.around g s)
  refine ⟨forGalleries_same S.around h.around s, fun g => ?_, ?_⟩
  · cases g <;> simp [Machine.forGalleries, edit, h.part_self, h.part_ne]
  · simp [Machine.forGalleries, galleries, sent, h.inFlight, h.part_ne]

/-- The same action by another name. -/
theorem of_eq (h : S.Acts f φ news) (same : ∀ g s, f' g s = f g s) : S.Acts f' φ news := by
  rwa [show f' = f from funext fun g => funext (same g)]

/-- The action on one gallery. -/
theorem one (h : S.Acts f φ news) (g : Gallery) (s : State) :
    S.Made s (f g s) (fun i x => if i = g then φ s i x else x) (fun i x => if i = g then news s i x else []) where
  around := h.around g s
  part i := by
    by_cases e : i = g
    · rw [e, h.part_self, if_pos rfl]
    · rw [h.part_ne e, if_neg e]
  inFlight := by
    rw [h.inFlight]
    congr 1
    cases g <;> simp [galleries]

theorem edit_take (h : S.Acts f φ news) (s : State) (c : Instr) : φ (s.take c) = φ s := h.edit_around (S.around_take s c)

theorem news_take (h : S.Acts f φ news) (s : State) (c : Instr) : news (s.take c) = news s := h.news_around (S.around_take s c)

end Acts

/-- The state left as it is. -/
theorem Made.refl (s : State) : S.Made s s (fun _ x => x) (fun _ _ => []) :=
  ⟨rfl, fun _ => rfl, by simp [galleries]⟩

/-- The same outcome described by other functions. -/
theorem Made.congr {s t : State} {φ φ' : Gallery → α → α} {news news' : Gallery → α → List Instr} (h : S.Made s t φ news)
    (edit : ∀ g, φ g (S.part s g) = φ' g (S.part s g)) (sent : ∀ g, news g (S.part s g) = news' g (S.part s g)) :
    S.Made s t φ' news' where
  around := h.around
  part g := (h.part g).trans (edit g)
  inFlight := by rw [h.inFlight, funext sent]

/-- What a marking action on every gallery leaves is what the action leaves. -/
theorem forMask_fst (f : Gallery → State → State × Bool) (s : State) :
    (forMask f s).1 = Machine.forGalleries (fun g s => (f g s).1) s := rfl

/-- A permitted request whose action makes over the shares is taken, with its answer sent (R182). -/
theorem Made.request {b : Block} {c : Instr} {code : Nat} {permitted : Port → Bool} {q : Req} {s u : State}
    {act : State → Machine.Taken} {a : Result × Nat} {φ : Gallery → α → α} {news : Gallery → α → List Instr}
    (made : S.Made (s.take c) u φ news) (answers : act (s.take c) = (u, a)) (ready : Ready s b)
    (allowed : permitted q.port = true) :
    ∃ t, Machine.request b c code permitted q s act = .next t ∧ S.Taken c s t φ news (reply q code a.1 a.2) ∧
      S.part t = S.part u := by
  refine ⟨_, request_ready ready c code allowed act, ?_, ?_⟩
  · rw [answers]
    exact made.taken _
  · rw [S.part_seal, send_eq_sendAll, S.part_sendAll, answers]

/-! ## The galleries a request names -/

/-- A marking action on a gallery that makes `φ` of its share, sends `news`, and marks the gallery when `m` holds of the
share. -/
structure Marks (S : Slice α) (act : Gallery → State → State × Bool) (φ : Edit α) (m : α → Bool) (news : News α) : Prop where
  acts : S.Acts (fun g s => (act g s).1) φ news
  mark : ∀ g s, (act g s).2 = m (S.part s g)

variable {act : Gallery → State → State × Bool} {m : α → Bool}

/-- The set of the galleries marked. -/
theorem Marks.mask (h : S.Marks act φ m news) (s : State) :
    (forMask act s).2 = maskOf fun g => m (S.part s g) :=
  (forMask_mask S.part (fun _ => m) h.mark (fun _ _ s ne => h.acts.part_ne ne s) s).trans (galleryMask_ofFn _)

/-- Field 6 addresses no gallery. -/
theorem addresses_six {b : BitVec 3} (h : b = 6) (i : Gallery) : addresses b i = false := by
  subst h
  cases i <;> rfl

/-- What a gallery field addresses is made over by `φ`. -/
def named (b : BitVec 3) (φ : Gallery → α → α) (g : Gallery) (x : α) : α := if addresses b g then φ g x else x

/-- What the galleries a gallery field addresses send. -/
def namedNews (b : BitVec 3) (news : Gallery → α → List Instr) (g : Gallery) (x : α) : List Instr :=
  if addresses b g then news g x else []

/-- The state with an action done on the galleries a gallery field names (Introduction, Conventions). -/
def onNamed (b : BitVec 3) (f : Gallery → State → State) (s : State) : State :=
  match gallerySel b with
  | .bad => s
  | .one g => f g s
  | .all => Machine.forGalleries f s

theorem Acts.onNamed (h : S.Acts f φ news) (b : BitVec 3) (s : State) :
    S.Made s (onNamed b f s) (named b (φ s)) (namedNews b (news s)) := by
  unfold Slice.onNamed
  obtain ⟨g, sel, num⟩ | ⟨sel, num⟩ | ⟨sel, six⟩ := gallerySel_cases b
  · rw [sel]
    refine (h.one g s).congr (fun i => ?_) (fun i => ?_) <;> simp [named, namedNews, addresses_one num]
  · rw [sel]
    refine (h.forGalleries s).congr (fun i => ?_) (fun i => ?_) <;> simp [named, namedNews, addresses_all num]
  · rw [sel]
    refine (Made.refl s).congr (fun i => ?_) (fun i => ?_) <;> simp [named, namedNews, addresses_six six]

end Slice
end Sys2Proof.Machine
end

section
/-! SUPPORT. The darkening controller's actions on one gallery, as what they make of its record, source set and SHADE output
and what they send (R154 to R163). -/

namespace Sys2Proof.Machine
open Sys2Proof

/-- What the darkening controller holds of a gallery. -/
abbrev DarkPart := DarkRec × SourceSet × Bool

/-- The darkening controller's share of a gallery, with what stands around the shares. -/
def darkSlice : Slice DarkPart where
  part := darkOf
  put s g x := ((s.setDark g x.1).setSources g x.2.1).setShade g x.2.2
  around s := { s with
    dark := .all default, ret := { s.ret with sources := .all default }, shade := .all default, inFlight := [],
    checkCode := 0 }
  part_put s g a h := by
    by_cases e : h = g <;> simp [darkOf, State.darkRec, State.sources, PerGallery.get_set, e]
  part_sendAll _ _ := rfl
  part_take _ _ := rfl
  part_seal _ := rfl
  around_put _ _ _ := rfl
  around_sendAll _ _ := rfl
  around_take _ _ := rfl
  around_seal _ := rfl
  put_inFlight _ _ _ := rfl
  put_put s g a b := by simp [State.setDark, State.setSources, State.setShade, PerGallery.set_set]
  put_part s g := by
    simp [State.setDark, State.setSources, State.setShade, darkOf, State.darkRec, State.sources, PerGallery.set_get_self]
  put_sendAll _ _ _ _ := rfl
  put_startComplete _ _ _ := rfl

@[simp] theorem darkSlice_part (s : State) (g : Gallery) : darkSlice.part s g = darkOf s g := rfl

section
variable (s : State) (g : Gallery) (x : DarkPart) (l : List Instr)

@[simp] theorem darkRec_at : (darkSlice.at_ s g x l).darkRec g = x.1 := PerGallery.get_set_self _ _ _

@[simp] theorem sources_at : (darkSlice.at_ s g x l).sources g = x.2.1 := PerGallery.get_set_self _ _ _

@[simp] theorem clock_at_dark : (darkSlice.at_ s g x l).clock = s.clock := rfl

@[simp] theorem setDark_at (r : DarkRec) : (darkSlice.at_ s g x l).setDark g r = darkSlice.at_ s g (r, x.2) l :=
  congrArg (fun t : PerGallery DarkRec => { darkSlice.at_ s g x l with dark := t }) (PerGallery.set_set _ _ _ _)

@[simp] theorem setSources_at (v : SourceSet) :
    (darkSlice.at_ s g x l).setSources g v = darkSlice.at_ s g (x.1, v, x.2.2) l :=
  congrArg (fun t => { darkSlice.at_ s g x l with ret := { (darkSlice.at_ s g x l).ret with sources := t } })
    (PerGallery.set_set _ _ _ _)

@[simp] theorem setShade_at (v : Bool) : (darkSlice.at_ s g x l).setShade g v = darkSlice.at_ s g (x.1, x.2.1, v) l :=
  congrArg (fun t : PerGallery Bool => { darkSlice.at_ s g x l with shade := t }) (PerGallery.set_set _ _ _ _)

@[simp] theorem sendDarkState_at (v : Bool) :
    (darkSlice.at_ s g x l).sendDarkState g v = darkSlice.at_ s g x (l ++ darkNotices g v) := by
  simp [State.sendDarkState, darkNotices]

/-- Entering DARKENING (R155, R156). -/
@[simp] theorem enterDarkening_at (n : Nat) :
    (darkSlice.at_ s g x l).enterDarkening g n = darkSlice.at_ s g (entered n x) (l ++ enterNews s g x.1) := by
  by_cases ok : x.1.lState = .ok <;>
    simp [State.enterDarkening, entered, enterNews, State.enterDark, DarkRec.toDark, ok]

/-- A source joining (R154). -/
@[simp] theorem join_at (i : Source) (immediate : Bool) :
    (darkSlice.at_ s g x l).join g i immediate =
      darkSlice.at_ s g (joined (secondStamp s.clock) i immediate x) (l ++ joinNews s g immediate x) := by
  by_cases none : x.2.1 = .empty
  · by_cases now : immediate ∨ delaySeconds x.1.env.delay = 0
    · have zero : (if immediate then 0 else delaySeconds x.1.env.delay) = 0 := by
        rcases now with h | h <;> simp [h]
      simp [State.join, State.leaveIdle, joined, joinNews, SourceSet.isEmpty, outcomeOf, none, now, zero, enterNews]
    · obtain ⟨later, delay⟩ := not_or.1 now
      simp [State.join, State.leaveIdle, joined, joinNews, SourceSet.isEmpty, outcomeOf, none, later, delay,
        Nat.pos_of_ne_zero delay]
  · simp [State.join, joined, joinNews, SourceSet.isEmpty, none]

/-- A set that becomes smaller by a release (R158). -/
@[simp] theorem release_at (rest : SourceSet) (cause : EndCause) :
    (darkSlice.at_ s g x l).release g rest cause =
      darkSlice.at_ s g (released rest cause x) (l ++ releaseNews s g rest x) := by
  by_cases none : rest = .empty
  · cases st : x.1.state <;>
      simp [State.release, State.returnToIdle, released, releaseNews, SourceSet.isEmpty, DarkRec.toIdle,
        DarkRec.armedSeconds, none, st]
  · simp [State.release, released, releaseNews, SourceSet.isEmpty, none]

/-- A source leaving (R158). -/
@[simp] theorem leave_at (i : Source) (cause : EndCause) :
    (darkSlice.at_ s g x l).leave g i cause = darkSlice.at_ s g (left i cause x) (l ++ leaveNews s g i x) := by
  by_cases held : x.2.1.has i = true <;> simp [State.leave, left, leaveNews, held]

/-- A second of ARMED, DARKENING and DARK (R155 to R157). -/
theorem courseSecond_at :
    (darkSlice.at_ s g x l).courseSecond g = darkSlice.at_ s g (coursed x) (l ++ courseNews s g x) := by
  cases st : x.1.state
  case idle => simp [State.courseSecond, coursed, courseNews, st]
  case armed =>
    by_cases ends : x.1.delayLeft.getD 0 ≤ 1
    · simp [State.courseSecond, State.armedSecond, coursed, courseNews, st, ends]
      by_cases ok : x.1.lState = .ok <;> simp [enterNews, entered, ok]
    · have runs : x.1.delayLeft.getD 0 - 1 ≠ 0 := by omega
      simp [State.courseSecond, State.armedSecond, coursed, courseNews, st, ends, runs]
  case darkening =>
    by_cases ok : x.1.lState = .ok
    · cases code : x.1.lCode with
      | none =>
        by_cases late : 600 ≤ x.1.timeToDark + 1 <;>
          simp [State.courseSecond, State.darkeningSecond, State.enterDark, DarkRec.toDark, DarkRec.isDark, coursed, courseNews,
            st, ok, code, late]
      | some y =>
        by_cases dim : y ≤ 10 * x.1.env.ldark <;> by_cases late : 600 ≤ x.1.timeToDark + 1 <;>
          simp [State.courseSecond, State.darkeningSecond, State.enterDark, DarkRec.toDark, DarkRec.isDark, coursed, courseNews,
            st, ok, code, dim, late]
    · simp [State.courseSecond, State.darkeningSecond, State.enterDark, DarkRec.toDark, coursed, courseNews, st, ok]
  case dark =>
    have minute : x.1.heldSub + 1 < 60 ↔ x.1.heldSub < 59 := by omega
    simp [State.courseSecond, coursed, courseNews, st, DarkRec.held, minute]

/-- The hard-lux counter after a second mark that does not bring it to 60 (R160). -/
def DarkRec.counted (r : DarkRec) : Nat := if glares r then r.hardLux + 1 else 0

theorem countsHard_eq_glares (r : DarkRec) : r.countsHard = glares r := by
  unfold DarkRec.countsHard glares DarkRec.tooBright
  cases r.lCode <;> rfl

/-- The hard-lux counter comes to 60 at a second mark (R160). -/
theorem reachesHard_eq (r : DarkRec) : r.reachesHard = (glares r && decide (59 ≤ r.hardLux)) := by
  unfold DarkRec.reachesHard
  rw [countsHard_eq_glares]
  congr 2
  exact propext (by omega)

/-- The share after the hard-lux counter is stepped (R160). -/
def hardStepped (at_ : SecondStamp) (x : DarkPart) : DarkPart :=
  if x.1.reachesHard then joined at_ .hardLux false ({ x.1 with hardLux := 0 }, x.2)
  else ({ x.1 with hardLux := x.1.counted }, x.2)

theorem stepHardLux_at :
    (darkSlice.at_ s g x l).stepHardLux g = darkSlice.at_ s g (hardStepped (secondStamp s.clock) x)
      (l ++ if x.1.reachesHard then joinNews s g false x else []) := by
  by_cases reached : x.1.reachesHard = true
  · simp [State.stepHardLux, hardStepped, reached]
    rfl
  · simp [State.stepHardLux, hardStepped, DarkRec.counted, countsHard_eq_glares, reached]

theorem judgeLuxHard_at (reached : Bool) :
    (darkSlice.at_ s g x l).judgeLuxHard g reached =
      darkSlice.at_ s g ({ x.1 with luxHardOpen := hardAfter x.1 reached }, x.2) (l ++ hardNews g x.1 reached) := by
  obtain ⟨⟨st, delay, armedWith, toDark, sub, hard, isOpen, o, code, lState, e⟩, rest⟩ := x
  cases isOpen with
  | false => cases reached <;> simp [State.judgeLuxHard, hardAfter, hardNews]
  | true =>
    by_cases off : lState = .disabled
    · subst off
      simp [State.judgeLuxHard, hardAfter, hardNews]
    · have on : (lState != .disabled) = true := by simpa using off
      cases code with
      | none => simp [State.judgeLuxHard, hardAfter, hardNews, off, on]
      | some y =>
        by_cases dim : y < 10 * e.lhard
        · simp [State.judgeLuxHard, hardAfter, hardNews, off, dim, Nat.not_le.2 dim]
        · simp [State.judgeLuxHard, hardAfter, hardNews, off, on, dim, Nat.not_lt.1 dim]

/-- What the judgements of the hard illuminance limit read of a record. -/
def DarkRec.lux (r : DarkRec) : Bool × Option Nat × ChanState × Envelope × Nat :=
  (r.luxHardOpen, r.lCode, r.lState, r.env, r.hardLux)

theorem lux_entered (n : Nat) : (entered n x).1.lux = x.1.lux := by
  unfold entered
  dsimp only
  split <;> rfl

theorem lux_coursed : (coursed x).1.lux = x.1.lux := by
  unfold coursed
  dsimp only
  split
  · rfl
  · split
    · exact lux_entered _ _
    · rfl
  · (repeat' split) <;> rfl
  · split <;> rfl

theorem lux_joined (at_ : SecondStamp) (i : Source) (immediate : Bool) : (joined at_ i immediate x).1.lux = x.1.lux := by
  unfold joined
  dsimp only
  generalize (if immediate = true then 0 else delaySeconds x.1.env.delay) = delay
  split
  · split
    · rfl
    · exact lux_entered _ _
  · rfl

theorem glares_congr {r r' : DarkRec} (h : r.lux = r'.lux) : glares r = glares r' := by
  simp only [DarkRec.lux, Prod.mk.injEq] at h
  obtain ⟨-, code, st, env, -⟩ := h
  simp only [glares, code, st, env]

theorem reachesHard_congr {r r' : DarkRec} (h : r.lux = r'.lux) : r.reachesHard = r'.reachesHard := by
  simp only [DarkRec.lux, Prod.mk.injEq] at h
  obtain ⟨-, code, st, env, hard⟩ := h
  simp only [DarkRec.reachesHard, DarkRec.countsHard, DarkRec.tooBright, code, st, env, hard]

theorem counted_congr {r r' : DarkRec} (h : r.lux = r'.lux) : r.counted = r'.counted := by
  rw [DarkRec.counted, DarkRec.counted, glares_congr h, show r.hardLux = r'.hardLux from congrArg (·.2.2.2.2) h]

theorem hardAfter_congr {r r' : DarkRec} (h : r.lux = r'.lux) (b : Bool) : hardAfter r b = hardAfter r' b := by
  simp only [DarkRec.lux, Prod.mk.injEq] at h
  obtain ⟨isOpen, code, st, env, -⟩ := h
  simp only [hardAfter, isOpen, code, st, env]

theorem hardNews_congr {r r' : DarkRec} (h : r.lux = r'.lux) (b : Bool) : hardNews g r b = hardNews g r' b := by
  simp only [DarkRec.lux, Prod.mk.injEq] at h
  obtain ⟨isOpen, code, st, env, -⟩ := h
  simp only [hardNews, isOpen, code, st, env]

/-- The share after a second mark (R155 to R157, R160, R161). -/
def secondPassed (at_ : SecondStamp) (x : DarkPart) : DarkPart :=
  let reached := glares x.1 && decide (59 ≤ x.1.hardLux)
  let n := if reached then 0 else if glares x.1 then x.1.hardLux + 1 else 0
  let c : DarkPart := ({ (coursed x).1 with hardLux := n }, (coursed x).2)
  let j := if reached then joined at_ .hardLux false c else c
  ({ j.1 with luxHardOpen := hardAfter x.1 reached }, j.2)

/-- What a second mark sends (R153 to R161). -/
def secondNews (s : State) (g : Gallery) (x : DarkPart) : List Instr :=
  let reached := glares x.1 && decide (59 ≤ x.1.hardLux)
  courseNews s g x ++ (if reached then joinNews s g false (coursed x) else []) ++ hardNews g x.1 reached

theorem hardStepped_coursed (at_ : SecondStamp) :
    ({ (hardStepped at_ (coursed x)).1 with
        luxHardOpen := hardAfter (hardStepped at_ (coursed x)).1 (coursed x).1.reachesHard },
      (hardStepped at_ (coursed x)).2) = secondPassed at_ x ∧
    hardNews g (hardStepped at_ (coursed x)).1 (coursed x).1.reachesHard = hardNews g x.1 x.1.reachesHard := by
  have step (n : Nat) (b : Bool) : hardAfter { (coursed x).1 with hardLux := n } b = hardAfter x.1 b :=
    (hardAfter_congr (r := (coursed x).1) (lux_coursed x) b :)
  have news (n : Nat) (b : Bool) : hardNews g { (coursed x).1 with hardLux := n } b = hardNews g x.1 b :=
    (hardNews_congr g (r := (coursed x).1) (lux_coursed x) b :)
  simp only [hardStepped, secondPassed, reachesHard_congr (lux_coursed x), counted_congr (lux_coursed x), ← reachesHard_eq]
  by_cases reached : x.1.reachesHard = true
  · simp only [reached, if_true, hardAfter_congr (lux_joined _ _ _ _), hardNews_congr g (lux_joined _ _ _ _), step, news,
      and_self]
  · simp [reached, step, news, DarkRec.counted]

theorem darkSecond_at :
    (darkSlice.at_ s g x l).darkSecond g =
      darkSlice.at_ s g (secondPassed (secondStamp s.clock) x) (l ++ secondNews s g x) := by
  obtain ⟨made, news⟩ := hardStepped_coursed g x (secondStamp s.clock)
  unfold State.darkSecond
  dsimp only
  rw [courseSecond_at, stepHardLux_at, darkRec_at, judgeLuxHard_at, made, news]
  simp only [secondNews, reachesHard_congr (lux_coursed x), ← reachesHard_eq, List.append_assoc]

end

/-! ## The actions on a gallery -/

theorem darkSecond_acts : darkSlice.Acts State.darkSecond (fun s _ => secondPassed (secondStamp s.clock)) secondNews :=
  .of_at (fun s g x l => darkSecond_at s g x l)
    (fun e => (congrArg (fun u : State => fun _ : Gallery => secondPassed (secondStamp u.clock)) e :))
    (fun e => (congrArg secondNews e :))

theorem join_acts (i : Source) (immediate : Bool) :
    darkSlice.Acts (fun g s => s.join g i immediate) (fun s _ => joined (secondStamp s.clock) i immediate)
      (fun s g => joinNews s g immediate) :=
  .of_at (fun s g x l => join_at s g x l i immediate)
    (fun e => (congrArg (fun u : State => fun _ : Gallery => joined (secondStamp u.clock) i immediate) e :))
    (fun e => (congrArg (fun u g => joinNews u g immediate) e :))

theorem leave_acts (i : Source) (cause : EndCause) :
    darkSlice.Acts (fun g s => s.leave g i cause) (fun _ _ => left i cause) (fun s g => leaveNews s g i) :=
  .of_at (fun s g x l => leave_at s g x l i cause) (fun _ => rfl) (fun e => (congrArg (fun u g => leaveNews u g i) e :))

end Sys2Proof.Machine
end

section
/-! SUPPORT. The statements about the darkening controller: its second mark, DARKEN and RELEASE, and the sources the part adds
by itself. -/

namespace Sys2Proof.Machine
open Sys2Proof

theorem onlyWhen_next (p : Bool) (s t : State) : onlyWhen p s (.next t) = .next (if p then t else s) := by
  cases p <;> rfl

theorem triggers_of_around {s t : State} (h : darkSlice.around t = darkSlice.around s) : t.ret.triggers = s.ret.triggers :=
  (congrArg (fun u : State => u.ret.triggers) h :)

/-- A second mark at the darkening controller (R155 to R161). -/
theorem darkMark_taken {s : State} (ready : Ready s .darkening) (m : SecondStamp) :
    ∃ t, darkMark m s = .next t ∧ darkSlice.Taken (.secondMarkAtDarkening m) s t
      (fun _ => secondPassed (secondStamp s.clock)) (secondNews s) [] := by
  have made := (darkSecond_acts.forGalleries (s.take (.secondMarkAtDarkening m))).taken_plain
  rw [darkSecond_acts.news_take] at made
  exact ⟨_, deliver_ready ready _ _, made⟩

theorem isDark_eq (r : DarkRec) :
    r.isDark = (match r.lCode with | some y => decide (y ≤ 10 * r.env.ldark) | none => false) := by
  unfold DarkRec.isDark
  cases r.lCode <;> rfl

theorem timeRunsOut_eq (r : DarkRec) :
    timeRunsOut r = (r.state = .darkening && r.lState = .ok && !r.isDark && decide (599 ≤ r.timeToDark)) := by
  have reached : decide (600 ≤ r.timeToDark + 1) = decide (599 ≤ r.timeToDark) := decide_eq_decide.2 (by omega)
  exact congrArg (_ && ·) reached

/-- Settles O49: every gallery's second mark is computed on its own share, and the rows are the mark under their guards. -/
theorem darkeningSecond : Obligations.DarkeningSecond := by
  unfold Obligations.DarkeningSecond
  intro m s ready
  obtain ⟨t, mark, taken⟩ := darkMark_taken ready m
  have row (p : Bool) : onlyWhen p s (darkMark m s) = .next (if p then t else s) := by rw [mark, onlyWhen_next]
  refine ⟨t, mark, triggers_of_around taken.around, taken.part, taken.sent, fun g => ⟨row _, ?_, ?_, ?_⟩⟩
  · have guard := (timeRunsOut_eq (s.darkRec g)).trans (congrArg (fun d : Bool => _ && !d && _) (isDark_eq (s.darkRec g)))
    exact (row _).trans (congrArg (fun b : Bool => Host.Outcome.next (if b then t else s)) guard)
  · refine (row _).trans ?_
    simp [minuteHeld]
  · rw [← reachesHard_eq]
    exact row _

/-! ## DARKEN and RELEASE -/

theorem lightDarken_marks : darkSlice.Marks State.lightDarken
    (fun s _ x => if x.2.1.lightReq then x else joined (secondStamp s.clock) .lightReq false x)
    (fun x => !x.2.1.lightReq) (fun s g x => if x.2.1.lightReq then [] else joinNews s g false x) where
  acts := .of_at
    (fun s g x l => by cases held : x.2.1.lightReq <;> simp [State.lightDarken, held])
    (fun e => (congrArg (fun u : State => fun _ (x : DarkPart) =>
      if x.2.1.lightReq then x else joined (secondStamp u.clock) .lightReq false x) e :))
    (fun e => (congrArg (fun u g (x : DarkPart) => if x.2.1.lightReq then [] else joinNews u g false x) e :))
  mark g s := by
    show (State.lightDarken g s).2 = !(s.sources g).lightReq
    cases held : (s.sources g).lightReq <;> simp [State.lightDarken, held]

theorem lightRelease_marks : darkSlice.Marks State.lightRelease (fun _ _ => left .lightReq .lightingRelease)
    (fun x => x.2.1.lightReq) (fun s g => leaveNews s g .lightReq) where
  acts := (leave_acts .lightReq .lightingRelease).of_eq fun g s => by
    cases held : (s.sources g).lightReq <;> simp [State.lightRelease, State.leave, SourceSet.has, held]
  mark g s := by
    show (State.lightRelease g s).2 = (s.sources g).lightReq
    cases held : (s.sources g).lightReq <;> simp [State.lightRelease, held]

/-- What a Conservation DARKEN makes of a gallery (R163). -/
def consDarkened (at_ : SecondStamp) (immediate : Bool) (x : DarkPart) : DarkPart :=
  let y := if x.2.1.conservationReq then x else joined at_ .conservationReq immediate x
  if immediate && x.1.state == .armed then entered y.1.armedSeconds y else y

/-- What it sends. -/
def consDarkenNews (immediate : Bool) (s : State) (g : Gallery) (x : DarkPart) : List Instr :=
  (if x.2.1.conservationReq then [] else joinNews s g immediate x) ++
    if immediate && x.1.state == .armed then enterNews s g x.1 else []

theorem enterNews_joined (s : State) (g : Gallery) (x : DarkPart) (at_ : SecondStamp) (i : Source) (immediate : Bool) :
    enterNews s g (joined at_ i immediate x).1 = enterNews s g x.1 := by
  have st : (joined at_ i immediate x).1.lState = x.1.lState := congrArg (·.2.2.1) (lux_joined x at_ i immediate)
  simp only [enterNews, st]

theorem consDarken_marks (immediate : Bool) : darkSlice.Marks (State.consDarken immediate)
    (fun s _ => consDarkened (secondStamp s.clock) immediate)
    (fun x => !x.2.1.conservationReq || (immediate && x.1.state == .armed)) (consDarkenNews immediate) where
  acts := .of_at
    (fun s g x l => by
      cases held : x.2.1.conservationReq <;> cases ends : (immediate && x.1.state == .armed) <;>
        simp only [State.consDarken, State.endDelay, consDarkened, consDarkenNews, held, ends, sources_at, darkRec_at, join_at,
          enterDarkening_at, enterNews_joined, Bool.not_true, Bool.not_false, if_true, if_false, Bool.false_eq_true,
          List.append_nil, List.nil_append, List.append_assoc])
    (fun e => (congrArg (fun u : State => fun _ : Gallery => consDarkened (secondStamp u.clock) immediate) e :))
    (fun e => (congrArg (consDarkenNews immediate) e :))
  mark _ _ := rfl

/-- What a Conservation RELEASE makes of a gallery (R163). -/
def consReleased (x : DarkPart) : DarkPart :=
  if x.2.1 = .empty then x
  else
    let y := released .empty .conservationRelease x
    ({ y.1 with hardLux := 0 }, y.2)

theorem consRelease_marks : darkSlice.Marks State.consRelease (fun _ _ => consReleased) (fun x => x.2.1 != .empty)
    (fun s g x => if x.2.1 = .empty then [] else releaseNews s g .empty x) where
  acts := .of_at
    (fun s g x l => by
      by_cases none : x.2.1 = .empty <;> simp [State.consRelease, consReleased, SourceSet.isEmpty, none])
    (fun _ => rfl)
    (fun e => (congrArg (fun u g (x : DarkPart) => if x.2.1 = .empty then [] else releaseNews u g .empty x) e :))
  mark g s := by
    show (State.consRelease g s).2 = (s.sources g != .empty)
    by_cases none : s.sources g = .empty <;> simp [State.consRelease, SourceSet.isEmpty, none]

/-- What DARKEN and RELEASE of a master come to: the addressed galleries are made over, and the answer says which of them were
changed (R162, R163). -/
theorem darkRequest_eq {act : Gallery → State → State × Bool} {φ : Slice.Edit DarkPart} {m : DarkPart → Bool}
    {news : Slice.News DarkPart} (h : darkSlice.Marks act φ m news) (q : Req) (s : State) (unchanged : Result) (keep : Bool) :
    let u := Slice.onNamed q.gallery (fun g s => (act g s).1) s
    let marked (g : Gallery) : Bool := addresses q.gallery g && m (darkOf s g)
    darkRequest q s act unchanged keep =
      (u, if q.gallery = 6 then (.range, 0)
        else (if galleries.any marked then .ok else unchanged,
          if q.gallery = 7 then maskOf marked
          else if galleries.any marked || keep then
            ((galleries.filter (addresses q.gallery)).map fun g => darkStateCode (u.darkRec g).state).sum
          else 0)) := by
  intro u marked
  obtain ⟨g, sel, num⟩ | ⟨sel, num⟩ | ⟨sel, six⟩ := gallerySel_cases q.gallery
  · have small := galleryNum_lt g
    have known : q.gallery ≠ 6 := by bv_omega
    have single : q.gallery ≠ 7 := by bv_omega
    have mark : galleries.any marked = m (darkOf s g) := galleries_any_addresses_one num fun g => m (darkOf s g)
    have made : (act g s).2 = m (darkOf s g) := h.mark g s
    simp only [u, Slice.onNamed, darkRequest, sel, if_neg known, if_neg single, mark, made, galleries_filter_addresses_one num,
      List.map_singleton, List.sum_singleton]
    cases m (darkOf s g) <;> cases keep <;> rfl
  · have known : q.gallery ≠ 6 := by bv_omega
    have seven : q.gallery = 7 := by bv_omega
    have mark : marked = fun g => m (darkOf s g) := by
      funext g
      simp only [marked, addresses_all num, Bool.true_and]
    have mask : (forMask act s).2 = maskOf marked := (h.mask s).trans (congrArg maskOf mark.symm)
    simp only [u, Slice.onNamed, darkRequest, sel, if_neg known, if_pos seven, mask, maskOf_eq_zero_iff]
    cases galleries.any marked <;> rfl
  · simp only [u, Slice.onNamed, darkRequest, sel, if_pos six, refuse]

/-- A permitted DARKEN or RELEASE of a master is taken (R162, R163). -/
theorem darkRequest_taken {act : Gallery → State → State × Bool} {φ : Slice.Edit DarkPart} {m : DarkPart → Bool}
    {news : Slice.News DarkPart} (h : darkSlice.Marks act φ m news) {c : Instr} {code : Nat} {permitted : Port → Bool} {q : Req}
    {s : State} (unchanged : Result) (keep : Bool) (ready : Ready s .darkening) (allowed : permitted q.port = true) :
    let marked (g : Gallery) : Bool := addresses q.gallery g && m (darkOf s g)
    Next (request .darkening c code permitted q s fun s => darkRequest q s act unchanged keep) fun t =>
      darkSlice.Taken c s t (Slice.named q.gallery (φ s)) (Slice.namedNews q.gallery (news s)) (
        if q.gallery = 6 then reply q code .range 0
        else reply q code (if galleries.any marked then .ok else unchanged) (
          if q.gallery = 7 then maskOf marked
          else if galleries.any marked || keep then
            ((galleries.filter (addresses q.gallery)).map fun g => darkStateCode (t.darkRec g).state).sum
          else 0)) := by
  intro marked
  have made := h.acts.onNamed q.gallery (s.take c)
  rw [h.acts.edit_take, h.acts.news_take] at made
  obtain ⟨t, done, taken, same⟩ :=
    made.request (code := code) (act := fun s => darkRequest q s act unchanged keep)
      (darkRequest_eq h q (s.take c) unchanged keep) ready allowed
  refine ⟨t, done, ?_⟩
  have state (g : Gallery) : (t.darkRec g).state = _ := congrArg (fun p => (p g).1.state) same
  simp only [state]
  convert taken using 1
  split <;> rfl

/-- A Conservation RELEASE as it is taken (R163). -/
def releaseTaken (q : Req) (s : State) : Taken :=
  match gallerySel q.gallery with
  | .bad => refuse s .range
  | .one g => ((s.consRelease g).1, .ok, (s.consRelease g).2.toNat)
  | .all => ((forMask State.consRelease s).1, .ok, (forMask State.consRelease s).2)

theorem exec_conservationRelease (q : Req) (s : State) :
    exec (.conservationRelease q) s = request .darkening (.conservationRelease q) 0x0B conservationOnly q s (releaseTaken q) :=
  rfl

/-- What a Conservation RELEASE comes to (R163). -/
theorem consRelease_eq (q : Req) (s : State) :
    let u := Slice.onNamed q.gallery (fun g s => (State.consRelease g s).1) s
    let full (g : Gallery) : Bool := addresses q.gallery g && s.sources g != .empty
    releaseTaken q s =
      (u, if q.gallery = 6 then (.range, 0)
        else (.ok, if q.gallery = 7 then maskOf full else if galleries.any full then 1 else 0)) := by
  intro u full
  unfold releaseTaken
  obtain ⟨g, sel, num⟩ | ⟨sel, num⟩ | ⟨sel, six⟩ := gallerySel_cases q.gallery
  · have small := galleryNum_lt g
    have known : q.gallery ≠ 6 := by bv_omega
    have single : q.gallery ≠ 7 := by bv_omega
    have mark : galleries.any full = (s.sources g != .empty) :=
      galleries_any_addresses_one num fun g => s.sources g != .empty
    have made : (State.consRelease g s).2 = (s.sources g != .empty) := consRelease_marks.mark g s
    simp only [u, Slice.onNamed, sel, if_neg known, if_neg single, mark, made]
    cases s.sources g != .empty <;> rfl
  · have known : q.gallery ≠ 6 := by bv_omega
    have seven : q.gallery = 7 := by bv_omega
    have mark : full = fun g => s.sources g != .empty := by
      funext g
      simp only [full, addresses_all num, Bool.true_and]
    have mask : (forMask State.consRelease s).2 = maskOf full :=
      (consRelease_marks.mask s).trans (congrArg maskOf mark.symm)
    simp only [u, Slice.onNamed, sel, if_neg known, if_pos seven, mask]
    rfl
  · simp only [u, Slice.onNamed, sel, if_pos six, refuse]

/-- Settles O50: each request makes over the shares of the galleries it names, and its answer counts those it changed. -/
theorem darkenAndRelease : Obligations.DarkenAndRelease := by
  unfold Obligations.DarkenAndRelease
  intro q s ready named all state now asks held joins ends full ended sent
  refine ⟨fun port => ⟨?_, ?_⟩, fun port => ⟨?_, ?_⟩⟩
  · obtain ⟨t, done, taken⟩ := darkRequest_taken (c := .lightingDarken q) (code := 0x0A) lightDarken_marks .duplicate true ready
      (permitted := (· == .lighting)) (by rw [port]; rfl)
    refine ⟨t, done, triggers_of_around taken.around, taken.reads (fun g => ?_) (fun g => ?_) ?_⟩
    · show (if named g then if (s.sources g).lightReq then _ else _ else _) = _
      cases hn : named g <;> cases hr : (s.sources g).lightReq <;> simp [asks, hn, hr]
      rfl
    · show (if named g then if (s.sources g).lightReq then _ else _ else _) = _
      cases hn : named g <;> cases hr : (s.sources g).lightReq <;> simp [asks, hn, hr]
    · simp [asks, named, all, state, darkOf]
  · obtain ⟨t, done, taken⟩ := darkRequest_taken (c := .lightingRelease q) (code := 0x0B) lightRelease_marks .notFound false ready
      (permitted := (· == .lighting)) (by rw [port]; rfl)
    refine ⟨t, done, triggers_of_around taken.around, taken.reads (fun _ => rfl) (fun _ => rfl) ?_⟩
    have zero : galleries.any held = false → maskOf held = 0 := (maskOf_eq_zero_iff held).2
    show (if _ then _ else reply q 0x0B (if galleries.any held then _ else _)
      (if _ then maskOf held else if galleries.any held || false then _ else _)) = _
    cases any : galleries.any held
    · simp [zero any]
    · simp [named, all, state]
  · by_cases range : 2 ≤ q.sub.toNat
    · refine ⟨after s (.conservationDarken q) s (reply q 0x0A .range 0), ?_, rfl, fun g => ?_, ?_⟩
      · show execConservationDarken q s = _
        unfold execConservationDarken
        refine request_answers ready (by rw [port]; rfl) rfl ?_
        simp only [range, if_true]
        rfl
      · simp only [range, if_true]
        rfl
      · simp [sent, range, after, galleries]
    · have one : (q.sub.toNat = 1) = (q.sub = 1) := propext (by bv_omega)
      obtain ⟨t, done, taken⟩ := darkRequest_taken (c := .conservationDarken q) (code := 0x0A)
        (consDarken_marks (q.sub = 1)) .duplicate true ready (permitted := conservationOnly) (by rw [port]; rfl)
      refine ⟨t, ?_, triggers_of_around taken.around, taken.reads (fun g => ?_) (fun g => ?_) ?_⟩
      · rw [← done]
        simp only [exec, execConservationDarken, range, if_false, one]
      · cases hn : named g <;> cases held : (s.sources g).conservationReq <;>
          simp [joins, ends, ended, now, range, Slice.named, consDarkened, darkOf, DarkRec.armedSeconds,
            show addresses q.gallery g = named g from rfl, hn, held]
      · cases hn : named g <;> cases held : (s.sources g).conservationReq <;>
          simp [joins, ends, range, Slice.namedNews, consDarkenNews, darkOf,
            show addresses q.gallery g = named g from rfl, hn, held]
      · have marks : (fun g => joins g || ends g) = fun g => named g && (!(s.sources g).conservationReq ||
            (decide (q.sub = 1) && (s.darkRec g).state == .armed)) := by
          funext g
          cases hn : named g <;> simp [joins, ends, hn]
        rw [marks]
        by_cases six : q.gallery = 6
        · simp only [six, if_true, or_true]
        · simp only [six, range, if_false, or_false, all, decide_eq_true_eq, Bool.or_true, if_true]
          rfl
  · have made := consRelease_marks.acts.onNamed q.gallery (s.take (.conservationRelease q))
    obtain ⟨t, done, taken, -⟩ := made.request (code := 0x0B) (permitted := conservationOnly) (act := releaseTaken q)
      (consRelease_eq q (s.take (.conservationRelease q))) ready (by rw [port]; rfl)
    rw [consRelease_marks.acts.news_take] at taken
    refine ⟨t, done, triggers_of_around taken.around, taken.reads (fun g => ?_) (fun g => ?_) ?_⟩
    · cases hn : named g <;> by_cases none : s.sources g = .empty <;>
        simp [full, Slice.named, consReleased, darkOf, show addresses q.gallery g = named g from rfl, hn, none]
    · cases hn : named g <;> by_cases none : s.sources g = .empty <;>
        simp [full, Slice.namedNews, darkOf, show addresses q.gallery g = named g from rfl, hn, none]
    · by_cases six : q.gallery = 6
      · simp only [six, if_true]
      · simp only [six, if_false, all, decide_eq_true_eq]
        rfl

end Sys2Proof.Machine
end

section
/-! SUPPORT. The sources the part adds by itself, the trigger inputs and the kept copies of the darkening controller. -/

namespace Sys2Proof.Machine
open Sys2Proof

/-- EXHAUST joins under the policy bit and leaves when exhaustion ends (R164). -/
def exhaustJoins (yes : Bool) (g : Gallery) (s : State) : State :=
  if yes then if darkOnExhaust (s.darkRec g).env then s.join g .exhaust false else s
  else s.leave g .exhaust .exhaustionCleared

theorem exhaustJoins_acts (yes : Bool) : darkSlice.Acts (exhaustJoins yes)
    (fun s _ x => if yes then if darkOnExhaust x.1.env then joined (secondStamp s.clock) .exhaust false x else x
      else left .exhaust .exhaustionCleared x)
    (fun s g x => if yes then if darkOnExhaust x.1.env then joinNews s g false x else [] else leaveNews s g .exhaust x) := by
  cases yes
  · exact leave_acts .exhaust .exhaustionCleared
  · exact (join_acts .exhaust false).onlyIf fun _ x => darkOnExhaust x.1.env

theorem silenceJoins_acts : darkSlice.Acts State.silenceJoins
    (fun s _ x => if darkOnLightSilence x.1.env then joined (secondStamp s.clock) .lightSilence false x else x)
    (fun s g x => if darkOnLightSilence x.1.env then joinNews s g false x else []) :=
  (join_acts .lightSilence false).onlyIf fun _ x => darkOnLightSilence x.1.env

theorem maskJoins_acts (m : BitVec 6) (i : Source) :
    darkSlice.Acts (fun g s => if inMask m g then s.join g i false else s)
      (fun s g x => if inMask m g then joined (secondStamp s.clock) i false x else x)
      (fun s g x => if inMask m g then joinNews s g false x else []) :=
  (join_acts i false).onlyIf fun g _ => inMask m g

/-- A rise acts at a gallery: the input is not disabled and its mask holds the gallery (R165). -/
def risesAt (c : TriggerCfg) (g : Gallery) : Bool := !c.disabled && c.mask.getLsbD (galleryNum g)

/-- A rise of a trigger input (R165). -/
theorem rise_made (s : State) (x : Trigger) :
    darkSlice.Made s (s.rise x)
      (fun g y => if risesAt (s.ret.triggers.get x) g then joined (secondStamp s.clock) (inputSource x) false y else y)
      (fun g y => if risesAt (s.ret.triggers.get x) g then joinNews s g false y else []) := by
  unfold State.rise
  dsimp only
  generalize s.ret.triggers.get x = c
  split_ifs with off
  · refine (Slice.Made.refl s).congr (fun g => ?_) (fun g => ?_) <;> simp [risesAt, off]
  · refine ((maskJoins_acts c.mask (inputSource x)).forGalleries s).congr (fun g => ?_) (fun g => ?_) <;>
      simp [risesAt, off, inMask] <;> rfl

/-- A fall of a trigger input (R165). -/
theorem fall_made (s : State) (x : Trigger) :
    darkSlice.Made s (s.fall x)
      (fun _ y => if (s.ret.triggers.get x).autoRelease then left (inputSource x) (fallCause x) y else y)
      (fun g y => if (s.ret.triggers.get x).autoRelease then leaveNews s g (inputSource x) y else []) := by
  unfold State.fall
  generalize (s.ret.triggers.get x).autoRelease = auto
  cases auto
  · exact Slice.Made.refl s
  · exact (leave_acts (inputSource x) (fallCause x)).forGalleries s

/-- A Lighting presence notice at the darkening controller (R164). -/
theorem execPresenceNoticeAtDarkening_taken {s : State} (ready : Ready s .darkening) (p : Presence) :
    Next (execPresenceNoticeAtDarkening p s) fun t =>
      darkSlice.Taken (.presenceNoticeAtDarkening p) s t
        (fun _ x => if p = .absent then
            if darkOnLightSilence x.1.env then joined (secondStamp s.clock) .lightSilence false x else x
          else if p = .present then left .lightSilence .lightingPresent x else x)
        (fun g x => if p = .absent then if darkOnLightSilence x.1.env then joinNews s g false x else []
          else if p = .present then leaveNews s g .lightSilence x else []) [] := by
  refine next_deliver ready ?_
  cases p with
  | absent => exact (silenceJoins_acts.forGalleries (s.take (.presenceNoticeAtDarkening .absent))).taken_plain
  | present =>
    exact ((leave_acts .lightSilence .lightingPresent).forGalleries (s.take (.presenceNoticeAtDarkening .present))).taken_plain
  | unknown => exact (Slice.Made.refl (s.take (.presenceNoticeAtDarkening .unknown))).taken_plain

/-- An exhaustion change notice at the darkening controller (R164). -/
theorem execExhaustionChangeNotice_taken {s : State} (ready : Ready s .darkening) (g : Gallery) (yes : Bool) :
    Next (execExhaustionChangeNotice g yes s) fun t => darkSlice.around t = darkSlice.around s ∧
      (∀ h, darkOf t h = if h ≠ g then darkOf s h
        else if yes then if darkOnExhaust (s.darkRec g).env then joined (secondStamp s.clock) .exhaust false (darkOf s g)
          else darkOf s g
        else left .exhaust .exhaustionCleared (darkOf s g)) ∧
      t.inFlight = s.inFlight.erase (.exhaustionChangeNotice g yes) ++
        if yes then if darkOnExhaust (s.darkRec g).env then joinNews s g false (darkOf s g) else []
        else leaveNews s g .exhaust (darkOf s g) := by
  have acts := exhaustJoins_acts yes
  refine next_deliver ready ⟨acts.around g _, fun h => ?_, acts.inFlight g _⟩
  by_cases e : h = g
  · rw [e, if_neg (not_not.2 rfl)]
    exact acts.part_self g _
  · rw [if_pos e]
    exact acts.part_ne e _

/-- TRIGGER SETUP of a value in range (R166). -/
theorem triggerCfgOf_value (v : Half) (small : v.toNat < 256) (level : Bool) :
    triggerCfgOf v = ⟨BitVec.ofNat 6 v.toNat, v.toNat.testBit 6, v.toNat.testBit 7⟩ ∧
      triggerValue (triggerCfgOf v) level = v.toNat + if level then 256 else 0 := by
  refine ⟨?_, ?_⟩
  · simp only [triggerCfgOf, TriggerCfg.mk.injEq]
    exact ⟨BitVec.eq_of_toNat_eq (by simp), rfl, rfl⟩
  · have low : (v.truncate 6).toNat = v.toNat % 64 := by simp
    have six : (v.getLsbD 6).toNat = v.toNat / 64 % 2 := Nat.toNat_testBit _ _
    have seven : (v.getLsbD 7).toNat = v.toNat / 128 % 2 := Nat.toNat_testBit _ _
    cases level <;> simp only [triggerValue, triggerCfgOf, low, six, seven, Bool.toNat_true, Bool.toNat_false, if_true, if_false,
      Bool.false_eq_true] <;> omega

/-- Settles O51: each event makes over the shares of the galleries it concerns, by a source that joins or leaves. -/
theorem ownSourcesJoin : Obligations.OwnSourcesJoin := by
  unfold Obligations.OwnSourcesJoin
  intro g yes p x q u e s now c input fell level v answer sent
  have isInput : input = inputSource x := by cases x <;> rfl
  have isFell : fell = fallCause x := by cases x <;> rfl
  have joins (h : Gallery) : (c.disabled = false ∧ c.mask.getLsbD (galleryNum h) = true) = (risesAt c h = true) := by
    simp [risesAt]
  have taken : s.takesTriggers = true ↔ Ready s .darkening := takesTriggers_iff s
  refine ⟨fun ready => ⟨?_, ?_, fun low => ?_, fun high => ?_, fun port => ?_, ?_, ?_⟩, fun high => ?_, fun low => ?_,
    fun unready low => ?_, fun unready high => ?_⟩
  · obtain ⟨t, done, around, part, news⟩ := execExhaustionChangeNotice_taken ready g yes
    exact ⟨t, done, triggers_of_around around, part, news⟩
  · obtain ⟨t, done, taken⟩ := execPresenceNoticeAtDarkening_taken ready p
    exact ⟨t, done, triggers_of_around taken.around, taken.part, taken.sent⟩
  · have made := rise_made (level true) x
    refine ⟨((level true).rise x).seal, ?_, owned_of_rest ?_, ?_, fun h => ?_, ?_⟩
    · show execTriggerRise x s = _
      simp only [execTriggerRise, low, taken.2 ready, if_true, if_false, Bool.false_eq_true]
      rfl
    · rw [State.rest_seal]
      exact rest_eq_of_blank (State.blank_rise _ _)
    · exact (triggers_of_around made.around :)
    · simp only [joins, isInput]
      exact made.part h
    · simp only [sent, joins]
      exact made.inFlight
  · have made := fall_made (level false) x
    refine ⟨((level false).fall x).seal, ?_, owned_of_rest ?_, ?_, fun h => ?_, ?_⟩
    · show execTriggerFall x s = _
      simp only [execTriggerFall, high, taken.2 ready, if_true]
      rfl
    · rw [State.rest_seal]
      exact rest_eq_of_blank (State.blank_fall _ _)
    · exact (triggers_of_around made.around :)
    · rw [isInput, isFell]
      exact made.part h
    · simp only [sent, isInput]
      exact made.inFlight
  · show execTriggerSetup q s = _
    have permitted : conservationOnly q.port = true := by rw [port]; rfl
    have answers (x : Trigger) (named : triggerOf q.sub.toNat = some x) : execTriggerSetup q s = .next (answer x) := by
      unfold execTriggerSetup
      by_cases wide : 256 ≤ v
      · simp only [answer, wide, if_true]
        refine request_answers ready permitted rfl ?_
        simp only [named, show 256 ≤ q.value.toNat from wide, if_true]
        rfl
      · obtain ⟨cfg, value⟩ := triggerCfgOf_value q.value (Nat.not_le.1 wide) (s.trigger.get x)
        simp only [answer, wide, if_false]
        refine request_answers ready permitted rfl ?_
        simp only [named, show ¬ 256 ≤ q.value.toNat from wide, if_false]
        rw [← cfg, ← value]
        rfl
    split
    · exact answers .a (by simp only [triggerOf, *])
    · exact answers .b (by simp only [triggerOf, *])
    · refine request_answers ready permitted rfl ?_
      have unnamed : triggerOf q.sub.toNat = none := by
        unfold triggerOf
        split <;> simp_all
      simp only [unnamed]
      rfl
  · show execTrackedUpdateAtDarkening u s = _
    cases kind : u.chan.k
    case lux => exact deliver_silent ready (by simp only [kind]; rfl)
    all_goals exact deliver_silent ready (by simp only [kind]; rfl)
  · show execEnvelopeChangedAtDarkening e s = _
    exact deliver_silent (r := s.setDark e.g { s.darkRec e.g with env := e.env }) ready rfl
  · show execTriggerRise x s = _
    simp only [execTriggerRise, high, if_true]
  · show execTriggerFall x s = _
    simp only [execTriggerFall, low, if_false, Bool.false_eq_true]
  · show execTriggerRise x s = _
    simp only [execTriggerRise, low, mt taken.1 unready, if_false, Bool.false_eq_true]
    rfl
  · show execTriggerFall x s = _
    simp only [execTriggerFall, high, mt taken.1 unready, if_true]
    rfl

end Sys2Proof.Machine
end

section
/-! SUPPORT. What a block alone owns of the state, and how an invariant of one block's records is kept by every step once the
commands of that block, its start notice and the changes of supply and reset keep it. -/

namespace Sys2Proof.Machine
open Sys2Proof

/-- The state with everything set to a fixed value but what block `o` alone owns, whether the part runs, and whether the block
awaits its start notice. The trackers are moved by two blocks and are nobody's here. -/
def State.own (o : Block) (s : State) : State :=
  let r : State := { State.reset with phase := s.phase, awaiting := if o ∈ s.awaiting then [o] else [] }
  match o with
  | .timeBase => { r with ret := { r.ret with clock := s.ret.clock } }
  | .acquisition => { r with ret := { r.ret with cfg := s.ret.cfg, checkFault := s.ret.checkFault }, acq := s.acq }
  | .filter => r
  | .envelope => { r with ret := { r.ret with env := s.ret.env }, env := s.env }
  | .light => { r with ret := { r.ret with accounts := s.ret.accounts }, light := s.light }
  | .climate => { r with climate := s.climate }
  | .history => { r with ret := { r.ret with history := s.ret.history }, agg := s.agg }
  | .log =>
    { r with
      ret := { r.ret with log := { s.ret.log with overflow := false } }, log := { s.log with sinceSelection := false } }
  | .darkening =>
    { r with
      ret := { r.ret with sources := s.ret.sources, triggers := s.ret.triggers }, dark := s.dark, shade := s.shade }
  | .sequencer => { r with ret := { r.ret with setup := s.ret.setup }, seq := s.seq }
  | .port p => { r with ports := .all (s.port p) }

@[simp] theorem mem_awaiting_own (o : Block) (s : State) : o ∈ (s.own o).awaiting ↔ o ∈ s.awaiting := by
  have mem : o ∈ (if o ∈ s.awaiting then [o] else []) ↔ o ∈ s.awaiting := by split <;> simp [*]
  cases o <;> exact mem

@[simp] theorem phase_own (o : Block) (s : State) : (s.own o).phase = s.phase := by cases o <;> rfl

@[simp] theorem ready_own (o : Block) (s : State) : Ready (s.own o) o ↔ Ready s o := by
  simp only [Ready, phase_own, mem_awaiting_own]

/-- Two states that differ in another block's records alone agree in what a block owns. -/
theorem own_of_blank {o b : Block} (ne : b ≠ o) {s t : State} (h : t.blank b = s.blank b) : t.own o = s.own o := by
  have own (s : State) : (s.blank b).own o = s.own o := by
    cases o <;> cases b <;> first | exact absurd rfl ne | rfl | skip
    case port.port p q =>
      have other : p ≠ q := fun e => ne (by rw [e])
      simp only [State.own, State.blank, State.port, PerPort.get_set_ne _ _ _ _ other]
      rfl
  rw [← own t, ← own s, h]

theorem own_take (o : Block) (s : State) (c : Instr) : (s.take c).own o = s.own o := by cases o <;> rfl

theorem own_seal (o : Block) (s : State) : s.seal.own o = s.own o := by cases o <;> rfl

theorem own_wait (o : Block) (s : State) (c : Instr) : (s.wait c).own o = s.own o := by cases o <;> rfl

theorem own_setLines (o : Block) (s : State) (p : Port) (w : PortLines) : (s.setLines p w).own o = s.own o := by
  cases o <;> rfl

theorem own_setTriggerLevel (o : Block) (s : State) (x : Trigger) (v : Bool) :
    (s.setTriggerLevel x v).own o = s.own o := by cases o <;> rfl

theorem own_latch (o : Block) (s : State) (v : Bool) : State.own o { s with latch := v } = s.own o := by cases o <;> rfl

theorem own_pending (o : Block) (s : State) (l : List Instr) : State.own o { s with pending := l } = s.own o := by
  cases o <;> rfl

/-- What a block owns but whether it awaits its start notice. -/
theorem own_congr_awaiting {o : Block} {s t : State} (h : { t with awaiting := [] } = { s with awaiting := [] })
    (mem : o ∈ t.awaiting ↔ o ∈ s.awaiting) : t.own o = s.own o := by
  obtain ⟨_, at_, _, _, _, _, _, _, _, _, _, _, _, _, _, _, _, _, _, _, _, _⟩ := t
  obtain ⟨_, as_, _, _, _, _, _, _, _, _, _, _, _, _, _, _, _, _, _, _, _, _⟩ := s
  simp only [State.mk.injEq] at h
  obtain ⟨rfl, -, rfl, rfl, rfl, rfl, rfl, rfl, rfl, rfl, rfl, rfl, rfl, rfl, rfl, rfl, rfl, rfl, rfl, rfl, rfl, rfl⟩ := h
  cases o <;> simp only [State.own, propext mem]
  case port => rfl

theorem own_starting {o b : Block} (ne : b ≠ o) (s : State) : (s.starting b).own o = s.own o := by
  unfold State.starting
  split
  · rfl
  · exact own_congr_awaiting rfl (by simp [ne.symm])

theorem own_started {o b : Block} (ne : b ≠ o) (clock : o ≠ .timeBase) (s : State) : (s.started b).own o = s.own o := by
  have admitted : State.own o { s.admitWaiting b with awaiting := s.awaiting.filter fun x => x ≠ b } = s.own o := by
    refine .trans (b := (s.admitWaiting b).own o) (own_congr_awaiting rfl ?_) (by cases o <;> rfl)
    show o ∈ s.awaiting.filter _ ↔ o ∈ s.awaiting
    simp [ne.symm]
  unfold State.started
  dsimp only
  split
  · refine .trans ?_ admitted
    exact own_of_blank clock.symm (State.blank_setClock _ _)
  · exact admitted

theorem own_send (o : Block) (s : State) (c : Instr) : (s.send c).own o = s.own o := by cases o <;> rfl

theorem own_sendAll (o : Block) (s : State) (l : List Instr) : (s.sendAll l).own o = s.own o := by cases o <;> rfl

section
variable {o b : Block} {P : State → Prop} {c : Instr} {s t : State}

/-- A delivery keeps what its action keeps. -/
theorem deliver_keeps (own : ∀ s, P s ↔ P (s.own o)) {act : State → State} (hs : P s)
    (acts : ∀ s, Ready s b → P s → P (act s)) (h : deliver b c s act = .next t) : P t := by
  have same {s t : State} (e : t.own o = s.own o) (hs : P s) : P t := (own t).2 (e ▸ (own s).1 hs)
  rcases deliver_cases h with ⟨-, rfl⟩ | ⟨-, -, rfl⟩ | ⟨ready, rfl⟩
  · exact hs
  · exact same (own_wait o s c) hs
  · exact same (own_seal o _) (acts _ ready (same (own_take o s c) hs))

/-- A request keeps what its action keeps. -/
theorem request_keeps (own : ∀ s, P s ↔ P (s.own o)) {act : State → Taken} {code : Nat} {permitted : Port → Bool} {q : Req}
    (hs : P s) (acts : ∀ s, Ready s b → P s → P (act s).1) (h : request b c code permitted q s act = .next t) : P t := by
  have same {s t : State} (e : t.own o = s.own o) (hs : P s) : P t := (own t).2 (e ▸ (own s).1 hs)
  refine deliver_keeps own hs (fun s ready hs => ?_) h
  dsimp only
  split
  · exact same (own_send o _ _) (acts s ready hs)
  · exact same (own_send o s _) hs

/-- A guarded command keeps what its event keeps. -/
theorem onlyWhen_keeps {p : Bool} {a : Answer} (hs : P s) (event : a = .next t → P t) (h : onlyWhen p s a = .next t) :
    P t := by
  rcases onlyWhen_cases p s a with eq | eq <;> rw [eq] at h
  · exact event h
  · cases h
    exact hs

end

/-- An invariant of what block `o` alone owns is kept by a command, once it is kept by what the block does with the command and
with its start notice, and by the changes of supply and reset. -/
theorem exec_keeps_own {o : Block} (clock : o ≠ .timeBase) (bank : o ≠ .filter) {P : State → Prop} (own : ∀ s, P s ↔ P (s.own o)) {c : Instr}
    {s t : State} (taken : blockOf c = some o → Ready s o → exec c s = .next t → P t)
    (rises : o = .darkening → ∀ {s} x, Ready s o → P s → P (s.rise x))
    (falls : o = .darkening → ∀ {s} x, Ready s o → P s → P (s.fall x))
    (judged : ∀ {p}, o = .port p → ∀ {s} bits, P s → P (s.judgeFrame p bits))
    (starts : ∀ b i, startOwner b = o → s.phase = .running →
      P ((((s.take (.startNotice b i)).starting b).startBlock b i).started b))
    (warms : ∀ last, s.phase ≠ .running → P (s.beginStart .warm last))
    (colds : s.phase = .unpowered → P (State.beginStart { s with ret := .cold, latch := false } .cold .cold))
    (unpowers : P { s.lose with phase := .unpowered, shade := .all false })
    (holds : P { s.lose with phase := .heldReset, shade := .ofFn fun g => !(s.sources g).isEmpty })
    (hs : P s) (h : exec c s = .next t) : P t := by
  have same {s t : State} (e : t.own o = s.own o) (hs : P s) : P t := (own t).2 (e ▸ (own s).1 hs)
  have others (b : Block) (e : startOwner b ≠ o) : b ≠ o := by
    rintro rfl
    exact e (if_neg bank)
  rcases exec_effect h with _ | ⟨hb, running, awaits⟩ | ⟨hb, ready, keeps⟩ | _ | ⟨p, w⟩ | ⟨p, w, bits, complete⟩ | ⟨x, v⟩ |
    ⟨x, ready⟩ | ⟨x, ready⟩ | ⟨last, off⟩ | off | _ | _ | _ | ⟨b, i, running⟩
  case same => exact hs
  case waits => exact same (own_wait o s _) hs
  case taken b u =>
    by_cases e : b = o
    · subst e
      exact taken hb ready h
    · exact same ((own_seal o _).trans ((own_of_blank e keeps).trans (own_take o s _))) hs
  case ticks => exact same ((own_seal o _).trans (own_of_blank clock.symm s.blank_advance)) hs
  case framed => exact same (own_setLines o s p w) hs
  case judged =>
    have lined := same (own_setLines o s p w) hs
    by_cases e : o = .port p
    · exact same (own_seal o _) (judged e bits lined)
    · exact same ((own_seal o _).trans (own_of_blank (Ne.symm e) (State.blank_judgeFrame _ p bits))) lined
  case level => exact same (own_setTriggerLevel o s x v) hs
  case rises =>
    have moved := same (own_setTriggerLevel o s x true) hs
    by_cases e : o = .darkening
    · subst e
      exact same (own_seal _ _) (rises rfl x ready moved)
    · exact same ((own_seal o _).trans (own_of_blank (Ne.symm e) (State.blank_rise _ x))) moved
  case falls =>
    have moved := same (own_setTriggerLevel o s x false) hs
    by_cases e : o = .darkening
    · subst e
      exact same (own_seal _ _) (falls rfl x ready moved)
    · exact same ((own_seal o _).trans (own_of_blank (Ne.symm e) (State.blank_fall _ x))) moved
  case warms => exact warms last off
  case colds => exact colds off
  case unpowers => exact unpowers
  case latches => exact same (own_latch o s true) hs
  case holds => exact holds
  case starts =>
    refine same (own_seal o _) ?_
    by_cases e : startOwner b = o
    · exact starts b i e running
    · exact same ((own_started (others b e) clock _).trans ((own_of_blank e (State.blank_startBlock _ b i)).trans
        ((own_starting (others b e) _).trans (own_take o s _)))) hs

/-- An invariant of what block `o` alone owns is kept by every step, once it is kept by what the block does with its own
commands and start notices, and by the changes of supply and reset. -/
theorem step_keeps_own {o : Block} (clock : o ≠ .timeBase) (bank : o ≠ .filter) {P : State → Prop} (own : ∀ s, P s ↔ P (s.own o))
    (taken : ∀ {c s t}, blockOf c = some o → Ready s o → P s → exec c s = .next t → P t)
    (rises : o = .darkening → ∀ {s} x, Ready s o → P s → P (s.rise x))
    (falls : o = .darkening → ∀ {s} x, Ready s o → P s → P (s.fall x))
    (judged : ∀ {p}, o = .port p → ∀ {s} bits, P s → P (s.judgeFrame p bits))
    (starts : ∀ {s} b i, startOwner b = o → s.phase = .running → P s →
      P (((s.starting b).startBlock b i).started b))
    (warms : ∀ {s} last, s.phase ≠ .running → P s → P (s.beginStart .warm last))
    (colds : ∀ {s}, s.phase = .unpowered → P s → P (State.beginStart { s with ret := .cold, latch := false } .cold .cold))
    (unpowers : ∀ {s}, P s → P { s.lose with phase := .unpowered, shade := .all false })
    (holds : ∀ {s}, P s → P { s.lose with phase := .heldReset, shade := .ofFn fun g => !(s.sources g).isEmpty })
    {s t : State} (hs : P s) (h : step s = .next t) : P t := by
  have same {s t : State} (e : t.own o = s.own o) (hs : P s) : P t := (own t).2 (e ▸ (own s).1 hs)
  refine step_keeps (P := P) (fun u l hu => same (own_pending o u l) hu) (fun c s t hs h => ?_) hs h
  exact exec_keeps_own clock bank own (fun hb ready => taken hb ready hs) rises falls judged
    (fun b i e running => starts b i e running (same (own_take o s _) hs)) (fun last off => warms last off hs)
    (fun off => colds off hs) (unpowers hs) (holds hs) hs h

theorem phase_beginStart (s : State) (kind : StartKind) (last : LastStart) :
    (s.beginStart kind last).phase = .running := rfl

/-- A start that has only begun has no block ready. -/
theorem not_ready_beginStart (s : State) (kind : StartKind) (last : LastStart) (b : Block) :
    ¬Ready (s.beginStart kind last) b := by
  have all : b ∈ blocks := by
    cases b
    case port p => cases p <;> decide
    all_goals decide
  exact fun ready => ready.2 all

theorem phase_starting (s : State) (b : Block) : (s.starting b).phase = s.phase := by
  unfold State.starting
  split <;> rfl

end Sys2Proof.Machine
end

section
/-! SUPPORT. The darkening invariant through every step. -/

namespace Sys2Proof.Machine
open Sys2Proof

/-- A gallery's darkening state, source set and SHADE output agree (R154, R159). -/
def DarkGood (x : DarkPart) : Prop :=
  (x.1.state = .idle ↔ x.2.1 = .empty) ∧ (x.2.2 = true ↔ x.1.state = .darkening ∨ x.1.state = .dark)

theorem darkOk_iff (s : State) (g : Gallery) : DarkOk s g ↔ DarkGood (darkOf s g) := Iff.rfl

theorem put_ne_empty (x : SourceSet) (i : Source) : x.put i true ≠ .empty := by
  intro e
  have held := congrArg (SourceSet.has · i) e
  cases i <;> cases held

theorem ne_empty_of_has {x : SourceSet} {i : Source} (h : x.has i = true) : x ≠ .empty := by
  rintro rfl
  cases i <;> cases h

theorem DarkGood.entered {x : DarkPart} (held : x.2.1 ≠ .empty) (n : Nat) : DarkGood (entered n x) := by
  unfold Machine.entered DarkGood
  dsimp only
  split <;> simp [held]

theorem DarkGood.joined {x : DarkPart} (h : DarkGood x) (at_ : SecondStamp) (i : Source) (immediate : Bool) :
    DarkGood (joined at_ i immediate x) := by
  unfold Machine.joined
  dsimp only
  generalize (if immediate = true then 0 else delaySeconds x.1.env.delay) = delay
  split
  next none =>
    split
    · have dim : x.2.2 = false := by
        have idle := h.1.2 none
        have shade := h.2
        simp only [idle] at shade
        simpa using shade
      simp [DarkGood, put_ne_empty, dim]
    · exact DarkGood.entered (put_ne_empty _ _) _
  next some =>
    have awake : x.1.state ≠ .idle := fun idle => some (h.1.1 idle)
    exact ⟨by simp [awake, put_ne_empty], h.2⟩

theorem DarkGood.released {x : DarkPart} (h : DarkGood x) (awake : x.2.1 ≠ .empty) (rest : SourceSet) (cause : EndCause) :
    DarkGood (released rest cause x) := by
  unfold Machine.released
  dsimp only
  split
  · simp [DarkGood]
  next some => exact ⟨by simp [some, mt h.1.1 awake], h.2⟩

theorem DarkGood.left {x : DarkPart} (h : DarkGood x) (i : Source) (cause : EndCause) : DarkGood (left i cause x) := by
  unfold Machine.left
  split
  next held => exact h.released (ne_empty_of_has held) _ _
  · exact h

/-- A share stays in agreement while its state, its source set and SHADE stay. -/
theorem DarkGood.of_eq {x y : DarkPart} (h : DarkGood x) (state : y.1.state = x.1.state) (rest : y.2 = x.2) : DarkGood y := by
  unfold DarkGood
  rw [state, rest]
  exact h

/-- A share stays in agreement while it moves between DARKENING and DARK. -/
theorem DarkGood.of_lit {x y : DarkPart} (h : DarkGood x) (was : x.1.state = .darkening)
    (is : y.1.state = .darkening ∨ y.1.state = .dark) (rest : y.2 = x.2) : DarkGood y := by
  obtain ⟨idle, shade⟩ := h
  have held : x.2.1 ≠ .empty := by simpa [was] using mt idle.2
  have on : x.2.2 = true := shade.2 (.inl was)
  unfold DarkGood
  rw [rest]
  rcases is with is | is <;> simp [is, held, on]

theorem DarkGood.coursed {x : DarkPart} (h : DarkGood x) : DarkGood (coursed x) := by
  unfold Machine.coursed
  dsimp only
  split
  next => exact h
  next armed =>
    split
    · exact DarkGood.entered (mt h.1.2 (by simp [armed])) _
    · exact h.of_eq rfl rfl
  next darkening =>
    refine h.of_lit darkening ?_ rfl
    split_ifs <;> simp [darkening]
  next dark =>
    refine h.of_eq ?_ rfl
    split <;> rfl

theorem DarkGood.secondPassed {x : DarkPart} (h : DarkGood x) (at_ : SecondStamp) : DarkGood (secondPassed at_ x) := by
  have counted (n : Nat) : DarkGood ({ (Machine.coursed x).1 with hardLux := n }, (Machine.coursed x).2) :=
    h.coursed.of_eq rfl rfl
  unfold Machine.secondPassed
  dsimp only
  generalize (glares x.1 && decide (59 ≤ x.1.hardLux)) = reached
  cases reached
  · exact (counted 0).of_eq rfl rfl
  · exact ((counted 0).joined at_ .hardLux false).of_eq rfl rfl

theorem DarkGood.consDarkened {x : DarkPart} (h : DarkGood x) (at_ : SecondStamp) (immediate : Bool) :
    DarkGood (consDarkened at_ immediate x) := by
  unfold Machine.consDarkened
  dsimp only
  have joins : DarkGood (if x.2.1.conservationReq = true then x else Machine.joined at_ .conservationReq immediate x) := by
    split
    · exact h
    · exact h.joined _ _ _
  split
  next armed =>
    refine DarkGood.entered ?_ _
    simp only [Bool.and_eq_true, beq_iff_eq] at armed
    have held : x.2.1 ≠ .empty := mt h.1.2 (by simp [armed.2])
    split
    · exact held
    · unfold Machine.joined
      simp [held, put_ne_empty]
  next => exact joins

theorem DarkGood.consReleased {x : DarkPart} (h : DarkGood x) : DarkGood (consReleased x) := by
  unfold Machine.consReleased
  split
  · exact h
  next held => exact (h.released held .empty .conservationRelease).of_eq rfl rfl

/-! ## While the controller runs -/

/-- The part runs and every gallery's share agrees. -/
def DarkRun (s : State) : Prop := s.phase = .running ∧ ∀ g, DarkGood (darkOf s g)

theorem darkRun_own (s : State) : DarkRun s ↔ DarkRun (s.own .darkening) := Iff.rfl

theorem darkInv_own (s : State) : DarkInv s ↔ DarkInv (s.own .darkening) := by
  simp only [DarkInv, ready_own, phase_own]
  exact Iff.rfl

theorem DarkInv.run {s : State} (h : DarkInv s) (ready : Ready s .darkening) : DarkRun s := ⟨ready.1, h.1 ready⟩

theorem DarkRun.inv {s : State} (h : DarkRun s) : DarkInv s :=
  ⟨fun _ => h.2, fun held => by simp [h.1] at held, fun off => by simp [h.1] at off⟩

theorem DarkRun.made {s t : State} (h : DarkRun s) {φ : Gallery → DarkPart → DarkPart}
    {news : Gallery → DarkPart → List Instr} (made : darkSlice.Made s t φ news) (good : ∀ g x, DarkGood x → DarkGood (φ g x)) :
    DarkRun t where
  left := (congrArg State.phase made.around).trans h.1
  right g := by
    have part : darkOf t g = φ g (darkOf s g) := made.part g
    rw [part]
    exact good g _ (h.2 g)

theorem DarkRun.request {act : Gallery → State → State × Bool} {φ : Slice.Edit DarkPart} {m : DarkPart → Bool}
    {news : Slice.News DarkPart} (marks : darkSlice.Marks act φ m news) (good : ∀ s g x, DarkGood x → DarkGood (φ s g x))
    {s : State} (h : DarkRun s) (b : BitVec 3) : DarkRun (Slice.onNamed b (fun g s => (act g s).1) s) := by
  refine h.made (marks.acts.onNamed b s) fun g x hx => ?_
  unfold Slice.named
  split
  · exact good s g x hx
  · exact hx

theorem DarkRun.darkRequest {act : Gallery → State → State × Bool} {φ : Slice.Edit DarkPart} {m : DarkPart → Bool}
    {news : Slice.News DarkPart} (marks : darkSlice.Marks act φ m news) (good : ∀ s g x, DarkGood x → DarkGood (φ s g x))
    {s : State} (h : DarkRun s) (q : Req) (unchanged : Result) (keep : Bool) :
    DarkRun (darkRequest q s act unchanged keep).1 := by
  rw [darkRequest_eq marks]
  exact h.request marks good q.gallery

theorem DarkRun.darkMark {s t : State} (hs : DarkRun s) {m : SecondStamp} (h : darkMark m s = .next t) : DarkRun t :=
  deliver_keeps darkRun_own hs
    (fun s _ hs => hs.made (darkSecond_acts.forGalleries s) fun _ _ hx => hx.secondPassed _) h

theorem DarkRun.setDark {s : State} (h : DarkRun s) (g : Gallery) {r : DarkRec} (state : r.state = (s.darkRec g).state) :
    DarkRun (s.setDark g r) where
  left := h.1
  right i := by
    by_cases e : i = g
    · subst e
      refine (h.2 i).of_eq ?_ rfl
      simpa [darkOf] using state
    · have other := h.2 i
      simpa [darkOf, e] using other

theorem DarkRun.rise {s : State} (h : DarkRun s) (x : Trigger) : DarkRun (s.rise x) := by
  refine h.made (rise_made s x) fun g y hy => ?_
  split
  · exact hy.joined _ _ _
  · exact hy

theorem DarkRun.fall {s : State} (h : DarkRun s) (x : Trigger) : DarkRun (s.fall x) := by
  refine h.made (fall_made s x) fun g y hy => ?_
  split
  · exact hy.left _ _
  · exact hy

/-- What the darkening controller does with a command keeps the agreement. -/
theorem darkRun_taken {c : Instr} {s t : State} (hb : blockOf c = some .darkening) (hs : DarkRun s)
    (h : exec c s = .next t) : DarkRun t := by
  have marked {m : SecondStamp} {p : Bool} (h : onlyWhen p s (darkMark m s) = .next t) : DarkRun t :=
    onlyWhen_keeps hs hs.darkMark h
  cases c <;> cases hb <;> dsimp only [exec] at h
  case secondMarkAtDarkening.refl => exact hs.darkMark h
  case delayExpiry.refl => exact marked h
  case timeToDarkExpiry.refl => exact marked h
  case heldMinute.refl => exact marked h
  case hardLuxCountExpiry.refl => exact marked h
  case trackedUpdateAtDarkening.refl u =>
    refine deliver_keeps darkRun_own hs (fun s _ hs => ?_) h
    dsimp only
    split
    · exact hs.setDark _ rfl
    · exact hs
  case envelopeChangedAtDarkening.refl e =>
    refine deliver_keeps darkRun_own hs (fun s _ hs => ?_) h
    exact hs.setDark _ rfl
  case exhaustionChangeNotice.refl g yes =>
    refine deliver_keeps darkRun_own hs (fun s _ hs => hs.made ((exhaustJoins_acts yes).one g s) fun i x hx => ?_) h
    split_ifs
    · exact hx.joined _ _ _
    · exact hx
    · exact hx.left _ _
    · exact hx
  case presenceNoticeAtDarkening.refl p =>
    refine deliver_keeps darkRun_own hs (fun s _ hs => ?_) h
    cases p with
    | absent =>
      refine hs.made (silenceJoins_acts.forGalleries s) fun g x hx => ?_
      split
      · exact hx.joined _ _ _
      · exact hx
    | present => exact hs.made ((leave_acts .lightSilence .lightingPresent).forGalleries s) fun g x hx => hx.left _ _
    | unknown => exact hs
  case lightingDarken.refl q =>
    refine request_keeps darkRun_own hs (fun s _ hs => hs.darkRequest lightDarken_marks (fun s g x hx => ?_) q _ _) h
    split
    · exact hx
    · exact hx.joined _ _ _
  case lightingRelease.refl q =>
    exact request_keeps darkRun_own hs
      (fun s _ hs => hs.darkRequest lightRelease_marks (fun s g x hx => hx.left _ _) q _ _) h
  case conservationDarken.refl q =>
    refine request_keeps darkRun_own hs (fun s _ hs => ?_) h
    split
    · exact hs
    · exact hs.darkRequest (consDarken_marks _) (fun s g x hx => hx.consDarkened _ _) q _ _
  case conservationRelease.refl q =>
    refine request_keeps (act := releaseTaken q) darkRun_own hs (fun s _ hs => ?_) h
    rw [consRelease_eq]
    exact hs.request consRelease_marks (fun s g x hx => hx.consReleased) q.gallery
  case triggerSetup.refl q =>
    refine request_keeps darkRun_own hs (fun s _ hs => ?_) h
    split
    · exact hs
    · split <;> exact hs

/-! ## What a start finds -/

theorem startState_eq_begun (s : State) (c : Chan) : s.startState c = begun s c := by
  unfold State.startState begun
  cases (s.cfg c).enabled <;> simp

theorem openAtStart_eq (s : State) (g : Gallery) (y : ExcType) :
    s.openAtStart g y = s.ret.log.pool.any fun e => e.g == g && e.type == y && e.closed == none := by
  refine congrArg (s.ret.log.pool.any ·) (funext fun e => ?_)
  cases closed : e.closed <;> simp [isOpenOf, Entry.isOpen, closed]
  rfl

theorem activeAtStart_eq_foundActive (s : State) (g : Gallery) (y : ExcType) : s.activeAtStart g y = foundActive s g y := by
  simp only [State.activeAtStart, foundActive, openAtStart_eq, List.contains_iff_mem]

theorem infoStamp_eq_beganAt (i : StartInfo) : infoStamp i = beganAt i := by
  simp only [infoStamp, beganAt, Nat.mul_comm]

theorem darkRecStart_eq_darkBegun (s : State) (g : Gallery) (b : Bool) :
    DarkRec.start (s.startState ⟨g, .lux⟩) (s.active g) b = darkBegun s g b := by
  rw [startState_eq_begun]
  rfl

/-! ## Starts of the controller -/

/-- A trigger input fell while the part was held (R168). -/
def fellHeld (s : State) (x : Trigger) : Bool := (s.ret.triggers.get x).autoRelease && !(s.trigger.get x)

/-- The sources a warm start keeps of a gallery's set (R168). -/
def keptSources (s : State) (x : SourceSet) : SourceSet :=
  { x with inputA := x.inputA && !fellHeld s .a, inputB := x.inputB && !fellHeld s .b }

theorem dropFallen_eq (s : State) (x : SourceSet) : s.dropFallen .b (s.dropFallen .a x) = keptSources s x := by
  simp only [State.dropFallen, keptSources, fellHeld]
  cases (s.ret.triggers.get .a).autoRelease <;> cases (s.ret.triggers.get .b).autoRelease <;>
    cases s.trigger.get .a <;> cases s.trigger.get .b <;> simp [SourceSet.put, inputSource]

/-- What the darkening controller sends of a gallery at a warm start (R168, R169). -/
def redarkenNews (s : State) (g : Gallery) (x : DarkPart) : List Instr :=
  let set := keptSources s x.2.1
  if set = .empty then darkNotices g false
  else enterNews s g (darkBegun s g (foundActive s g .luxHard)) ++ darkNotices g true

theorem warmDark_acts (i : StartInfo) : darkSlice.Acts (State.warmDark i)
    (fun s g x => redarkenedBy s i g (keptSources s x.2.1)) redarkenNews := by
  refine .of_at (fun s g x l => ?_)
    (fun e => (congrArg (fun u g (x : DarkPart) => redarkenedBy u i g (keptSources u x.2.1)) e :))
    (fun e => (congrArg redarkenNews e :))
  have rec_ : DarkRec.start ((darkSlice.at_ s g x l).startState ⟨g, .lux⟩) ((darkSlice.at_ s g x l).active g)
      ((darkSlice.at_ s g x l).activeAtStart g .luxHard) = darkBegun s g (foundActive s g .luxHard) := by
    rw [darkRecStart_eq_darkBegun, activeAtStart_eq_foundActive]
    rfl
  have set : (darkSlice.at_ s g x l).dropFallen .b ((darkSlice.at_ s g x l).dropFallen .a x.2.1) = keptSources s x.2.1 :=
    dropFallen_eq _ _
  unfold State.warmDark
  simp only [sources_at, rec_, set, SourceSet.isEmpty, beq_iff_eq]
  by_cases none : keptSources s x.2.1 = .empty
  · simp [none, redarkenedBy, redarkenNews]
  · simp only [none, if_false, setSources_at, setDark_at, enterDarkening_at, sendDarkState_at, redarkenedBy, redarkenNews,
      List.append_assoc]
    simp only [redarkened, infoStamp_eq_beganAt, entered]
    rfl

theorem coldDark_acts : darkSlice.Acts State.coldDark (fun s g _ => (darkBegun s g false, .empty, false))
    (fun _ g _ => darkNotices g false) := by
  refine .of_at (fun s g x l => ?_) (fun e => (congrArg (fun u g (_ : DarkPart) => (darkBegun u g false, SourceSet.empty, false)) e :))
    (fun _ => rfl)
  have rec_ (y : DarkPart) : DarkRec.start ((darkSlice.at_ s g y l).startState ⟨g, .lux⟩) ((darkSlice.at_ s g y l).active g)
      false = darkBegun s g false := darkRecStart_eq_darkBegun _ g false
  unfold State.coldDark
  simp only [setSources_at, rec_, setDark_at, setShade_at, sendDarkState_at]

theorem darkGood_redarkened (s : State) (i : StartInfo) (g : Gallery) (x : SourceSet) : DarkGood (redarkenedBy s i g x) := by
  unfold redarkenedBy
  dsimp only
  split
  next none => simp [DarkGood, darkBegun, none]
  next held => exact DarkGood.entered held 0

/-- What a start of the darkening controller makes of the shares (R167 to R169). -/
theorem startDarkening_made (s : State) (i : StartInfo) :
    let u : State := match i.kind with
      | .cold => (s.setTriggerCfg .a ⟨0, false, false⟩).setTriggerCfg .b ⟨0, false, false⟩
      | .warm => s
    darkSlice.Made u (s.startDarkening i)
      (fun g x => match i.kind with
        | .cold => (darkBegun s g false, .empty, false)
        | .warm => redarkenedBy s i g (keptSources s x.2.1))
      (fun g x => match i.kind with
        | .cold => darkNotices g false
        | .warm => redarkenNews s g x) := by
  unfold State.startDarkening
  cases i.kind
  · exact coldDark_acts.forGalleries ((s.setTriggerCfg .a ⟨0, false, false⟩).setTriggerCfg .b ⟨0, false, false⟩)
  · exact (warmDark_acts i).forGalleries s

theorem darkRun_started {s : State} (h : DarkRun s) (b : Block) : DarkRun (s.started b) := by
  unfold State.started
  dsimp only
  split <;> exact h

theorem darkRun_start {s : State} (running : s.phase = .running) (i : StartInfo) :
    DarkRun (((s.starting .darkening).startBlock .darkening i).started .darkening) := by
  refine darkRun_started ?_ .darkening
  have made := startDarkening_made (s.starting .darkening) i
  have phase := congrArg State.phase made.around
  refine ⟨?_, fun g => ?_⟩
  · refine Eq.trans ?_ ((phase_starting s .darkening).trans running)
    refine phase.trans ?_
    cases i.kind <;> rfl
  · show DarkGood (darkSlice.part ((s.starting .darkening).startDarkening i) g)
    rw [made.part g]
    cases i.kind
    · simp [DarkGood, darkBegun]
    · exact darkGood_redarkened _ _ _ _

/-- Settles O8: the darkening controller keeps each gallery's share in agreement, no other block touches the shares, and the
losses and starts set SHADE by the source sets. -/
theorem darkeningKept : Obligations.DarkeningKept := by
  intro s t hs h
  refine step_keeps_own (o := .darkening) (by simp) (by simp) darkInv_own (fun hb ready hs h => (darkRun_taken hb (hs.run ready) h).inv)
    (fun _ s x ready hs => ((hs.run ready).rise x).inv) (fun _ s x ready hs => ((hs.run ready).fall x).inv)
    (fun e => by cases e) (fun {s} b i e running hs => ?starts) (fun {s} last off hs => ?warms) (fun {s} off hs => ?colds)
    (fun {s} hs => ?unpowers) (fun {s} hs => ?holds) hs h
  case starts =>
    have same : b = .darkening := by cases b <;> simp_all [startOwner]
    subst same
    exact (darkRun_start running i).inv
  case warms =>
    exact ⟨fun ready => absurd ready (not_ready_beginStart _ _ _ _), by simp [phase_beginStart], by simp [phase_beginStart]⟩
  case colds =>
    exact ⟨fun ready => absurd ready (not_ready_beginStart _ _ _ _), by simp [phase_beginStart], by simp [phase_beginStart]⟩
  case unpowers => exact ⟨fun ready => Phase.noConfusion ready.1, Phase.noConfusion, fun _ g => PerGallery.get_all _ _⟩
  case holds =>
    refine ⟨fun ready => Phase.noConfusion ready.1, fun _ g => ?_, Phase.noConfusion⟩
    simp [SourceSet.isEmpty, State.lose, State.sources]

end Sys2Proof.Machine
end

section
/-! SUPPORT. The light account unit's actions on one gallery, as what they make of its account and its light record and what
they send (R74 to R108). -/

namespace Sys2Proof.Machine
open Sys2Proof

/-- What the light account unit holds of a gallery. -/
abbrev LightPart := Account × LightRec

/-- The light account unit's share of a gallery, with what stands around the shares. -/
def lightSlice : Slice LightPart where
  part s g := (s.account g, s.lightRec g)
  put s g x := (s.setAccount g x.1).setLight g x.2
  around s := { s with
    light := .all default, ret := { s.ret with accounts := .all default }, inFlight := [], checkCode := 0 }
  part_put s g a h := by by_cases e : h = g <;> simp [State.account, State.lightRec, PerGallery.get_set, e]
  part_sendAll _ _ := rfl
  part_take _ _ := rfl
  part_seal _ := rfl
  around_put _ _ _ := rfl
  around_sendAll _ _ := rfl
  around_take _ _ := rfl
  around_seal _ := rfl
  put_inFlight _ _ _ := rfl
  put_put s g a b := by simp [State.setAccount, State.setLight, PerGallery.set_set]
  put_part s g := by simp [State.setAccount, State.setLight, State.account, State.lightRec, PerGallery.set_get_self]
  put_sendAll _ _ _ _ := rfl
  put_startComplete _ _ _ := rfl

@[simp] theorem lightSlice_part (s : State) (g : Gallery) : lightSlice.part s g = (s.account g, s.lightRec g) := rfl

/-! ## The pure actions -/

/-- Exhaustion re-evaluated (R84). -/
def reevaluated (x : LightPart) : LightPart := ({ x.1 with exhausted := overBudget x.1 x.2.env }, x.2)

/-- DOSE_SHORT after a judgement (R106). -/
def shortAfter (a : Account) (lmin : Nat) (quot : Option Nat) : Bool :=
  match quot with
  | some n => decide (n < lmin)
  | none => a.doseShort && !a.exhausted

/-- The allowance fields recomputed (R98). -/
def recomputedRec (c : Clock) (a : Account) (r : LightRec) : LightRec :=
  let hrem := hremOf a r.env (hourOf c) c.weekday
  let quot := quotOf a r.env hrem
  let ap := allowanceOf r.dark a.exhausted (isOpen (scheduleOf r.env) c.weekday (hourOf c)) a.period.isSome r.lState quot r.env
  { r with hrem := hrem, quot := quot, allowance := ap.1, pace := ap.2, declared := lowerDeclared r.declared ap.1 }

/-- The share after a recomputation (R98, R106). -/
def recomputed (c : Clock) (x : LightPart) : LightPart :=
  let r := recomputedRec c x.1 x.2
  ({ x.1 with doseShort := shortAfter x.1 x.2.env.lmin r.quot }, r)

/-- What a recomputation of a share sends. -/
def recomputedNews (s : State) (g : Gallery) (x : LightPart) : List Instr :=
  recomputeNews s g x.2 (recomputed s.clock x).2 x.1.doseShort x.1.exhausted

section
variable (s : State) (g : Gallery) (x : LightPart) (l : List Instr)

@[simp] theorem account_at : (lightSlice.at_ s g x l).account g = x.1 := PerGallery.get_set_self _ _ _

@[simp] theorem lightRec_at : (lightSlice.at_ s g x l).lightRec g = x.2 := PerGallery.get_set_self _ _ _

@[simp] theorem clock_at_light : (lightSlice.at_ s g x l).clock = s.clock := rfl

@[simp] theorem setLight_at (r : LightRec) : (lightSlice.at_ s g x l).setLight g r = lightSlice.at_ s g (x.1, r) l :=
  congrArg (fun t : PerGallery LightRec => { lightSlice.at_ s g x l with light := t }) (PerGallery.set_set _ _ _ _)

@[simp] theorem setAccount_at (a : Account) : (lightSlice.at_ s g x l).setAccount g a = lightSlice.at_ s g (a, x.2) l :=
  congrArg (fun t => { lightSlice.at_ s g x l with ret := { (lightSlice.at_ s g x l).ret with accounts := t } })
    (PerGallery.set_set _ _ _ _)

/-- Re-evaluation of exhaustion (R84 to R87). -/
@[simp] theorem reevalExhausted_at :
    (lightSlice.at_ s g x l).reevalExhausted g = lightSlice.at_ s g (reevaluated x) (l ++ exhaustNews g x.1 x.2.env) := by
  have cond : isExhausted x.1 x.2.env = overBudget x.1 x.2.env := rfl
  unfold State.reevalExhausted
  by_cases stands : overBudget x.1 x.2.env = x.1.exhausted
  · have same : reevaluated x = x := by simp [reevaluated, stands]
    simp [cond, stands, exhaustNews, same]
  · cases now : overBudget x.1 x.2.env <;> rw [now] at stands <;>
      simp [cond, stands, now, exhaustNews, reevaluated]
    rfl

/-- Judgement of DOSE_SHORT (R106). -/
theorem judgeDoseShort_at (quot : Option Nat) :
    (lightSlice.at_ s g x l).judgeDoseShort g quot =
      lightSlice.at_ s g ({ x.1 with doseShort := shortAfter x.1 x.2.env.lmin quot }, x.2) (l ++
        match quot with
        | some n =>
          judgeNotice g .doseShort x.1.doseShort (decide (n < x.2.env.lmin)) (decide (x.2.env.lmin ≤ n)) x.2.env.lmin n
        | none => if x.1.doseShort && x.1.exhausted then [.closeNotice g .doseShort] else []) := by
  obtain ⟨⟨period, used, carry, hourAcc, exhausted, lastUsed, stamp, schedule, lSub, darkened, begun, uvHigh, short, luxOver⟩, r⟩ := x
  cases quot with
  | none => cases short <;> cases exhausted <;> simp [State.judgeDoseShort, shortAfter]
  | some n =>
    by_cases low : n < r.env.lmin
    · cases short <;> simp [State.judgeDoseShort, shortAfter, judgeNotice, low, Nat.not_le.2 low]
    · cases short <;> simp [State.judgeDoseShort, shortAfter, judgeNotice, low, Nat.not_lt.1 low]

/-- A recomputation (R98). -/
@[simp] theorem recompute_at :
    (lightSlice.at_ s g x l).recompute g = lightSlice.at_ s g (recomputed s.clock x) (l ++ recomputedNews s g x) := by
  unfold State.recompute
  simp only [account_at, lightRec_at, clock_at_light, setLight_at, judgeDoseShort_at]
  by_cases same : (recomputed s.clock x).2.allowance = x.2.allowance ∧ (recomputed s.clock x).2.pace = x.2.pace
  · refine (if_pos same).trans ?_
    rw [recomputedNews, recomputeNews, if_pos same, List.append_nil]
    rfl
  · refine (if_neg same).trans ?_
    rw [Slice.attend_at, recomputedNews, recomputeNews, if_neg same, List.append_assoc]
    rfl

end

/-! ## The second mark -/

/-- A second's accrual from the inputs of R74 and R75 (R76). -/
def accrued (x : LightPart) : LightPart :=
  ({ x.1 with
    hourAcc := min 943704000 (x.1.hourAcc + (inputOf x.2).1 * factorOf x.2 / 256), lSub := x.1.lSub || (inputOf x.2).2 }, x.2)

/-- Exhaustion re-evaluated, and the allowance recomputed when the flag changes (R84 to R86). -/
def settled (c : Clock) (x : LightPart) : LightPart :=
  if overBudget x.1 x.2.env = x.1.exhausted then x else recomputed c (reevaluated x)

/-- What that sends. -/
def settledNews (s : State) (g : Gallery) (x : LightPart) : List Instr :=
  exhaustNews g x.1 x.2.env ++
    if overBudget x.1 x.2.env = x.1.exhausted then [] else recomputedNews s g (reevaluated x)

/-- The stamp is rebased at this second: the day has changed and the hour has not (R76, R108). -/
def rebases (c : Clock) (a : Account) : Bool := a.stamp.hour = hourOf c && a.stamp.day ≠ c.day

/-- The account with its stamp on the clock's day (R108). -/
def restamped (c : Clock) (x : LightPart) : LightPart :=
  ({ x.1 with stamp := ⟨c.day, c.weekday, x.1.stamp.hour⟩ }, x.2)

/-- The rebase after a SET DATE (R108). -/
def rebased (c : Clock) (x : LightPart) : LightPart := if rebases c x.1 then recomputed c (restamped c x) else x

/-- What it sends. -/
def rebasedNews (s : State) (g : Gallery) (x : LightPart) : List Instr :=
  if rebases s.clock x.1 then recomputedNews s g (restamped s.clock x) else []

/-- The over-counter after a second of input `l` (R103). -/
def overCounted (l : Nat) (r : LightRec) : Nat :=
  if r.dark then 0 else if 10 * (r.allowance + r.env.lmax / 8) < l then min 120 (r.overCount + 1) else 0

/-- The over-counter stepped and LUX_OVER judged (R103, R104). -/
def overJudged (l : Nat) (x : LightPart) : LightPart :=
  ({ x.1 with
    luxOver := if x.1.luxOver then decide (10 * x.2.allowance < l)
      else decide (overCounted l x.2 = 120 ∧ x.2.overCount < 120) },
    { x.2 with overCount := overCounted l x.2 })

/-- What that sends. -/
def overNews (g : Gallery) (l : Nat) (x : LightPart) : List Instr :=
  judgeNotice g .luxOver x.1.luxOver (decide (overCounted l x.2 = 120 ∧ x.2.overCount < 120))
    (decide (l ≤ 10 * x.2.allowance)) (10 * (x.2.allowance + x.2.env.lmax / 8)) l

/-- The share after a second mark (R74 to R76, R84, R103, R104, R108). -/
def lightSecondPassed (c : Clock) (x : LightPart) : LightPart :=
  overJudged (inputOf x.2).1 (rebased c (settled c (accrued x)))

/-- What a second mark sends. -/
def lightSecondNews (s : State) (g : Gallery) (x : LightPart) : List Instr :=
  settledNews s g (accrued x) ++ rebasedNews s g (settled s.clock (accrued x)) ++
    overNews g (inputOf x.2).1 (rebased s.clock (settled s.clock (accrued x)))

theorem illuminanceInput_eq (r : LightRec) : illuminanceInput r.lState r.lCode r.allowance = inputOf r := by
  unfold illuminanceInput inputOf
  cases st : r.lState with
  | fault cause => cases cause <;> cases r.lCode <;> simp
  | _ => cases r.lCode <;> simp

theorem uvFactor_eq (r : LightRec) : uvFactor r.uState r.uCode r.env.uref = factorOf r := by
  unfold uvFactor factorOf
  cases st : r.uState <;> cases r.uCode <;> simp

section
variable (s : State) (g : Gallery) (x : LightPart) (l : List Instr)

@[simp] theorem reevalAndRecompute_at :
    (lightSlice.at_ s g x l).reevalAndRecompute g = lightSlice.at_ s g (settled s.clock x) (l ++ settledNews s g x) := by
  unfold State.reevalAndRecompute
  simp only [reevalExhausted_at, account_at, recompute_at]
  by_cases stands : overBudget x.1 x.2.env = x.1.exhausted
  · have same : reevaluated x = x := by simp [reevaluated, stands]
    simp [stands, same, settled, settledNews]
  · refine (if_neg stands).trans ?_
    simp [stands, settled, settledNews]

@[simp] theorem rebase_at :
    (lightSlice.at_ s g x l).rebase g = lightSlice.at_ s g (rebased s.clock x) (l ++ rebasedNews s g x) := by
  unfold State.rebase
  simp only [account_at, clock_at_light, setAccount_at, recompute_at, rebased, rebasedNews, rebases, restamped,
    Bool.and_eq_true, decide_eq_true_eq, eq_comm (a := x.1.stamp.hour), ne_comm (a := x.1.stamp.day)]
  split <;> simp

@[simp] theorem judgeOver_at (lux : Nat) :
    (lightSlice.at_ s g x l).judgeOver g lux = lightSlice.at_ s g (overJudged lux x) (l ++ overNews g lux x) := by
  have counted : (if x.2.dark = true then 0 else if overThreshold x.2 < lux then min (x.2.overCount + 1) 120 else 0) =
      overCounted lux x.2 := by
    simp only [overCounted, overThreshold, Nat.min_comm]
    rfl
  obtain ⟨⟨period, used, carry, hourAcc, exhausted, lastUsed, stamp, schedule, lSub, darkened, begun, uvHigh, short, isOver⟩, r⟩ := x
  unfold State.judgeOver
  simp only [account_at, lightRec_at, setLight_at, setAccount_at, Slice.send_at, overJudged, overNews, judgeNotice] at counted ⊢
  simp only [counted]
  cases isOver with
  | true =>
    by_cases low : lux ≤ 10 * r.allowance
    · simp [low, Nat.not_lt.2 low]
    · simp [low, Nat.lt_of_not_le low]
  | false =>
    by_cases opens : overCounted lux r = 120 ∧ r.overCount < 120
    · simp [opens, overThreshold]
    · simp [opens]

/-- A second mark at one gallery. -/
theorem lightSecond_at : (lightSlice.at_ s g x l).lightSecond g =
    lightSlice.at_ s g (lightSecondPassed s.clock x) (l ++ lightSecondNews s g x) := by
  unfold State.lightSecond
  simp only [account_at, lightRec_at, illuminanceInput_eq, uvFactor_eq, setAccount_at]
  have accrues : (x.1.accrue (inputOf x.2).1 (factorOf x.2) (inputOf x.2).2, x.2) = accrued x := by
    simp only [Account.accrue, accrued, maxHourAcc, Nat.min_comm]
  simp only [accrues, reevalAndRecompute_at, rebase_at, judgeOver_at, lightSecondPassed, lightSecondNews, List.append_assoc]

end

/-! ## The hour mark -/

/-- The fold of an hour (R77). -/
def folded (x : LightPart) : LightPart := (x.1.fold, x.2)

/-- What it sends (R77, R78, R87). -/
def foldedNews (g : Gallery) (st : HourStamp) (changed gap : Bool) (x : LightPart) : List Instr :=
  [.hourCloseNotice ⟨g, st.day, st.hour, x.1.folded, closeFlags x.1 st changed gap⟩] ++
    if x.1.exhausted then [.valueNotice g .doseExhausted (doseValue x.1.fold)] else []

/-- A budget period begun, less the re-evaluation of exhaustion (R82). -/
def begunPeriod (x : LightPart) : LightPart :=
  ({ x.1 with
    lastUsed := if x.1.period.isSome then some x.1.used else x.1.lastUsed, used := 0, carry := 0, period := some 0 },
    { x.2 with startPending := false })

/-- A rollover of the budget period, less the re-evaluation of exhaustion (R83). -/
def rolledOver (x : LightPart) : LightPart :=
  ({ x.1 with lastUsed := some x.1.used, used := 0, carry := 0, period := some 0 }, x.2)

/-- A day step (R83). -/
def dayStepped (x : LightPart) : LightPart :=
  match x.1.period with
  | none => x
  | some d => if d + 1 < x.2.env.period then ({ x.1 with period := some (d + 1) }, x.2) else reevaluated (rolledOver x)

/-- What a day step sends. -/
def dayNews (g : Gallery) (x : LightPart) : List Instr :=
  match x.1.period with
  | none => []
  | some d => if d + 1 < x.2.env.period then [] else exhaustNews g (rolledOver x).1 x.2.env

/-- The hour state renewed (R79). -/
def renewed (st : HourStamp) (dark changed : Bool) (x : LightPart) : LightPart :=
  ({ x.1 with stamp := st, schedule := scheduleOf x.2.env, lSub := false, darkened := dark, begunByChange := changed }, x.2)

/-- A pending start, a day step, or neither (R79, R82, R83). -/
def periodTurned (dayFlag : Bool) (x : LightPart) : LightPart :=
  if x.2.startPending then reevaluated (begunPeriod x) else if dayFlag then dayStepped x else x

/-- What that sends. -/
def periodNews (g : Gallery) (dayFlag : Bool) (x : LightPart) : List Instr :=
  if x.2.startPending then exhaustNews g (begunPeriod x).1 x.2.env else if dayFlag then dayNews g x else []

/-- The share after an hour mark (R79). -/
def lightHourPassed (m : HourMark) (c : Clock) (x : LightPart) : LightPart :=
  recomputed c (renewed m.beginning x.2.dark m.clockChanged (periodTurned m.dayFlag (folded x)))

/-- What an hour mark sends. -/
def lightHourNews (m : HourMark) (s : State) (g : Gallery) (x : LightPart) : List Instr :=
  foldedNews g m.ending m.clockChanged false x ++ periodNews g m.dayFlag (folded x) ++
    recomputedNews s g (renewed m.beginning x.2.dark m.clockChanged (periodTurned m.dayFlag (folded x)))

theorem dark_periodTurned (dayFlag : Bool) (x : LightPart) : (periodTurned dayFlag x).2.dark = x.2.dark := by
  unfold periodTurned dayStepped
  (repeat' split) <;> rfl

section
variable (s : State) (g : Gallery) (x : LightPart) (l : List Instr)

@[simp] theorem foldHour_at (st : HourStamp) (changed gap : Bool) :
    (lightSlice.at_ s g x l).foldHour g st changed gap =
      lightSlice.at_ s g (folded x) (l ++ foldedNews g st changed gap x) := by
  cases spent : x.1.exhausted <;> simp [State.foldHour, folded, foldedNews, spent]

@[simp] theorem beginPeriod_at : (lightSlice.at_ s g x l).beginPeriod g =
    lightSlice.at_ s g (reevaluated (begunPeriod x)) (l ++ exhaustNews g (begunPeriod x).1 x.2.env) := by
  simp [State.beginPeriod]
  rfl

@[simp] theorem dayStep_at :
    (lightSlice.at_ s g x l).dayStep g = lightSlice.at_ s g (dayStepped x) (l ++ dayNews g x) := by
  unfold State.dayStep dayStepped dayNews
  simp only [account_at, lightRec_at, setAccount_at, reevalExhausted_at]
  cases x.1.period with
  | none => simp
  | some d =>
    dsimp only
    split
    · simp
    · rfl

@[simp] theorem renewHour_at (st : HourStamp) (dark changed : Bool) :
    (lightSlice.at_ s g x l).renewHour g st dark changed = lightSlice.at_ s g (renewed st dark changed x) l := by
  simp [State.renewHour, renewed]

/-- An hour mark at one gallery. -/
theorem lightHour_at (m : HourMark) : (lightSlice.at_ s g x l).lightHour m g =
    lightSlice.at_ s g (lightHourPassed m s.clock x) (l ++ lightHourNews m s g x) := by
  have turned (l : List Instr) : (if ((lightSlice.at_ s g (folded x) l).lightRec g).startPending = true
      then (lightSlice.at_ s g (folded x) l).beginPeriod g
      else if m.dayFlag = true then (lightSlice.at_ s g (folded x) l).dayStep g else lightSlice.at_ s g (folded x) l) =
      lightSlice.at_ s g (periodTurned m.dayFlag (folded x)) (l ++ periodNews g m.dayFlag (folded x)) := by
    unfold periodTurned periodNews
    simp only [lightRec_at]
    split_ifs <;> simp
  unfold State.lightHour
  dsimp only
  rw [foldHour_at, turned, lightRec_at, renewHour_at, recompute_at, dark_periodTurned]
  simp only [lightHourPassed, lightHourNews, List.append_assoc]
  rfl

end

/-! ## The kept copies -/

/-- UV_HIGH after a judgement on a kept code (R88). -/
def uvAfter (flag : Bool) (code : Option Nat) (du uref : Nat) : Bool :=
  match code with
  | some u => if flag then decide (uref - du < u) else decide (uref < u)
  | none => flag

/-- UV_HIGH judged on the kept code (R88). -/
def uvJudged (x : LightPart) : LightPart :=
  ({ x.1 with uvHigh := uvAfter x.1.uvHigh x.2.uCode x.2.uDu x.2.env.uref }, x.2)

/-- The kept state of an L channel takes a state (R107). -/
def lKept (c : Clock) (st : ChanState) (x : LightPart) : LightPart :=
  let y : LightPart := (x.1, { x.2 with lState := st })
  if (x.2.lState = .disabled) = (st = .disabled) then y else recomputed c y

/-- What that sends. -/
def lKeptNews (s : State) (g : Gallery) (st : ChanState) (x : LightPart) : List Instr :=
  if (x.2.lState = .disabled) = (st = .disabled) then [] else recomputedNews s g (x.1, { x.2 with lState := st })

/-- The hour schedule renewed when the unit has folded at this mark (R80). -/
def scheduled (c : Clock) (x : LightPart) : LightPart :=
  ({ x.1 with
    schedule := if x.1.stamp.day = c.day ∧ x.1.stamp.hour = hourOf c then scheduleOf x.2.env else x.1.schedule }, x.2)

section
variable (s : State) (g : Gallery) (x : LightPart) (l : List Instr)

@[simp] theorem judgeUv_at : (lightSlice.at_ s g x l).judgeUv g =
    lightSlice.at_ s g (uvJudged x) (l ++ uvNews g x.1.uvHigh x.2.uCode x.2.uDu x.2.env.uref) := by
  obtain ⟨⟨period, used, carry, hourAcc, exhausted, lastUsed, stamp, schedule, lSub, darkened, begun, uvHigh, short, isOver⟩, r⟩ := x
  unfold State.judgeUv
  simp only [account_at, lightRec_at, uvJudged, uvAfter, uvNews, judgeNotice]
  cases r.uCode with
  | none => simp
  | some u =>
    cases uvHigh with
    | true =>
      by_cases low : u ≤ r.env.uref - r.uDu
      · simp [low, Nat.not_lt.2 low]
      · simp [low, Nat.lt_of_not_le low]
    | false => by_cases high : r.env.uref < u <;> simp [high]

@[simp] theorem keepL_at (st : ChanState) :
    (lightSlice.at_ s g x l).keepL g st = lightSlice.at_ s g (lKept s.clock st x) (l ++ lKeptNews s g st x) := by
  unfold State.keepL lKept lKeptNews
  simp only [lightRec_at, setLight_at, recompute_at]
  by_cases same : (x.2.lState = .disabled) = (st = .disabled)
  · simp only [same, if_true, List.append_nil]
  · simp only [same, if_false]

@[simp] theorem renewSchedule_at :
    (lightSlice.at_ s g x l).renewSchedule g = lightSlice.at_ s g (scheduled s.clock x) l := by
  unfold State.renewSchedule scheduled
  simp only [account_at, lightRec_at, clock_at_light, setAccount_at]
  split <;> rfl

end

end Sys2Proof.Machine
end

section
/-! SUPPORT. What a recomputation of the allowance comes to, with the open hours left counted hour by hour (R95 to R98). -/

namespace Sys2Proof.Machine
open Sys2Proof

/-! ## The open hours left -/

/-- The days of `n` after one of weekday `w` whose weekday bit is set (R95). -/
def daysAfter (p : Nat → Bool) (w n : Nat) : Nat := ((List.range n).filter fun i => p ((w + 1 + i) % 7)).length

/-- Any seven days in a row hold each weekday once. -/
theorem filter_week (p : Nat → Bool) (m : Nat) :
    ((List.range 7).filter fun i => p ((m + i) % 7)).length = ((List.range 7).filter p).length := by
  have small : m % 7 < 7 := Nat.mod_lt _ (by decide)
  have shift (i : Nat) : (m + i) % 7 = (m % 7 + i) % 7 := by omega
  simp only [shift]
  generalize m % 7 = r at small
  simp only [← List.countP_eq_length_filter, List.range_succ, List.range_zero, List.countP_append, List.countP_cons,
    List.countP_nil]
  interval_cases r <;> simp <;> omega

theorem daysAfter_add_week (p : Nat → Bool) (w n : Nat) :
    daysAfter p w (n + 7) = daysAfter p w n + ((List.range 7).filter p).length := by
  unfold daysAfter
  rw [List.range_add, List.filter_append, List.length_append, List.filter_map, List.length_map, ← filter_week p (w + 1 + n)]
  simp only [Function.comp_def, Nat.add_assoc]

/-- The open days among the `n` after one of weekday `w`, counted by whole weeks and a rest. -/
theorem openDays_eq (weekdays w n : Nat) : openDays weekdays w n = daysAfter weekdays.testBit w n := by
  induction n using Nat.strongRecOn with
  | _ n ih =>
    by_cases less : n < 7
    · simp [openDays, daysAfter, Nat.div_eq_of_lt less, Nat.mod_eq_of_lt less]
    · obtain ⟨k, rfl⟩ : ∃ k, n = k + 7 := ⟨n - 7, by omega⟩
      rw [daysAfter_add_week, ← ih k (by omega)]
      simp only [openDays, Nat.add_mod_right, Nat.add_div_right k (by decide : 0 < 7)]
      ring

theorem length_filter_from (lo hi : Nat) : ((List.range hi).filter fun k => decide (lo ≤ k)).length = hi - lo := by
  induction hi with
  | zero => simp
  | succ n ih =>
    rw [List.range_succ, List.filter_append, List.length_append, ih]
    by_cases h : lo ≤ n <;> simp [h] <;> omega

/-- The open hours left, counted hour by hour, are those of today and of every open day after it (R95). -/
theorem openHoursLeft_eq (e : Envelope) (d h : Nat) {w : Nat} (week : w < 7) :
    openHoursLeft e d h w = remainingHours e d h w := by
  have whole (n : Nat) : ((List.range n).map fun j =>
      if e.weekdays.testBit ((w + (j + 1)) % 7) then e.oend - e.ostart else 0).sum =
        daysAfter e.weekdays.testBit w n * (e.oend - e.ostart) := by
    unfold daysAfter
    induction n with
    | zero => simp
    | succ n ih =>
      rw [List.range_succ, List.map_append, List.sum_append, ih, List.filter_append, List.length_append, Nat.add_mul]
      congr 1
      simp only [List.map_singleton, List.sum_singleton, show w + (n + 1) = w + 1 + n by omega]
      cases open_ : e.weekdays.testBit ((w + 1 + n) % 7) <;> simp [open_]
  have later (j : Nat) : ((List.range e.oend).filter fun k =>
      decide (e.ostart ≤ k) && (decide (0 < j + 1) || decide (h ≤ k))).length = e.oend - e.ostart := by
    simp [length_filter_from]
  have today : ((List.range e.oend).filter fun k =>
      decide (e.ostart ≤ k) && (decide (0 < 0) || decide (h ≤ k))).length = e.oend - max h e.ostart := by
    rw [← length_filter_from]
    refine congrArg (fun p : Nat → Bool => ((List.range e.oend).filter p).length) (funext fun k => ?_)
    simp [Bool.and_comm]
  unfold openHoursLeft remainingHours
  rw [List.range_succ_eq_map, List.map_cons, List.sum_cons, List.map_map, openDays_eq, ← whole]
  simp only [Function.comp_def, Nat.succ_eq_add_one, later, today, Nat.add_zero, Nat.mod_eq_of_lt week]

/-- An hour that is open counts itself among the open hours left. -/
theorem remainingHours_pos {e : Envelope} {w h : Nat} (isOpen : isOpen (scheduleOf e) w h = true) (d : Nat) :
    remainingHours e d h w ≠ 0 := by
  simp only [Machine.isOpen, scheduleOf, Bool.and_eq_true] at isOpen
  obtain ⟨⟨day, after⟩, before⟩ := isOpen
  have after := of_decide_eq_true after
  have before := of_decide_eq_true before
  simp only [remainingHours, day, if_true]
  omega

/-! ## A recomputation -/

/-- What the allowance fields of a share are by its account, its kept copies and the clock, with the declared level `d` and
DOSE_SHORT `short` before (R95, R96, R98, R106). -/
def RecomputedFrom (c : Clock) (d : Option Nat) (short : Bool) (x : LightPart) : Prop :=
  let a := x.1
  let r := x.2
  r.hrem = a.period.map (fun d => openHoursLeft r.env d (hourOf c) c.weekday) ∧
    r.quot = r.hrem.bind (fun n => if a.exhausted || n = 0 then none else some ((r.env.budget * 100 - a.used) / n)) ∧
    (r.allowance, r.pace) = (
      if r.dark then (0, .darkened)
      else if a.exhausted then (0, .exhausted)
      else if !isOpen (scheduleOf r.env) c.weekday (hourOf c) then (r.env.lclosed, .closed)
      else if a.period = none then (r.env.lmax, .unbudgeted)
      else if r.lState = .disabled then (r.env.lmax, .suspended)
      else if r.env.lmax ≤ r.quot.getD 0 then (r.env.lmax, .ample)
      else if r.env.lmin ≤ r.quot.getD 0 then (r.quot.getD 0, .onPace)
      else (r.env.lmin, .short)) ∧
    r.declared = d.map (fun v => min v r.allowance) ∧
    a.doseShort = (match r.quot with
      | some n => decide (n < r.env.lmin)
      | none => short && !a.exhausted)

theorem recomputed_iff (s t : State) (g : Gallery) :
    Recomputed s t g ↔
      RecomputedFrom t.clock (s.lightRec g).declared (s.account g).doseShort (t.account g, t.lightRec g) := Iff.rfl

/-- The allowance of a gallery that is open and RUNNING, by its quotient, which is there (R95, R96). -/
theorem allowanceOf_eq {a : Account} {r : LightRec} {w h : Nat} {hrem quot : Option Nat} (hours : hrem = hremOf a r.env h w)
    (quotient : quot = quotOf a r.env hrem) :
    allowanceOf r.dark a.exhausted (isOpen (scheduleOf r.env) w h) a.period.isSome r.lState quot r.env =
      if r.dark then (0, .darkened)
      else if a.exhausted then (0, .exhausted)
      else if !isOpen (scheduleOf r.env) w h then (r.env.lclosed, .closed)
      else if a.period = none then (r.env.lmax, .unbudgeted)
      else if r.lState = .disabled then (r.env.lmax, .suspended)
      else if r.env.lmax ≤ quot.getD 0 then (r.env.lmax, .ample)
      else if r.env.lmin ≤ quot.getD 0 then (quot.getD 0, .onPace)
      else (r.env.lmin, .short) := by
  unfold allowanceOf
  cases period : a.period with
  | none => simp
  | some d =>
    by_cases active : a.exhausted = false ∧ isOpen (scheduleOf r.env) w h = true
    · obtain ⟨fresh, open_⟩ := active
      have some_ : quot = some ((r.env.budget * 100 - a.used) / remainingHours r.env d h w) := by
        simp [quotient, quotOf, hours, hremOf, period, fresh, remainingHours_pos open_ d]
      simp [some_]
    · by_cases fresh : a.exhausted = false
      · simp [fresh, not_and.1 active fresh]
      · simp [fresh]

theorem recomputed_from (c : Clock) (week : c.weekday < 7) (x : LightPart) :
    RecomputedFrom c x.2.declared x.1.doseShort (recomputed c x) := by
  refine ⟨?_, ?_, ?_, rfl, ?_⟩
  · show hremOf x.1 x.2.env (hourOf c) c.weekday = _
    simp only [hremOf, recomputed, recomputedRec, openHoursLeft_eq _ _ _ week]
  · show quotOf x.1 x.2.env (hremOf x.1 x.2.env (hourOf c) c.weekday) = _
    unfold quotOf
    show _ = Option.bind (hremOf x.1 x.2.env (hourOf c) c.weekday) _
    cases hremOf x.1 x.2.env (hourOf c) c.weekday <;> rfl
  · exact allowanceOf_eq rfl rfl
  · show shortAfter x.1 x.2.env.lmin _ = _
    rfl

end Sys2Proof.Machine
end

section
/-! SUPPORT. The statements about the light account unit's second mark, its hour mark and its kept copies. -/

namespace Sys2Proof.Machine
open Sys2Proof

/-! ## Actions on a gallery -/

theorem lightSecond_acts :
    lightSlice.Acts State.lightSecond (fun s _ => lightSecondPassed s.clock) lightSecondNews :=
  .of_at lightSecond_at (fun e => (congrArg (fun u : State => fun _ : Gallery => lightSecondPassed u.clock) e :))
    (fun e => (congrArg lightSecondNews e :))

theorem lightHour_acts (m : HourMark) :
    lightSlice.Acts (State.lightHour m) (fun s _ => lightHourPassed m s.clock) (lightHourNews m) :=
  .of_at (fun s g x l => lightHour_at s g x l m)
    (fun e => (congrArg (fun u : State => fun _ : Gallery => lightHourPassed m u.clock) e :))
    (fun e => (congrArg (lightHourNews m) e :))

/-! ## The second mark -/

theorem lowerDeclared_again (d : Option Nat) (a : Nat) : lowerDeclared (lowerDeclared d a) a = lowerDeclared d a := by
  cases d <;> simp [lowerDeclared]

theorem shortAfter_again (a : Account) (lmin : Nat) (quot : Option Nat) :
    shortAfter { a with doseShort := shortAfter a lmin quot } lmin quot = shortAfter a lmin quot := by
  cases quot <;> simp [shortAfter]

/-- A recomputation on a share that was just recomputed changes nothing. -/
theorem recomputed_again (c : Clock) (x : LightPart) : recomputed c (recomputed c x) = recomputed c x := by
  refine Prod.ext ?_ ?_
  · exact congrArg (fun b => { x.1 with doseShort := b }) (shortAfter_again x.1 _ _)
  · exact congrArg (fun d => { (recomputed c x).2 with declared := d }) (lowerDeclared_again x.2.declared _)

/-- The share with exhaustion re-evaluated and the stamp rebased (R84, R108). -/
def turned (c : Clock) (x : LightPart) : LightPart :=
  ({ x.1 with
    exhausted := overBudget x.1 x.2.env, stamp := if rebases c x.1 then ⟨c.day, c.weekday, x.1.stamp.hour⟩ else x.1.stamp },
    x.2)

/-- A second mark recomputes the allowance (R84, R108). -/
def turns (c : Clock) (x : LightPart) : Bool := overBudget x.1 x.2.env != x.1.exhausted || rebases c x.1

/-- However many of the two reasons call for it, one recomputation is what they come to. -/
theorem rebased_settled (c : Clock) (x : LightPart) :
    rebased c (settled c x) = if turns c x then recomputed c (turned c x) else turned c x := by
  by_cases stands : overBudget x.1 x.2.env = x.1.exhausted
  · cases moves : rebases c x.1 <;> simp [rebased, settled, turned, turns, restamped, stands, moves]
  · have first : settled c x = recomputed c (reevaluated x) := if_neg stands
    have stamp : rebases c (recomputed c (reevaluated x)).1 = rebases c x.1 := rfl
    rw [first, rebased, stamp]
    cases moves : rebases c x.1
    · simp [turned, turns, reevaluated, stands, moves]
    · have both : turned c x = restamped c (reevaluated x) := by simp [turned, restamped, reevaluated, moves]
      have again : turns c x = true := by simp [turns, moves]
      rw [if_pos again, both]
      exact recomputed_again c (restamped c (reevaluated x))

theorem rebased_settled_keeps (c : Clock) (x : LightPart) :
    (rebased c (settled c x)).2.env = x.2.env ∧ (rebased c (settled c x)).2.overCount = x.2.overCount ∧
      (rebased c (settled c x)).1.luxOver = x.1.luxOver := by
  rw [rebased_settled]
  split <;> exact ⟨rfl, rfl, rfl⟩

theorem lightSecondPassed_eq (c : Clock) (x : LightPart) :
    lightSecondPassed c x = overJudged (inputOf x.2).1
      (if turns c (accrued x) then recomputed c (turned c (accrued x)) else turned c (accrued x)) := by
  rw [← rebased_settled]
  rfl

/-- What the recomputations of a second mark send, by the share `y` they leave. -/
theorem settledNews_rebasedNews (s : State) (g : Gallery) (x : LightPart) :
    let y := rebased s.clock (settled s.clock x)
    let told (r : LightRec) (short : Bool) := recomputeNews s g r y.2 short y.1.exhausted
    settledNews s g x ++ rebasedNews s g (settled s.clock x) =
      exhaustNews g x.1 x.2.env ++ (if overBudget x.1 x.2.env = x.1.exhausted then [] else told x.2 x.1.doseShort) ++
        if rebases s.clock x.1 then
          if overBudget x.1 x.2.env = x.1.exhausted then told x.2 x.1.doseShort else told y.2 y.1.doseShort
        else [] := by
  intro y told
  by_cases stands : overBudget x.1 x.2.env = x.1.exhausted
  · have first : settled s.clock x = x := if_pos stands
    cases moves : rebases s.clock x.1
    · simp [settledNews, rebasedNews, first, stands, moves]
    · have second : y = recomputed s.clock (restamped s.clock x) := by simp only [y, first, rebased, moves, if_true]
      simp [settledNews, rebasedNews, recomputedNews, told, first, second, stands, moves]
      rfl
  · have first : settled s.clock x = recomputed s.clock (reevaluated x) := if_neg stands
    have stamp : rebases s.clock (recomputed s.clock (reevaluated x)).1 = rebases s.clock x.1 := rfl
    cases moves : rebases s.clock x.1
    · have second : y = recomputed s.clock (reevaluated x) := by
        simp only [y, first, rebased, stamp, moves, if_false, Bool.false_eq_true]
      have silent : rebasedNews s g (settled s.clock x) = [] := by
        rw [first, rebasedNews, stamp, moves]
        rfl
      simp only [settledNews, silent, stands, told, second, if_false, Bool.false_eq_true]
      rfl
    · have second : y = restamped s.clock (recomputed s.clock (reevaluated x)) := by
        simp only [y, first, rebased, stamp, moves, if_true]
        exact recomputed_again s.clock (restamped s.clock (reevaluated x))
      have again : rebasedNews s g (settled s.clock x) = told y.2 y.1.doseShort := by
        have last : recomputed s.clock (restamped s.clock (recomputed s.clock (reevaluated x))) = y := by
          rw [second]
          exact recomputed_again s.clock (restamped s.clock (reevaluated x))
        rw [first, rebasedNews, stamp, moves, if_pos rfl, recomputedNews, last]
        simp only [told, second]
      simp only [settledNews, again, stands, if_false, if_true, List.append_assoc]
      simp only [told, second]
      rfl

/-- Settles O36: one recomputation is what the mark's reasons to recompute come to, and the row is the mark that opens LUX_OVER. -/
theorem lightSecondAccrued : Obligations.LightSecondAccrued := by
  unfold Obligations.LightSecondAccrued
  intro t s ready clock
  have made := (lightSecond_acts.forGalleries (s.take (.secondMarkAtLight t))).taken_plain
  rw [lightSecond_acts.edit_take, lightSecond_acts.news_take] at made
  have mark : lightMark t s = .next (forGalleries State.lightSecond (s.take (.secondMarkAtLight t))).seal :=
    deliver_ready ready _ _
  refine ⟨_, mark, ?_⟩
  generalize (forGalleries State.lightSecond (s.take (.secondMarkAtLight t))).seal = u at made mark
  have week : s.clock.weekday < 7 := clock.2.1
  have clockSame : u.clock = s.clock := (congrArg (fun u : State => u.ret.clock) made.around :)
  have share (g : Gallery) : (u.account g, u.lightRec g) = lightSecondPassed s.clock (s.account g, s.lightRec g) := made.part g
  refine ⟨fun g => ?_, ?_, fun g => ?_⟩
  · have z := share g
    rw [lightSecondPassed_eq] at z
    obtain ⟨ha, hr⟩ := Prod.mk.inj z
    dsimp only
    rw [recomputed_iff, clockSame, ha, hr]
    cases again : turns s.clock (accrued (s.account g, s.lightRec g))
    · exact ⟨rfl, rfl, rfl, rfl, (if_neg (Bool.eq_false_iff.1 again)).mpr ⟨rfl, rfl⟩⟩
    · exact ⟨rfl, rfl, rfl, rfl, (if_pos again).mpr (recomputed_from s.clock week _)⟩
  · rw [made.sent]
    refine congrArg _ (congrArg (galleries.flatMap ·) (funext fun g => ?_))
    obtain ⟨ha, hr⟩ := Prod.mk.inj (share g)
    dsimp only
    rw [ha, hr]
    show lightSecondNews s g (s.account g, s.lightRec g) = _
    rw [lightSecondNews, settledNews_rebasedNews]
    obtain ⟨env, count, luxOver⟩ := rebased_settled_keeps s.clock (accrued (s.account g, s.lightRec g))
    refine congrArg₂ _ ?_ ?_
    · simp only [rebases, Bool.and_eq_true, decide_eq_true_eq]
      rfl
    · simp only [overNews, env, count, luxOver]
      rfl
  · have row : exec (.overCounterExpiry g t) s = onlyWhen (overExpires s g) s (.next u) := congrArg (onlyWhen _ s) mark
    have expires : overExpires s g = (!(s.account g).luxOver && (u.account g).luxOver) := by
      have same : (s.lightSecond g).account g = u.account g :=
        (congrArg Prod.fst (lightSecond_acts.part_self g s) :).trans (congrArg Prod.fst (share g)).symm
      rw [overExpires, same]
    rw [row, onlyWhen_next, expires]
    simp

/-! ## The hour mark -/

/-- The dose used after a fold (R77). -/
def usedFolded (a : Account) : Nat :=
  if a.period = none then a.used else min 4294967295 (a.used + (a.carry + a.hourAcc) / 36000)

theorem fold_eq (a : Account) :
    a.fold = { a with carry := (a.carry + a.hourAcc) % 36000, hourAcc := 0, used := usedFolded a } := by
  unfold Account.fold usedFolded
  have rest : a.carry + a.hourAcc - (a.carry + a.hourAcc) / 36000 * 36000 = (a.carry + a.hourAcc) % 36000 := by omega
  cases period : a.period <;> simp [rest, maxUsed, Nat.min_comm]

/-- A day step ends the budget period (R83). -/
def endsPeriod (dayFlag : Bool) (x : LightPart) : Bool :=
  dayFlag && (match x.1.period with | some d => decide (x.2.env.period ≤ d + 1) | none => false)

/-- The share after a fold and the turn of the period (R79, R82, R83). -/
theorem periodTurned_eq (dayFlag : Bool) (x : LightPart) :
    periodTurned dayFlag x =
      if x.2.startPending then reevaluated (begunPeriod x)
      else if endsPeriod dayFlag x then reevaluated (rolledOver x)
      else ({ x.1 with period := if dayFlag then x.1.period.map (· + 1) else x.1.period }, x.2) := by
  unfold periodTurned dayStepped endsPeriod
  split
  · rfl
  · cases dayFlag
    · simp
    · cases period : x.1.period with
      | none =>
        have same : { x.1 with period := none } = x.1 := by rw [← period]
        simp [same]
      | some d => by_cases more : d + 1 < x.2.env.period <;> simp [more, Nat.not_le.2, Nat.not_lt.1]

theorem periodNews_eq (g : Gallery) (dayFlag : Bool) (x : LightPart) :
    periodNews g dayFlag x =
      if x.2.startPending then exhaustNews g (begunPeriod x).1 x.2.env
      else if endsPeriod dayFlag x then exhaustNews g (rolledOver x).1 x.2.env
      else [] := by
  unfold periodNews dayNews endsPeriod
  split
  · rfl
  · cases dayFlag
    · simp
    · cases period : x.1.period with
      | none => simp
      | some d => by_cases more : d + 1 < x.2.env.period <;> simp [more, Nat.not_le.2, Nat.not_lt.1]

/-- The notices of a fold (R77, R78, R87). -/
theorem foldedNews_eq (g : Gallery) (st : HourStamp) (changed gap : Bool) (x : LightPart) :
    foldedNews g st changed gap x =
      [.hourCloseNotice ⟨g, st.day, st.hour, (x.1.carry + x.1.hourAcc) / 36000, {
        openHour := isOpen x.1.schedule st.weekday st.hour
        darkened := x.1.darkened
        lSubstituted := x.1.lSub
        clockChanged := x.1.begunByChange || changed
        powerGap := gap
        noPeriod := x.1.period = none }⟩] ++
      if x.1.exhausted then
        [.valueNotice g .doseExhausted ((usedFolded x.1 * 36000 + (x.1.carry + x.1.hourAcc) % 36000) / 3600000)] else [] := by
  have none : x.1.period.isNone = decide (x.1.period = none) := by cases x.1.period <;> rfl
  simp only [foldedNews, Account.folded, closeFlags, fold_eq, doseValue, doseSum, Nat.add_zero, none]

theorem exhaustNews_unless (g : Gallery) (a : Account) (e : Envelope) :
    (if overBudget a e = a.exhausted then [] else exhaustNews g a e) = exhaustNews g a e := by
  unfold exhaustNews
  split <;> rfl

/-- Settles O37: the fold, the turn of the period and the renewed hour state are computed on each share, and one recomputation
ends the mark. -/
theorem hourFolded : Obligations.HourFolded := by
  unfold Obligations.HourFolded
  intro m s ready clock
  have acts := lightHour_acts m
  have made := (acts.forGalleries (s.take (.hourMarkAtLight m))).taken_plain
  rw [acts.edit_take, acts.news_take] at made
  refine ⟨_, deliver_ready ready _ _, ?_⟩
  generalize (forGalleries (State.lightHour m) (s.take (.hourMarkAtLight m))).seal = u at made
  have week : s.clock.weekday < 7 := clock.2.1
  have clockSame : u.clock = s.clock := (congrArg (fun u : State => u.ret.clock) made.around :)
  have share (g : Gallery) : (u.account g, u.lightRec g) = lightHourPassed m s.clock (s.account g, s.lightRec g) := made.part g
  refine ⟨fun g => ?_, ?_⟩
  · obtain ⟨ha, hr⟩ := Prod.mk.inj (share g)
    dsimp only
    rw [recomputed_iff, clockSame, ha, hr]
    have turn := periodTurned_eq m.dayFlag (folded (s.account g, s.lightRec g))
    cases pending : (s.lightRec g).startPending
    · cases ends : endsPeriod m.dayFlag (folded (s.account g, s.lightRec g))
      · rw [if_neg (by simp [folded, pending]), if_neg (by simp [ends])] at turn
        rw [turn]
        refine ⟨rfl, rfl, rfl, rfl, rfl, rfl, rfl, rfl, pending, rfl, ?_, ?_, rfl, recomputed_from s.clock week _⟩
        · show _ = if _ then _ else if endsPeriod m.dayFlag (folded (s.account g, s.lightRec g)) then _ else _
          rw [ends]
          simp [renewed, folded, fold_eq, usedFolded]
        · show if false || endsPeriod m.dayFlag (folded (s.account g, s.lightRec g)) then _ else _
          simp only [ends]
          rfl
      · rw [if_neg (by simp [folded, pending]), if_pos ends] at turn
        rw [turn]
        refine ⟨rfl, rfl, rfl, rfl, rfl, rfl, rfl, rfl, pending, rfl, ?_, ?_, rfl, recomputed_from s.clock week _⟩
        · show _ = if _ then _ else if endsPeriod m.dayFlag (folded (s.account g, s.lightRec g)) then _ else _
          rw [ends]
          simp [renewed, reevaluated, rolledOver, folded, fold_eq, usedFolded]
        · show if false || endsPeriod m.dayFlag (folded (s.account g, s.lightRec g)) then _ else _
          simp only [ends]
          rfl
    · rw [if_pos (by simp [folded, pending])] at turn
      rw [turn]
      refine ⟨rfl, rfl, rfl, rfl, rfl, rfl, rfl, rfl, rfl, rfl, ?_, rfl, rfl, recomputed_from s.clock week _⟩
      cases period : (s.account g).period <;> simp [renewed, reevaluated, begunPeriod, folded, fold_eq, usedFolded, period]
  · rw [made.sent]
    refine congrArg _ (congrArg (galleries.flatMap ·) (funext fun g => ?_))
    obtain ⟨ha, hr⟩ := Prod.mk.inj (share g)
    dsimp only
    rw [ha, hr]
    show lightHourNews m s g (s.account g, s.lightRec g) = _
    have turn := periodTurned_eq m.dayFlag (folded (s.account g, s.lightRec g))
    rw [lightHourNews, foldedNews_eq, periodNews_eq]
    refine congrArg₂ _ (congrArg _ ?_) ?_
    · cases pending : (s.lightRec g).startPending
      · rw [if_neg (by simp [folded, pending])]
        cases ends : endsPeriod m.dayFlag (folded (s.account g, s.lightRec g))
        · rw [if_neg (by simp [folded, pending]), if_neg (by simp [ends])] at turn
          simp only [turn]
          exact (if_pos rfl).symm
        · rw [if_neg (by simp [folded, pending]), if_pos ends] at turn
          simp only [turn]
          exact (exhaustNews_unless g (rolledOver (folded (s.account g, s.lightRec g))).1 (s.lightRec g).env).symm
      · rw [if_pos (by simp [folded, pending])] at turn ⊢
        simp only [turn]
        exact (exhaustNews_unless g (begunPeriod (folded (s.account g, s.lightRec g))).1 (s.lightRec g).env).symm
    · cases pending : (s.lightRec g).startPending
      · cases ends : endsPeriod m.dayFlag (folded (s.account g, s.lightRec g))
        · rw [if_neg (by simp [folded, pending]), if_neg (by simp [ends])] at turn
          simp only [turn]
          rfl
        · rw [if_neg (by simp [folded, pending]), if_pos ends] at turn
          simp only [turn]
          rfl
      · rw [if_pos (by simp [folded, pending])] at turn
        simp only [turn]
        rfl

end Sys2Proof.Machine
end

section
/-! SUPPORT. The statement about the copies the light account unit keeps, and the actions that keep them. -/

namespace Sys2Proof.Machine
open Sys2Proof

namespace Slice
variable {α : Type} {S : Slice α} {f : Gallery → State → State} {φ : Edit α} {news : News α}

/-- The command `c` is taken in `s`: the share of one gallery becomes `x`, and `l` is sent. -/
structure Alone (S : Slice α) (c : Instr) (s t : State) (g : Gallery) (x : α) (l : List Instr) : Prop where
  around : S.around t = S.around s
  part : S.part t g = x
  others : ∀ i, i ≠ g → S.part t i = S.part s i
  inFlight : t.inFlight = s.inFlight.erase c ++ l

theorem Acts.alone (h : S.Acts f φ news) (g : Gallery) (s : State) (c : Instr) :
    S.Alone c s (f g (s.take c)).seal g (φ s g (S.part s g)) (news s g (S.part s g)) where
  around := by rw [S.around_seal, h.around, S.around_take]
  part := by rw [S.part_seal, h.part_self, S.part_take, h.edit_take]
  others i ne := by rw [S.part_seal, h.part_ne ne, S.part_take]
  inFlight := by
    show (f g (s.take c)).inFlight = _
    rw [h.inFlight, S.part_take, h.news_take]
    rfl

/-- A command that a ready block takes by an action on one gallery. -/
theorem Acts.next_alone (h : S.Acts f φ news) {b : Block} {c : Instr} {s : State} (ready : Ready s b) (g : Gallery)
    {P : State → Prop} (taken : ∀ t, S.Alone c s t g (φ s g (S.part s g)) (news s g (S.part s g)) → P t) :
    Next (deliver b c s (f g)) P :=
  ⟨_, deliver_ready ready _ _, taken _ (h.alone g s c)⟩

end Slice

/-! ## What each notice makes of the share -/

/-- The code and the state of a tracked update of L kept (R73, R107). -/
def luxKept (c : Clock) (u : TrackedUpdate) (x : LightPart) : LightPart := lKept c u.state (x.1, { x.2 with lCode := u.code })

/-- What that sends. -/
def luxKeptNews (s : State) (g : Gallery) (u : TrackedUpdate) (x : LightPart) : List Instr :=
  lKeptNews s g u.state (x.1, { x.2 with lCode := u.code })

/-- A tracked update of U copied (R73). -/
def uvCopied (u : TrackedUpdate) (x : LightPart) : LightPart :=
  (x.1, { x.2 with uCode := u.code, uState := u.state, uDu := u.du })

/-- The darkening state copied (R78, R105). -/
def darkCopied (idle : Bool) (x : LightPart) : LightPart :=
  ({ x.1 with darkened := x.1.darkened || idle },
    if x.2.dark = idle then x.2 else { x.2 with dark := idle, overCount := if idle then 0 else x.2.overCount })

/-- The darkening state kept (R78, R105). -/
def darkKept (c : Clock) (idle : Bool) (x : LightPart) : LightPart :=
  if x.2.dark = idle then darkCopied idle x else recomputed c (darkCopied idle x)

/-- What that sends. -/
def darkKeptNews (s : State) (g : Gallery) (idle : Bool) (x : LightPart) : List Instr :=
  if x.2.dark = idle then [] else recomputedNews s g (darkCopied idle x)

/-- An envelope copied. -/
def envCopied (e : Envelope) (x : LightPart) : LightPart := (x.1, { x.2 with env := e })

/-- An envelope kept (R80, R88). -/
def envKept (c : Clock) (e : Envelope) (x : LightPart) : LightPart :=
  uvJudged (scheduled c (recomputed c (reevaluated (envCopied e x))))

/-- What that sends. -/
def envKeptNews (s : State) (g : Gallery) (e : Envelope) (x : LightPart) : List Instr :=
  exhaustNews g x.1 e ++ recomputedNews s g (reevaluated (envCopied e x)) ++ uvNews g x.1.uvHigh x.2.uCode x.2.uDu e.uref

/-! ## The actions -/

theorem keepL_acts (st : ChanState) :
    lightSlice.Acts (fun g s => s.keepL g st) (fun s _ => lKept s.clock st) (fun s g => lKeptNews s g st) :=
  .of_at (fun s g x l => keepL_at s g x l st) (fun e => (congrArg (fun u : State => fun _ : Gallery => lKept u.clock st) e :))
    (fun e => (congrArg (fun u : State => fun g => lKeptNews u g st) e :))

theorem keepLux_acts (u : TrackedUpdate) :
    lightSlice.Acts (fun g s => (s.setLight g { s.lightRec g with lCode := u.code }).keepL g u.state)
      (fun s _ => luxKept s.clock u) (fun s g => luxKeptNews s g u) :=
  .of_at (fun s g x l => by simp only [lightRec_at, setLight_at, keepL_at, luxKept, luxKeptNews])
    (fun e => (congrArg (fun t : State => fun _ : Gallery => luxKept t.clock u) e :))
    (fun e => (congrArg (fun t : State => fun g => luxKeptNews t g u) e :))

theorem keepUv_acts (u : TrackedUpdate) :
    lightSlice.Acts
      (fun g s => (s.setLight g { s.lightRec g with uCode := u.code, uState := u.state, uDu := u.du }).judgeUv g)
      (fun _ _ x => uvJudged (uvCopied u x)) (fun _ g x => uvNews g x.1.uvHigh u.code u.du x.2.env.uref) :=
  .of_at (fun s g x l => by simp only [lightRec_at, setLight_at, judgeUv_at, uvCopied]) (fun _ => rfl) (fun _ => rfl)

theorem keepDark_acts (idle : Bool) :
    lightSlice.Acts
      (fun g s =>
        let r := s.lightRec g
        let s := if idle then s.setAccount g { s.account g with darkened := true } else s
        if r.dark = idle then s
        else
          let s := s.setLight g { r with dark := idle, overCount := if idle then 0 else r.overCount }
          s.recompute g)
      (fun s _ => darkKept s.clock idle) (fun s g => darkKeptNews s g idle) := by
  refine .of_at (fun s g x l => ?_) (fun e => (congrArg (fun t : State => fun _ : Gallery => darkKept t.clock idle) e :))
    (fun e => (congrArg (fun t : State => fun g => darkKeptNews t g idle) e :))
  obtain ⟨a, r⟩ := x
  by_cases same : r.dark = idle <;> cases idle <;>
    simp [darkKept, darkKeptNews, darkCopied, same]

theorem keepEnv_acts (e : Envelope) :
    lightSlice.Acts
      (fun g s =>
        let s := s.setLight g { s.lightRec g with env := e }
        (((s.reevalExhausted g).recompute g).renewSchedule g).judgeUv g)
      (fun s _ => envKept s.clock e) (fun s g => envKeptNews s g e) := by
  refine .of_at (fun s g x l => ?_) (fun h => (congrArg (fun t : State => fun _ : Gallery => envKept t.clock e) h :))
    (fun h => (congrArg (fun t : State => fun g => envKeptNews t g e) h :))
  simp only [lightRec_at, setLight_at, reevalExhausted_at, recompute_at, renewSchedule_at, judgeUv_at, envKept, envKeptNews,
    List.append_assoc]
  rfl

/-! ## The statement -/

/-- What a command that touches one gallery's share leaves of the others. -/
theorem keepsOtherLight_of_alone {c : Instr} {s t : State} {g : Gallery} {x : LightPart} {l : List Instr}
    (h : lightSlice.Alone c s t g x l) : KeepsOtherLight s t g := fun i ne => Prod.mk.inj (h.others i ne)

/-- A share recomputed from copies that leave the declared level and DOSE_SHORT alone (R98, R106). -/
theorem recomputed_of_alone {c : Instr} {s t : State} {g : Gallery} {x : LightPart} {l : List Instr}
    (h : lightSlice.Alone c s t g (recomputed s.clock x) l) (week : s.clock.weekday < 7)
    (level : x.2.declared = (s.lightRec g).declared) (short : x.1.doseShort = (s.account g).doseShort) : Recomputed s t g := by
  have clockSame : t.clock = s.clock := (congrArg (fun u : State => u.ret.clock) h.around :)
  have share : (t.account g, t.lightRec g) = recomputed s.clock x := h.part
  rw [recomputed_iff, clockSame, share, ← level, ← short]
  exact recomputed_from _ week x

/-- Settles O38: each notice copies its fields, and recomputes the allowance where the share calls for it. -/
theorem lightCopiesKept : Obligations.LightCopiesKept := by
  unfold Obligations.LightCopiesKept
  intro g o n f1 f2 idle u e l s ready clock same
  subst same
  have week : s.clock.weekday < 7 := clock.2.1
  intro a r uv sent told stays lux li ui ti di ei
  subst li ui ti di ei
  dsimp only [exec, execStateChangeAtLight, execTrackedUpdateAtLight, execDarkeningStateAtLight, execEnvelopeChangedAtLight]
  have luxCase (c : Instr) (t : State) (st : ChanState) (code : Option Nat)
      (h : lightSlice.Alone c s t u.chan.g (lKept s.clock st (a, { r with lCode := code }))
        (lKeptNews s u.chan.g st (a, { r with lCode := code }))) : lux c { r with lState := st, lCode := code } t := by
    have kept := keepsOtherLight_of_alone h
    by_cases turn : (r.lState = .disabled) = (st = .disabled)
    · rw [lKept, lKeptNews, if_pos turn, if_pos turn] at h
      obtain ⟨ha, hr⟩ := Prod.mk.inj h.part
      dsimp only [lux, stays]
      rw [if_pos turn, ha, hr]
      exact ⟨⟨kept, rfl, rfl⟩, rfl, rfl, rfl, rfl, h.inFlight⟩
    · rw [lKept, lKeptNews, if_neg turn, if_neg turn] at h
      have again : Recomputed s t u.chan.g := recomputed_of_alone h week rfl rfl
      obtain ⟨ha, hr⟩ := Prod.mk.inj h.part
      dsimp only [lux, stays, told]
      rw [if_neg turn, ha, hr]
      exact ⟨⟨kept, rfl, rfl⟩, rfl, rfl, again, h.inFlight⟩
  refine ⟨(keepL_acts n).next_alone ready _ fun t h => luxCase _ _ n r.lCode h, deliver_silent ready rfl, ?_,
    (keepDark_acts idle).next_alone ready _ fun t h => ?_, (keepEnv_acts e).next_alone ready _ fun t h => ?_⟩
  · cases kind : u.chan.k
    case lux =>
      refine (keepLux_acts u).next_alone ready _ fun t h => ?_
      exact ⟨fun _ => luxCase _ _ u.state u.code h, nofun, fun no => absurd rfl no⟩
    case uv =>
      refine (keepUv_acts u).next_alone ready _ fun t h => ?_
      obtain ⟨ha, hr⟩ := Prod.mk.inj h.part
      exact ⟨nofun, fun _ => ⟨keepsOtherLight_of_alone h, hr, ha, h.inFlight⟩, fun _ no => absurd rfl no⟩
    case rh => exact ⟨_, deliver_silent ready rfl, nofun, nofun, fun _ _ => rfl⟩
    case temp => exact ⟨_, deliver_silent ready rfl, nofun, nofun, fun _ _ => rfl⟩
  · have kept := keepsOtherLight_of_alone h
    change lightSlice.Alone _ s t _ (darkKept s.clock idle (a, r)) (darkKeptNews s u.chan.g idle (a, r)) at h
    dsimp only [darkKept, darkKeptNews, darkCopied] at h
    by_cases repeated : r.dark = idle
    · simp only [if_pos repeated] at h
      obtain ⟨ha, hr⟩ := Prod.mk.inj h.part
      dsimp only [stays]
      rw [if_pos repeated, ha, hr]
      exact ⟨⟨kept, by rw [← repeated]; rfl, rfl⟩, rfl, rfl, rfl, h.inFlight⟩
    · simp only [if_neg repeated] at h
      have again : Recomputed s t u.chan.g := recomputed_of_alone h week rfl rfl
      obtain ⟨ha, hr⟩ := Prod.mk.inj h.part
      dsimp only [stays, told]
      rw [if_neg repeated, ha, hr]
      exact ⟨⟨kept, rfl, rfl⟩, rfl, again, rfl, h.inFlight⟩
  · have kept := keepsOtherLight_of_alone h
    have again : Recomputed s t u.chan.g := by
      have clockSame : t.clock = s.clock := (congrArg (fun u : State => u.ret.clock) h.around :)
      rw [recomputed_iff, clockSame, show (t.account u.chan.g, t.lightRec u.chan.g) = _ from h.part]
      exact recomputed_from _ week (reevaluated (envCopied e (a, r)))
    obtain ⟨ha, hr⟩ := Prod.mk.inj h.part
    dsimp only [stays, told]
    rw [ha, hr]
    exact ⟨⟨kept, rfl, rfl⟩, rfl, again, rfl, h.inFlight⟩

end Sys2Proof.Machine
end

section
/-! SUPPORT. The light account unit's starts, and the invariant of its accounts and light records through every step. -/

namespace Sys2Proof.Machine
open Sys2Proof

/-! ## The starts -/

/-- `n` day steps of a share (R92). -/
def daysStepped : Nat → LightPart → LightPart
  | 0, x => x
  | n + 1, x => daysStepped n (dayStepped x)

/-- What they send. -/
def daysNews (g : Gallery) : Nat → LightPart → List Instr
  | 0, _ => []
  | n + 1, x => dayNews g x ++ daysNews g n (dayStepped x)

/-- The hour of the account's stamp is the hour of the start (R91). -/
def sameHour (i : StartInfo) (a : Account) : Bool := decide (a.stamp.day = i.day ∧ a.stamp.hour = i.minute / 60)

/-- The fold of a catch-up (R91). -/
def gapFolded (i : StartInfo) (x : LightPart) : LightPart := if sameHour i x.1 then x else folded x

/-- What it sends. -/
def gapNews (i : StartInfo) (g : Gallery) (x : LightPart) : List Instr :=
  if sameHour i x.1 then [] else foldedNews g x.1.stamp false true x

/-- A share caught up at a warm start (R91, R92). -/
def caughtUp (i : StartInfo) (x : LightPart) : LightPart :=
  daysStepped (daysPassed x.1.stamp.day i.day) (gapFolded i x)

/-- What that sends. -/
def caughtUpNews (i : StartInfo) (g : Gallery) (x : LightPart) : List Instr :=
  gapNews i g x ++ daysNews g (daysPassed x.1.stamp.day i.day) (gapFolded i x)

/-- A share at a warm start, `r` being the light record a start makes (R91 to R93, R100). -/
def lightWarmed (i : StartInfo) (c : Clock) (r : LightRec) (x : LightPart) : LightPart :=
  recomputed c (reevaluated (renewed (infoHour i) false false (caughtUp i (x.1, r))))

/-- What a warm start sends. -/
def lightWarmedNews (i : StartInfo) (s : State) (g : Gallery) (x : LightPart) : List Instr :=
  let y := caughtUp i (x.1, s.startLightRec g)
  let z := renewed (infoHour i) false false y
  caughtUpNews i g (x.1, s.startLightRec g) ++ exhaustNews g z.1 z.2.env ++ recomputedNews s g (reevaluated z)

section
variable (s : State) (g : Gallery) (x : LightPart) (l : List Instr)

theorem daySteps_at (n : Nat) :
    (lightSlice.at_ s g x l).daySteps g n = lightSlice.at_ s g (daysStepped n x) (l ++ daysNews g n x) := by
  induction n generalizing x l with
  | zero => simp [State.daySteps, daysStepped, daysNews]
  | succ n ih => rw [State.daySteps, dayStep_at, ih, daysStepped, daysNews, List.append_assoc]

theorem catchUp_at (i : StartInfo) :
    (lightSlice.at_ s g x l).catchUp g i = lightSlice.at_ s g (caughtUp i x) (l ++ caughtUpNews i g x) := by
  unfold State.catchUp caughtUp caughtUpNews gapFolded gapNews
  by_cases same : x.1.stamp.day = i.day ∧ x.1.stamp.hour = i.minute / 60
  · simp [same, sameHour, daySteps_at]
  · simp only [account_at, sameHour, same, if_false, decide_false, foldHour_at, daySteps_at, List.append_assoc,
      Bool.false_eq_true]

theorem warmLight_at (i : StartInfo) : State.warmLight i g (lightSlice.at_ s g x l) =
    lightSlice.at_ s g (lightWarmed i s.clock (s.startLightRec g) x) (l ++ lightWarmedNews i s g x) := by
  have rec_ : (lightSlice.at_ s g x l).startLightRec g = s.startLightRec g := rfl
  simp only [State.warmLight, rec_, setLight_at, catchUp_at, renewHour_at, reevalExhausted_at, recompute_at, lightWarmed,
    lightWarmedNews, List.append_assoc]

theorem coldLight_at : State.coldLight g (lightSlice.at_ s g x l) =
    lightSlice.at_ s g (recomputed s.clock (.cold, s.startLightRec g))
      (l ++ recomputedNews s g (.cold, s.startLightRec g)) := by
  have rec_ (y : LightPart) : (lightSlice.at_ s g y l).startLightRec g = s.startLightRec g := rfl
  simp only [State.coldLight, setAccount_at, rec_, setLight_at, recompute_at]

end

theorem warmLight_acts (i : StartInfo) : lightSlice.Acts (State.warmLight i)
    (fun s g => lightWarmed i s.clock (s.startLightRec g)) (lightWarmedNews i) :=
  .of_at (fun s g x l => warmLight_at s g x l i)
    (fun e => (congrArg (fun u : State => fun g => lightWarmed i u.clock (u.startLightRec g)) e :))
    (fun e => (congrArg (lightWarmedNews i) e :))

theorem coldLight_acts : lightSlice.Acts State.coldLight
    (fun s g _ => recomputed s.clock (.cold, s.startLightRec g))
    (fun s g _ => recomputedNews s g (.cold, s.startLightRec g)) :=
  .of_at coldLight_at
    (fun e => (congrArg (fun u : State => fun g (_ : LightPart) => recomputed u.clock (.cold, u.startLightRec g)) e :))
    (fun e => (congrArg (fun u : State => fun g (_ : LightPart) => recomputedNews u g (.cold, u.startLightRec g)) e :))

/-- What a start of the light account unit makes of the shares (R90 to R93). -/
theorem startLight_made (s : State) (i : StartInfo) :
    lightSlice.Made s (s.startLight i)
      (fun g x => match i.kind with
        | .cold => recomputed s.clock (.cold, s.startLightRec g)
        | .warm => lightWarmed i s.clock (s.startLightRec g) x)
      (fun g x => match i.kind with
        | .cold => recomputedNews s g (.cold, s.startLightRec g)
        | .warm => lightWarmedNews i s g x) := by
  unfold State.startLight
  cases i.kind
  · exact coldLight_acts.forGalleries s
  · exact (warmLight_acts i).forGalleries s

/-! ## Shares in order -/

/-- A light record in order: its declared level within the allowance, its over-counter within 120, and a darkened gallery
with no allowance (R94, R96, R102, R103). -/
def LightRecOk (r : LightRec) : Prop :=
  (∀ v, r.declared = some v → v ≤ r.allowance) ∧ r.overCount ≤ 120 ∧
    (r.dark = true → r.allowance = 0 ∧ r.pace = .darkened)

/-- A share in order. -/
def LightGood (x : LightPart) : Prop := AccountOk x.1 ∧ LightRecOk x.2

theorem lightInv_iff (s : State) :
    LightInv s ↔ (∀ g, AccountOk (s.account g)) ∧ (Ready s .light → ∀ g, LightRecOk (s.lightRec g)) := Iff.rfl

theorem accountOk_fold {a : Account} (h : AccountOk a) : AccountOk a.fold := by
  obtain ⟨used, carry, acc⟩ := h
  refine ⟨?_, ?_, Nat.zero_le _⟩
  · dsimp only [Account.fold]
    split
    · exact Nat.min_le_right _ _
    · exact used
  · show a.carry + a.hourAcc - (a.carry + a.hourAcc) / 36000 * 36000 < 36000
    omega

theorem accountOk_dayStepped {x : LightPart} (h : AccountOk x.1) : AccountOk (dayStepped x).1 := by
  have ⟨_, _, acc⟩ := h
  unfold dayStepped
  split
  · exact h
  · split
    · exact h
    · exact ⟨Nat.zero_le _, Nat.zero_lt_succ _, acc⟩

theorem accountOk_daysStepped {n : Nat} {x : LightPart} (h : AccountOk x.1) : AccountOk (daysStepped n x).1 := by
  induction n generalizing x with
  | zero => exact h
  | succ n ih => exact ih (accountOk_dayStepped h)

theorem accountOk_caughtUp {i : StartInfo} {x : LightPart} (h : AccountOk x.1) : AccountOk (caughtUp i x).1 := by
  refine accountOk_daysStepped ?_
  unfold gapFolded
  split
  · exact h
  · exact accountOk_fold h

theorem accountOk_periodTurned {dayFlag : Bool} {x : LightPart} (h : AccountOk x.1) : AccountOk (periodTurned dayFlag x).1 := by
  have ⟨_, _, acc⟩ := h
  unfold periodTurned
  split_ifs
  · exact ⟨Nat.zero_le _, Nat.zero_lt_succ _, acc⟩
  · exact accountOk_dayStepped h
  · exact h

theorem overCount_periodTurned (dayFlag : Bool) (x : LightPart) :
    (periodTurned dayFlag x).2.overCount = x.2.overCount := by
  unfold periodTurned dayStepped
  (repeat' split) <;> rfl

theorem lightRec_daysStepped (n : Nat) (x : LightPart) : (daysStepped n x).2 = x.2 := by
  have day (x : LightPart) : (dayStepped x).2 = x.2 := by
    unfold dayStepped
    (repeat' split) <;> rfl
  induction n generalizing x with
  | zero => rfl
  | succ n ih => exact (ih _).trans (day x)

theorem lightRec_caughtUp (i : StartInfo) (x : LightPart) : (caughtUp i x).2 = x.2 := by
  refine (lightRec_daysStepped _ _).trans ?_
  unfold gapFolded
  split <;> rfl

theorem accountOk_cold : AccountOk .cold := ⟨Nat.zero_le _, Nat.zero_lt_succ _, Nat.zero_le _⟩

/-- A recomputation puts the light record in order, whatever it was but for the over-counter (R96, R98). -/
theorem lightRecOk_recomputed (c : Clock) {x : LightPart} (count : x.2.overCount ≤ 120) : LightRecOk (recomputed c x).2 := by
  refine ⟨fun v declared => ?_, count, fun dark => ?_⟩
  · have lowered : lowerDeclared x.2.declared (recomputed c x).2.allowance = some v := declared
    cases d : x.2.declared with
    | none => simp [lowerDeclared, d] at lowered
    | some w =>
      simp only [lowerDeclared, d, Option.map_some, Option.some.injEq] at lowered
      omega
  · have dark : x.2.dark = true := dark
    simp [recomputed, recomputedRec, allowanceOf, dark]

theorem LightGood.recomputed {x : LightPart} (c : Clock) (account : AccountOk x.1) (count : x.2.overCount ≤ 120) :
    LightGood (recomputed c x) := ⟨account, lightRecOk_recomputed c count⟩

theorem LightGood.lightSecondPassed {x : LightPart} (h : LightGood x) (c : Clock) : LightGood (lightSecondPassed c x) := by
  obtain ⟨⟨used, carry, acc⟩, level, count, dark⟩ := h
  have accrues : LightGood (accrued x) := ⟨⟨used, carry, Nat.min_le_left _ _⟩, level, count, dark⟩
  have stepped (lux : Nat) {y : LightPart} (good : LightGood y) : LightGood (overJudged lux y) := by
    refine ⟨good.1, good.2.1, ?_, good.2.2.2⟩
    show overCounted lux y.2 ≤ 120
    unfold overCounted
    split_ifs <;> omega
  rw [lightSecondPassed_eq]
  refine stepped _ ?_
  split
  · exact LightGood.recomputed c accrues.1 accrues.2.2.1
  · exact accrues

theorem LightGood.lightHourPassed {x : LightPart} (h : LightGood x) (m : HourMark) (c : Clock) :
    LightGood (lightHourPassed m c x) := by
  refine .recomputed c ?_ ?_
  · exact accountOk_periodTurned (accountOk_fold h.1)
  · exact (overCount_periodTurned m.dayFlag (folded x)).trans_le h.2.2.1

theorem LightGood.lKept {x : LightPart} (h : LightGood x) (c : Clock) (st : ChanState) : LightGood (lKept c st x) := by
  unfold Machine.lKept
  dsimp only
  split
  · exact h
  · exact .recomputed c h.1 h.2.2.1

theorem LightGood.darkKept {x : LightPart} (h : LightGood x) (c : Clock) (idle : Bool) : LightGood (darkKept c idle x) := by
  unfold Machine.darkKept darkCopied
  split
  next => exact h
  next =>
    refine .recomputed c h.1 ?_
    dsimp only
    split
    · exact Nat.zero_le _
    · exact h.2.2.1

theorem LightGood.envKept {x : LightPart} (h : LightGood x) (c : Clock) (e : Envelope) : LightGood (envKept c e x) :=
  LightGood.recomputed (x := reevaluated (envCopied e x)) c h.1 h.2.2.1

/-! ## While the unit runs -/

/-- Every share is in order. -/
def LightRun (s : State) : Prop := ∀ g, LightGood (lightSlice.part s g)

theorem lightRun_own (s : State) : LightRun s ↔ LightRun (s.own .light) := Iff.rfl

theorem lightInv_own (s : State) : LightInv s ↔ LightInv (s.own .light) := by
  simp only [LightInv, ready_own]
  exact Iff.rfl

theorem LightRun.made {s t : State} (h : LightRun s) {φ : Gallery → LightPart → LightPart}
    {news : Gallery → LightPart → List Instr} (made : lightSlice.Made s t φ news)
    (good : ∀ g x, LightGood x → LightGood (φ g x)) : LightRun t := fun g => by
  rw [made.part g]
  exact good g _ (h g)

/-- One gallery's share moves. -/
theorem LightRun.one {s : State} (h : LightRun s) {f : Gallery → State → State} {φ : Slice.Edit LightPart}
    {news : Slice.News LightPart} (acts : lightSlice.Acts f φ news) (good : ∀ s g x, LightGood x → LightGood (φ s g x))
    (g : Gallery) : LightRun (f g s) :=
  h.made (acts.one g s) fun i x hx => by
    split
    · exact good s i x hx
    · exact hx

/-- A light record in order takes the place of another. -/
theorem LightRun.setLight {s : State} (h : LightRun s) (g : Gallery) {r : LightRec} (ok : LightRecOk r) :
    LightRun (s.setLight g r) := fun i => by
  by_cases e : i = g
  · subst e
    exact ⟨(h i).1, by simpa using ok⟩
  · simpa [e] using h i

theorem LightRun.inv {s : State} (h : LightRun s) : LightInv s := ⟨fun g => (h g).1, fun _ g => (h g).2⟩

theorem LightInv.run {s : State} (h : LightInv s) (ready : Ready s .light) : LightRun s := fun g => ⟨h.1 g, h.2 ready g⟩

theorem LightRun.lightMark {s t : State} (hs : LightRun s) {m : SecondStamp} (h : lightMark m s = .next t) : LightRun t :=
  deliver_keeps lightRun_own hs
    (fun s _ hs => hs.made (lightSecond_acts.forGalleries s) fun _ _ hx => hx.lightSecondPassed _) h

theorem LightRun.declareLevel {s : State} (h : LightRun s) (v : Nat) (g : Gallery) : LightRun (s.declareLevel v g).1 := by
  refine h.setLight g ⟨fun w eq => ?_, (h g).2.2⟩
  cases eq
  exact Nat.min_le_right _ _

theorem LightRun.withdrawLevel {s : State} (h : LightRun s) (g : Gallery) : LightRun (s.withdrawLevel g) :=
  h.setLight g ⟨nofun, (h g).2.2⟩

/-- What the light account unit does with a command keeps its shares in order. -/
theorem lightRun_taken {c : Instr} {s t : State} (hb : blockOf c = some .light) (hs : LightRun s)
    (h : exec c s = .next t) : LightRun t := by
  cases c <;> cases hb <;> dsimp only [exec] at h
  case secondMarkAtLight.refl => exact hs.lightMark h
  case overCounterExpiry.refl => exact onlyWhen_keeps hs hs.lightMark h
  case hourMarkAtLight.refl m =>
    refine deliver_keeps lightRun_own hs (fun s _ hs => hs.made ((lightHour_acts m).forGalleries s) fun g x hx => ?_) h
    exact hx.lightHourPassed m _
  case stateChangeAtLight.refl n =>
    refine deliver_keeps lightRun_own hs (fun s _ hs => ?_) h
    dsimp only
    split
    · exact hs.one (keepL_acts n.new) (fun s g x hx => hx.lKept _ _) n.chan.g
    · exact hs.setLight _ (hs _).2
    · exact hs
  case trackedUpdateAtLight.refl u =>
    refine deliver_keeps lightRun_own hs (fun s _ hs => ?_) h
    dsimp only
    split
    · exact hs.one (keepLux_acts u) (fun s g x hx => LightGood.lKept (x := (x.1, { x.2 with lCode := u.code })) hx _ _) u.chan.g
    · exact hs.one (keepUv_acts u) (fun s g x hx => hx) u.chan.g
    · exact hs
  case envelopeChangedAtLight.refl e =>
    exact deliver_keeps lightRun_own hs
      (fun s _ hs => hs.one (keepEnv_acts e.env) (fun s g x hx => hx.envKept _ _) e.g) h
  case darkeningStateAtLight.refl g idle =>
    exact deliver_keeps lightRun_own hs (fun s _ hs => hs.one (keepDark_acts idle) (fun s g x hx => hx.darkKept _ _) g) h
  case startPeriod.refl q =>
    have mark (g : Gallery) (s : State) (hs : LightRun s) :
        LightRun (if (s.lightRec g).startPending then (s, false)
          else (s.setLight g { s.lightRec g with startPending := true }, true)).1 := by
      split
      · exact hs
      · exact hs.setLight g (hs g).2
    refine request_keeps lightRun_own hs (fun s _ hs => ?_) h
    dsimp only
    split
    · exact hs
    · exact mark _ s hs
    · exact forMask_keeps mark hs
  case queryAllowance.refl q =>
    refine request_keeps lightRun_own hs (fun s _ hs => ?_) h
    dsimp only
    split
    · split <;> exact hs
    · exact hs
  case declareLevel.refl q =>
    refine request_keeps lightRun_own hs (fun s _ hs => ?_) h
    dsimp only
    split
    · exact hs
    · split
      · exact hs.withdrawLevel _
      · exact hs.declareLevel _ _
    · split
      · refine forGalleries_keeps (P := LightRun) (fun g s hs => ?_) hs
        exact LightRun.withdrawLevel hs g
      · refine forMask_keeps (P := LightRun) (fun g s hs => ?_) hs
        exact LightRun.declareLevel hs _ g

/-- A start puts every share in order once the accounts are. -/
theorem lightRun_start {s : State} (h : ∀ g, AccountOk (s.account g)) (i : StartInfo) : LightRun (s.startLight i) := fun g => by
  rw [(startLight_made s i).part g]
  split
  · exact .recomputed _ accountOk_cold (Nat.zero_le _)
  · refine .recomputed _ (accountOk_caughtUp (h g)) ?_
    show (caughtUp i (s.account g, s.startLightRec g)).2.overCount ≤ 120
    rw [lightRec_caughtUp]
    exact Nat.zero_le _

/-- Settles O12: the light account unit keeps each gallery's share in order, and no other block touches the shares. -/
theorem lightKept : Obligations.LightKept := by
  intro s t hs h
  refine step_keeps_own (o := .light) (by simp) (by simp) lightInv_own
    (fun hb ready hs h => (lightRun_taken hb (hs.run ready) h).inv) (fun e => by cases e) (fun e => by cases e)
    (fun e => by cases e) (fun {s} b i e running hs => ?starts) (fun {s} last off hs => ?warms) (fun {s} off hs => ?colds)
    (fun {s} hs => ?unpowers) (fun {s} hs => ?holds) hs h
  case starts =>
    have same : b = .light := by cases b <;> simp_all [startOwner]
    subst same
    have started : LightRun ((s.starting .light).startLight i) := by
      refine lightRun_start (fun g => ?_) i
      unfold State.starting
      split <;> exact hs.1 g
    refine LightRun.inv (fun g => ?_)
    unfold State.started
    dsimp only
    split <;> exact started g
  case warms => exact ⟨hs.1, fun ready => absurd ready (not_ready_beginStart _ _ _ _)⟩
  case colds => exact ⟨fun g => by cases g <;> exact accountOk_cold, fun ready => absurd ready (not_ready_beginStart _ _ _ _)⟩
  case unpowers => exact ⟨hs.1, fun ready => Phase.noConfusion ready.1⟩
  case holds => exact ⟨hs.1, fun ready => Phase.noConfusion ready.1⟩

end Sys2Proof.Machine
end

section
/-! SUPPORT. The climate unit's actions on one gallery, as what they make of its climate record and what they send (R109 to
R122). -/

namespace Sys2Proof.Machine
open Sys2Proof

namespace Slice
variable {α : Type} {S : Slice α} {f : Gallery → State → State} {φ : Edit α} {news : News α}

/-- A command that a ready block takes by an action on one gallery, known whole. -/
theorem Acts.delivers (h : S.Acts f φ news) {b : Block} {c : Instr} {s : State} (ready : Ready s b) (g : Gallery)
    (put_take : ∀ x, S.put (s.take c) g x = (S.put s g x).take c := by intro; rfl) :
    deliver b c s (f g) = .next (after s c (S.put s g (φ s g (S.part s g))) (news s g (S.part s g))) := by
  refine deliver_sends ready ?_ (S.put_inFlight _ _ _)
  rw [h.eq, h.edit_take, h.news_take, S.part_take, put_take]

end Slice

/-- The climate unit's share of a gallery, with what stands around the shares. -/
def climateSlice : Slice ClimateRec where
  part := State.climateRec
  put := State.setClimate
  around s := { s with climate := .all default, inFlight := [], checkCode := 0 }
  part_put s g a h := by by_cases e : h = g <;> simp [e]
  part_sendAll _ _ := rfl
  part_take _ _ := rfl
  part_seal _ := rfl
  around_put _ _ _ := rfl
  around_sendAll _ _ := rfl
  around_take _ _ := rfl
  around_seal _ := rfl
  put_inFlight _ _ _ := rfl
  put_put s g a b := by simp [State.setClimate, PerGallery.set_set]
  put_part s g := by simp [State.setClimate, State.climateRec, PerGallery.set_get_self]
  put_sendAll _ _ _ _ := rfl
  put_startComplete _ _ _ := rfl

@[simp] theorem climateSlice_part (s : State) (g : Gallery) : climateSlice.part s g = s.climateRec g := rfl

/-! ## Windows -/

/-- A pair of extremes, when both are present. -/
def pairOf (a b : Option Nat) : List (Nat × Nat) :=
  match a, b with
  | some x, some y => [(x, y)]
  | _, _ => []

/-- The window that covers pairs of extremes. -/
def windowOf (l : List (Nat × Nat)) : Window := ⟨(l.map Prod.fst).min?, (l.map Prod.snd).max?⟩

theorem lowerTo_min? (l : List Nat) (x : Nat) : lowerTo l.min? x = (l ++ [x]).min? := by
  cases l with
  | nil => rfl
  | cons a l => simp only [lowerTo, List.cons_append, List.min?_cons', List.foldl_append, List.foldl_cons, List.foldl_nil]

theorem raiseTo_max? (l : List Nat) (x : Nat) : raiseTo l.max? x = (l ++ [x]).max? := by
  cases l with
  | nil => rfl
  | cons a l => simp only [raiseTo, List.cons_append, List.max?_cons', List.foldl_append, List.foldl_cons, List.foldl_nil]

theorem windowOf_add (l : List (Nat × Nat)) (a b : Option Nat) : (windowOf l).add a b = windowOf (l ++ pairOf a b) := by
  cases a <;> cases b <;> simp [Window.add, windowOf, pairOf, lowerTo_min?, raiseTo_max?]

/-- Records joined one after another to a window. -/
theorem foldl_add {α : Type} (lo hi : α → Option Nat) (l : List α) (p : List (Nat × Nat)) :
    l.foldl (fun (w : Window) x => w.add (lo x) (hi x)) (windowOf p) =
      windowOf (p ++ l.flatMap fun x => pairOf (lo x) (hi x)) := by
  induction l generalizing p with
  | nil => simp
  | cons x l ih => rw [List.foldl_cons, windowOf_add, ih, List.append_assoc, List.flatMap_cons]

/-- The RH window of a gallery with the extremes `x` of its running hour (R111). -/
def rhWindowWith (s : State) (g : Gallery) (x : Extremes) : Window :=
  windowOf ((s.recent g).flatMap (fun r => pairOf r.rhMin r.rhMax) ++ pairOf x.rhMin x.rhMax)

/-- The T window of a gallery with the extremes `x` of its running hour (R111). -/
def tWindowWith (s : State) (g : Gallery) (x : Extremes) : Window :=
  windowOf ((s.recent g).flatMap (fun r => pairOf r.tMin r.tMax) ++ pairOf x.tMin x.tMax)

theorem rhWindow_eq (s : State) (g : Gallery) : s.rhWindow g = rhWindowWith s g (s.climateRec g).agg := by
  unfold State.rhWindow rhWindowWith
  dsimp only
  rw [← windowOf_add]
  exact congrArg (Window.add · _ _) (foldl_add HourRecord.rhMin HourRecord.rhMax (s.recent g) [])

theorem tWindow_eq (s : State) (g : Gallery) : s.tWindow g = tWindowWith s g (s.climateRec g).agg := by
  unfold State.tWindow tWindowWith
  dsimp only
  rw [← windowOf_add]
  exact congrArg (Window.add · _ _) (foldl_add HourRecord.tMin HourRecord.tMax (s.recent g) [])

theorem span_eq_spanOf (w : Window) : w.span = spanOf w := by
  obtain ⟨low, high⟩ := w
  cases low <;> cases high <;> rfl

theorem bandOf_eq_bandFor (w : Window) (lo hi swing : Nat) (kept : Option Nat) (mid : Nat) :
    bandOf w lo hi swing kept mid = bandFor w lo hi swing kept mid := by
  obtain ⟨low, high⟩ := w
  cases low <;> cases high <;> rfl

theorem computed_eq_banded (r : ClimateRec) (rhW tW : Window) : r.computed rhW tW = banded r rhW tW := by
  simp only [ClimateRec.computed, banded, rhBandOf, tBandOf, bandOf_eq_bandFor, span_eq_spanOf]
  rfl

/-! ## The pure actions -/

/-- The share after a judgement of one type (R119, R120, R122). -/
def judged (t : ClimateType) (opens closes : Bool) (r : ClimateRec) : ClimateRec :=
  r.setFlag t (flagAfter (r.flag t) opens closes)

theorem setFlag_flag (r : ClimateRec) (t : ClimateType) : r.setFlag t (r.flag t) = r := by cases t <;> rfl

/-- The record of a gallery with its bands computed on its windows (R114). -/
def bandedOn (s : State) (g : Gallery) (r : ClimateRec) : ClimateRec :=
  banded r (rhWindowWith s g r.agg) (tWindowWith s g r.agg)

/-- BAND_CHANGED when a band moved from `r` to `r'` (R114). -/
def bandTold (s : State) (g : Gallery) (r r' : ClimateRec) : List Instr :=
  if r'.rh = r.rh ∧ r'.t = r.t then [] else attention s .bandChanged (some g)

/-- The record of a gallery with its spans set from its windows (R114). -/
def spanned (s : State) (g : Gallery) (r : ClimateRec) : ClimateRec :=
  { r with rhSpan := spanOf (rhWindowWith s g r.agg), tSpan := spanOf (tWindowWith s g r.agg) }

/-- An open flag closed (R121). -/
def flagShut (t : ClimateType) (r : ClimateRec) : ClimateRec := r.setFlag t false

/-- What that sends. -/
def shutNews (g : Gallery) (t : ClimateType) (r : ClimateRec) : List Instr :=
  if r.flag t then [.closeNotice g (climateExc t)] else []

/-- The kept state of H takes a state (R121). -/
def hKept (n : ChanState) (r : ClimateRec) : ClimateRec :=
  if n = .disabled ∧ r.h.state ≠ .disabled then { r with h := { r.h with state := n }, rhHigh := false, rhLow := false }
  else { r with h := { r.h with state := n } }

/-- The kept state of T takes a state (R121). -/
def tKept (n : ChanState) (r : ClimateRec) : ClimateRec :=
  if n = .disabled ∧ r.tc.state ≠ .disabled then { r with tc := { r.tc with state := n }, tHigh := false, tLow := false }
  else { r with tc := { r.tc with state := n } }

/-- What closing both limit excursions of a channel that becomes DISABLED sends (R121). -/
def closingNews (g : Gallery) (n now : ChanState) (hi lo : ExcType) (fh fl : Bool) : List Instr :=
  if n = .disabled ∧ now ≠ .disabled then
    (if fh then [.closeNotice g hi] else []) ++ (if fl then [.closeNotice g lo] else [])
  else []

section
variable (s : State) (g : Gallery) (r : ClimateRec) (l : List Instr)

@[simp] theorem climateRec_at : (climateSlice.at_ s g r l).climateRec g = r := PerGallery.get_set_self _ _ _

@[simp] theorem setClimate_at (r' : ClimateRec) :
    (climateSlice.at_ s g r l).setClimate g r' = climateSlice.at_ s g r' l :=
  congrArg (fun t : PerGallery ClimateRec => { climateSlice.at_ s g r l with climate := t }) (PerGallery.set_set _ _ _ _)

@[simp] theorem rhWindow_at : (climateSlice.at_ s g r l).rhWindow g = rhWindowWith s g r.agg := by
  rw [rhWindow_eq, climateRec_at]
  rfl

@[simp] theorem tWindow_at : (climateSlice.at_ s g r l).tWindow g = tWindowWith s g r.agg := by
  rw [tWindow_eq, climateRec_at]
  rfl

@[simp] theorem judge_at (t : ClimateType) (opens closes : Bool) (limit value : Nat) :
    (climateSlice.at_ s g r l).judge g t opens closes limit value =
      climateSlice.at_ s g (judged t opens closes r) (l ++ judgeNotice g (climateExc t) (r.flag t) opens closes limit value) := by
  unfold State.judge judged judgeNotice flagAfter
  simp only [climateRec_at, setClimate_at, Slice.send_at]
  have stays (b : Bool) (h : r.flag t = b) : r.setFlag t b = r := by rw [← h, setFlag_flag]
  cases flag : r.flag t <;> cases opens <;> cases closes <;> simp [stays _ flag]

theorem judgeRh_at : (climateSlice.at_ s g r l).judgeRh g =
    climateSlice.at_ s g (limitedRh r) (l ++ limitNoticesRh g r) := by
  unfold State.judgeRh limitedRh limitNoticesRh
  simp only [climateRec_at]
  cases r.h.code with
  | none => simp
  | some x =>
    by_cases off : r.h.state = .disabled
    · simp [off]
    · simp only [off, if_false, State.judgePair, judge_at, List.append_assoc]
      rfl

theorem judgeT_at : (climateSlice.at_ s g r l).judgeT g =
    climateSlice.at_ s g (limitedT r) (l ++ limitNoticesT g r) := by
  unfold State.judgeT limitedT limitNoticesT
  simp only [climateRec_at]
  cases r.tc.code with
  | none => simp
  | some x =>
    by_cases off : r.tc.state = .disabled
    · simp [off]
    · simp only [off, if_false, State.judgePair, judge_at, List.append_assoc]
      rfl

theorem judgeSpan_at (t : ClimateType) (span : Option Nat) (swing du : Nat) :
    (climateSlice.at_ s g r l).judgeSpan g t span swing du =
      climateSlice.at_ s g (r.setFlag t (swingAfter (r.flag t) span swing du))
        (l ++ swingNotice g (climateExc t) (r.flag t) span swing du) := by
  unfold State.judgeSpan swingAfter swingNotice
  cases span with
  | none => simp [setFlag_flag]
  | some v => exact judge_at s g r l t _ _ _ _

theorem judgeSwing_at : (climateSlice.at_ s g r l).judgeSwing g =
    climateSlice.at_ s g (swung r) (l ++ swingNotices g r) := by
  unfold State.judgeSwing swung swingNotices
  simp only [climateRec_at, judgeSpan_at, List.append_assoc]
  rfl

theorem computeBands_at : (climateSlice.at_ s g r l).computeBands g =
    climateSlice.at_ s g (swung (bandedOn s g r)) (l ++ swingNotices g (bandedOn s g r)) := by
  unfold State.computeBands
  simp only [climateRec_at, rhWindow_at, tWindow_at, setClimate_at, computed_eq_banded, judgeSwing_at, bandedOn]

theorem computeAndTell_at : (climateSlice.at_ s g r l).computeAndTell g =
    climateSlice.at_ s g (swung (bandedOn s g r))
      (l ++ (swingNotices g (bandedOn s g r) ++ bandTold s g r (bandedOn s g r))) := by
  have rh : (swung (bandedOn s g r)).rh = (bandedOn s g r).rh := rfl
  have t : (swung (bandedOn s g r)).t = (bandedOn s g r).t := rfl
  unfold State.computeAndTell bandTold
  simp only [climateRec_at, computeBands_at, Slice.attend_at, rh, t]
  split <;> simp

theorem closeFlag_at (t : ClimateType) : (climateSlice.at_ s g r l).closeFlag g t =
    climateSlice.at_ s g (flagShut t r) (l ++ shutNews g t r) := by
  unfold State.closeFlag flagShut shutNews
  simp only [climateRec_at, setClimate_at, Slice.send_at]
  cases flag : r.flag t
  · have stays : r.setFlag t false = r := by rw [← flag, setFlag_flag]
    simp [stays]
  · simp

theorem keepH_at (n : ChanState) : (climateSlice.at_ s g r l).keepH g n =
    climateSlice.at_ s g (hKept n r) (l ++ closingNews g n r.h.state .rhHigh .rhLow r.rhHigh r.rhLow) := by
  unfold State.keepH hKept closingNews
  simp only [climateRec_at, setClimate_at, closeFlag_at]
  split
  · rw [List.append_assoc]
    rfl
  · simp

theorem keepT_at (n : ChanState) : (climateSlice.at_ s g r l).keepT g n =
    climateSlice.at_ s g (tKept n r) (l ++ closingNews g n r.tc.state .tHigh .tLow r.tHigh r.tLow) := by
  unfold State.keepT tKept closingNews
  simp only [climateRec_at, setClimate_at, closeFlag_at]
  split
  · rw [List.append_assoc]
    rfl
  · simp

end

/-! ## The actions -/

theorem computeAndTell_acts :
    climateSlice.Acts (fun g s => s.computeAndTell g) (fun s g r => swung (bandedOn s g r))
      (fun s g r => swingNotices g (bandedOn s g r) ++ bandTold s g r (bandedOn s g r)) :=
  .of_at computeAndTell_at
    (fun e => (congrArg (fun (u : State) g r => swung (bandedOn u g r)) e :))
    (fun e => (congrArg (fun (u : State) g r => swingNotices g (bandedOn u g r) ++ bandTold u g r (bandedOn u g r)) e :))

/-- The extremes of an aggregate change copied (R110). -/
def aggCopied (x : Extremes) (r : ClimateRec) : ClimateRec := { r with agg := x }

theorem keepAgg_acts (x : Extremes) :
    climateSlice.Acts (fun g s => ((s.setClimate g { s.climateRec g with agg := x }).setSpans g).judgeSwing g)
      (fun s g r => swung (spanned s g (aggCopied x r))) (fun s g r => swingNotices g (spanned s g (aggCopied x r))) :=
  .of_at (fun s g r l => by
      simp only [State.setSpans, climateRec_at, rhWindow_at, tWindow_at, setClimate_at, judgeSwing_at, span_eq_spanOf, spanned,
        aggCopied])
    (fun e => (congrArg (fun (u : State) g r => swung (spanned u g (aggCopied x r))) e :))
    (fun e => (congrArg (fun (u : State) g r => swingNotices g (spanned u g (aggCopied x r))) e :))

/-- An envelope copied (R110). -/
def climateEnvCopied (e : Envelope) (r : ClimateRec) : ClimateRec := { r with env := e }

theorem keepClimateEnv_acts (e : Envelope) :
    climateSlice.Acts
      (fun g s => (((s.setClimate g { s.climateRec g with env := e }).computeAndTell g).judgeRh g).judgeT g)
      (fun s g r => limitedT (limitedRh (swung (bandedOn s g (climateEnvCopied e r)))))
      (fun s g r =>
        let b := bandedOn s g (climateEnvCopied e r)
        swingNotices g b ++ bandTold s g (climateEnvCopied e r) b ++ limitNoticesRh g (swung b) ++
          limitNoticesT g (limitedRh (swung b))) :=
  .of_at (fun s g r l => by
      simp only [climateRec_at, setClimate_at, computeAndTell_at, judgeRh_at, judgeT_at, climateEnvCopied, List.append_assoc])
    (fun h => (congrArg (fun (u : State) g r => limitedT (limitedRh (swung (bandedOn u g (climateEnvCopied e r))))) h :))
    (fun h => (congrArg (fun (u : State) g r =>
        let b := bandedOn u g (climateEnvCopied e r)
        swingNotices g b ++ bandTold u g (climateEnvCopied e r) b ++ limitNoticesRh g (swung b) ++
          limitNoticesT g (limitedRh (swung b))) h :))

theorem keepH_acts (n : ChanState) :
    climateSlice.Acts (fun g s => s.keepH g n) (fun _ _ => hKept n)
      (fun _ g r => closingNews g n r.h.state .rhHigh .rhLow r.rhHigh r.rhLow) :=
  .of_at (fun s g r l => keepH_at s g r l n) (fun _ => rfl) (fun _ => rfl)

theorem keepT_acts (n : ChanState) :
    climateSlice.Acts (fun g s => s.keepT g n) (fun _ _ => tKept n)
      (fun _ g r => closingNews g n r.tc.state .tHigh .tLow r.tHigh r.tLow) :=
  .of_at (fun s g r l => keepT_at s g r l n) (fun _ => rfl) (fun _ => rfl)

/-- The code and deviation unit of H copied (R110). -/
def hCopied (u : TrackedUpdate) (r : ClimateRec) : ClimateRec := { r with h := { r.h with code := u.code, du := u.du } }

/-- The code and deviation unit of T copied (R110). -/
def tCopied (u : TrackedUpdate) (r : ClimateRec) : ClimateRec := { r with tc := { r.tc with code := u.code, du := u.du } }

/-- A tracked update of H taken (R110, R119, R121). -/
theorem trackH_acts (u : TrackedUpdate) :
    climateSlice.Acts
      (fun g s => ((s.setClimate g { s.climateRec g with h := { (s.climateRec g).h with code := u.code, du := u.du } }).keepH g
        u.state).judgeRh g)
      (fun _ _ r => limitedRh (hKept u.state (hCopied u r)))
      (fun _ g r => closingNews g u.state r.h.state .rhHigh .rhLow r.rhHigh r.rhLow ++
        limitNoticesRh g (hKept u.state (hCopied u r))) :=
  .of_at (fun s g r l => by
      simp only [climateRec_at, setClimate_at, keepH_at, judgeRh_at, hCopied, List.append_assoc])
    (fun _ => rfl) (fun _ => rfl)

/-- A tracked update of T taken (R110, R120, R121). -/
theorem trackT_acts (u : TrackedUpdate) :
    climateSlice.Acts
      (fun g s => ((s.setClimate g { s.climateRec g with tc := { (s.climateRec g).tc with code := u.code, du := u.du } }).keepT
        g u.state).judgeT g)
      (fun _ _ r => limitedT (tKept u.state (tCopied u r)))
      (fun _ g r => closingNews g u.state r.tc.state .tHigh .tLow r.tHigh r.tLow ++
        limitNoticesT g (tKept u.state (tCopied u r))) :=
  .of_at (fun s g r l => by
      simp only [climateRec_at, setClimate_at, keepT_at, judgeT_at, tCopied, List.append_assoc])
    (fun _ => rfl) (fun _ => rfl)

end Sys2Proof.Machine
end

section
/-! SUPPORT. The statements about the climate unit's bands and its kept copies. -/

namespace Sys2Proof.Machine
open Sys2Proof

/-- The limits of H have no part in the notices of those of T. -/
theorem limitNoticesT_limitedRh (g : Gallery) (r : ClimateRec) : limitNoticesT g (limitedRh r) = limitNoticesT g r := by
  unfold limitedRh
  (repeat' split) <;> rfl

theorem forGalleries_editClimate (φ : ClimateRec → ClimateRec) (s : State) :
    forGalleries (editClimate φ) s = { s with climate := .ofFn fun g => φ (s.climateRec g) } := by
  rw [forGalleries_editClimate_eq_climateWritten (b := 7) rfl]
  simp only [climateWritten, addresses_all (b := 7) rfl, if_true]

/-- Settles O40: the windows cover the pairs present, and each of the three events is the unit's action on the gallery's
record. -/
theorem bandsComputed : Obligations.BandsComputed := by
  unfold Obligations.BandsComputed
  intro g day hour a e s ready
  refine ⟨rhWindow_eq s g, tWindow_eq s g, ?_, ?_, ?_⟩
  · rw [rhWindow_eq, tWindow_eq]
    exact computeAndTell_acts.delivers ready g
  · rintro rfl
    dsimp only
    rw [rhWindow_eq, tWindow_eq, State.climateRec_setClimate, if_pos rfl]
    exact (keepAgg_acts ⟨a.rhMin, a.rhMax, a.tMin, a.tMax⟩).delivers ready a.g
  · rintro rfl
    rw [rhWindow_eq, tWindow_eq]
    refine ((keepClimateEnv_acts e.env).delivers ready e.g).trans ?_
    dsimp only
    rw [limitNoticesT_limitedRh]
    rfl

/-- Settles O41: each notice is the unit's action on the gallery's record, and ABSENT withdraws the setpoints of all six. -/
theorem climateCopiesKept : Obligations.ClimateCopiesKept := by
  unfold Obligations.ClimateCopiesKept
  intro g k o n f1 f2 u p s ready same
  subst same
  refine ⟨?_, ?_, ?_, ?_, ?_⟩
  · rintro rfl
    exact (keepH_acts n).delivers ready u.chan.g
  · rintro rfl
    exact (keepT_acts n).delivers ready u.chan.g
  · dsimp only [exec, execStateChangeAtClimate]
    rintro (rfl | rfl) <;> exact deliver_silent ready rfl
  · dsimp only [exec, execTrackedUpdateAtClimate]
    cases u.chan.k
    case rh => exact (trackH_acts u).delivers ready u.chan.g
    case temp => exact (trackT_acts u).delivers ready u.chan.g
    case lux => exact deliver_silent ready rfl
    case uv => exact deliver_silent ready rfl
  · dsimp only [exec, execPresenceNoticeAtClimate]
    by_cases absent : p = .absent
    · simp only [absent, if_true]
      exact deliver_silent ready (forGalleries_editClimate (fun r => { r with rhSet := none, tSet := none }) _)
    · simp only [absent, if_false]
      exact deliver_silent ready rfl

end Sys2Proof.Machine
end

section
/-! SUPPORT. The envelope table: its actions on one gallery, COMMIT, DISCARD and LOAN LOCK, and the hour mark (R57 to R69). -/

namespace Sys2Proof.Machine
open Sys2Proof

/-- What the envelope table holds of a gallery. -/
abbrev EnvPart := EnvRetained × EnvStaged

/-- The envelope table's share of a gallery, with what stands around the shares. -/
def envSlice : Slice EnvPart where
  part s g := (s.ret.env.get g, s.envStaged g)
  put s g x := (s.setEnvRet g x.1).setEnvStaged g x.2
  around s := { s with env := .all default, ret := { s.ret with env := .all default }, inFlight := [], checkCode := 0 }
  part_put s g a h := by by_cases e : h = g <;> simp [State.envStaged, PerGallery.get_set, e]
  part_sendAll _ _ := rfl
  part_take _ _ := rfl
  part_seal _ := rfl
  around_put _ _ _ := rfl
  around_sendAll _ _ := rfl
  around_take _ _ := rfl
  around_seal _ := rfl
  put_inFlight _ _ _ := rfl
  put_put s g a b := by simp [State.setEnvRet, State.setEnvStaged, PerGallery.set_set]
  put_part s g := by simp [State.setEnvRet, State.setEnvStaged, State.envStaged, PerGallery.set_get_self]
  put_sendAll _ _ _ _ := rfl
  put_startComplete _ _ _ := rfl

theorem envSlice_part (s : State) (g : Gallery) : envSlice.part s g = (s.ret.env.get g, s.envStaged g) := rfl

/-- The state with every gallery's share of the envelope table written. -/
def envWritten (x : Gallery → EnvPart) (s : State) : State :=
  { s with ret := { s.ret with env := .ofFn fun g => (x g).1 }, env := .ofFn fun g => (x g).2 }

/-- What a taken command that makes over the shares leaves is known whole. -/
theorem after_of_envMade {c : Instr} {s u : State} {φ : Gallery → EnvPart → EnvPart} {news : Gallery → EnvPart → List Instr}
    (made : envSlice.Made (s.take c) u φ news) (l : List Instr) :
    (u.sendAll l).seal = after s c (envWritten (fun g => φ g (envSlice.part s g)) s)
      (galleries.flatMap (fun g => news g (envSlice.part s g)) ++ l) := by
  have rets : u.ret.env = .ofFn fun g => (φ g (envSlice.part s g)).1 :=
    PerGallery.ext_get fun g => by
      rw [PerGallery.get_ofFn]
      exact congrArg Prod.fst (made.part g)
  have stageds : u.env = .ofFn fun g => (φ g (envSlice.part s g)).2 :=
    PerGallery.ext_get fun g => by
      rw [PerGallery.get_ofFn]
      exact congrArg Prod.snd (made.part g)
  have known : (u.sendAll l).seal =
      { envSlice.around u with
        ret := { (envSlice.around u).ret with env := u.ret.env }, env := u.env, inFlight := u.inFlight ++ l,
        checkCode := Config.checkCodeOf { (envSlice.around u).ret with env := u.ret.env } } := rfl
  rw [known, made.around, made.inFlight, rets, stageds, List.append_assoc]
  rfl

/-! ## The actions -/

section
variable (s : State) (g : Gallery) (x : EnvPart) (l : List Instr)

@[simp] theorem envRet_at : (envSlice.at_ s g x l).ret.env.get g = x.1 := PerGallery.get_set_self _ _ _

@[simp] theorem envStaged_at : (envSlice.at_ s g x l).envStaged g = x.2 := PerGallery.get_set_self _ _ _

@[simp] theorem active_at_env : (envSlice.at_ s g x l).active g = x.1.active := congrArg EnvRetained.active (envRet_at s g x l)

@[simp] theorem setEnvRet_at (r : EnvRetained) :
    (envSlice.at_ s g x l).setEnvRet g r = envSlice.at_ s g (r, x.2) l :=
  congrArg (fun t => { envSlice.at_ s g x l with ret := { (envSlice.at_ s g x l).ret with env := t } })
    (PerGallery.set_set _ _ _ _)

@[simp] theorem setEnvStaged_at (r : EnvStaged) :
    (envSlice.at_ s g x l).setEnvStaged g r = envSlice.at_ s g (x.1, r) l :=
  congrArg (fun t : PerGallery EnvStaged => { envSlice.at_ s g x l with env := t }) (PerGallery.set_set _ _ _ _)

end

/-- A pending commit applied (R65). -/
def committed (x : EnvPart) : EnvPart :=
  if x.2.commitPending then ({ x.1 with active := x.2.staged }, { x.2 with commitPending := false }) else x

/-- What that sends (R65, R66). -/
def committedNews (s : State) (g : Gallery) (x : EnvPart) : List Instr :=
  let e : EnvelopeChange := ⟨g, x.2.staged, changedFields x.1.active x.2.staged⟩
  if x.2.commitPending then
    [.envelopeChangedAtLight e, .envelopeChangedAtClimate e, .envelopeChangedAtDarkening e] ++
      attention s .envelopeCommitted (some g)
  else []

/-- The same, with the changed fields as those whose values differ. -/
theorem committedNews_eq (s : State) (g : Gallery) (x : EnvPart) :
    committedNews s g x =
      let e : EnvelopeChange := ⟨g, x.2.staged, envFields.filter fun f => envGet x.1.active f ≠ envGet x.2.staged f⟩
      if x.2.commitPending then
        [.envelopeChangedAtLight e, .envelopeChangedAtClimate e, .envelopeChangedAtDarkening e] ++
          attention s .envelopeCommitted (some g)
      else [] := by
  have differ : changedFields x.1.active x.2.staged =
      envFields.filter fun f => envGet x.1.active f ≠ envGet x.2.staged f :=
    congrArg (envFields.filter ·) (funext fun f => by simp [bne, beq_eq_decide])
  unfold committedNews
  rw [differ]

theorem applyCommit_acts :
    envSlice.Acts (fun g s => s.applyCommit g) (fun _ _ => committed) committedNews := by
  refine .of_at (fun s g x l => ?_) (fun _ => rfl) (fun e => (congrArg committedNews e :))
  unfold State.applyCommit committed committedNews
  simp only [envStaged_at, envRet_at, active_at_env, setEnvRet_at, setEnvStaged_at, State.sendEnvelopeChange, Slice.send_at,
    Slice.attend_at]
  split
  · simp only [List.append_assoc]
    rfl
  · simp

theorem writeStaged_acts (f : EnvField) (v : Nat) :
    envSlice.Acts (fun g s => s.writeStaged f v g) (fun _ _ x => (x.1, x.2.write f v)) (fun _ _ _ => []) :=
  .of_at (fun s g x l => by simp [State.writeStaged, EnvStaged.write]) (fun _ => rfl) (fun _ => rfl)

theorem discardStaged_acts :
    envSlice.Acts (fun g s => s.discardStaged g) (fun _ _ x => (x.1, ⟨x.1.active, false⟩)) (fun _ _ _ => []) :=
  .of_at (fun s g x l => by simp [State.discardStaged]) (fun _ => rfl) (fun _ => rfl)

theorem setCommit_acts :
    envSlice.Acts (fun g s => s.setCommit g) (fun _ _ x => (x.1, { x.2 with commitPending := true })) (fun _ _ _ => []) :=
  .of_at (fun s g x l => by simp [State.setCommit]) (fun _ => rfl) (fun _ => rfl)

theorem setLoan_acts (on : Bool) :
    envSlice.Acts (fun g s => s.setLoan g on) (fun _ _ x => ({ x.1 with loanLock := on }, x.2)) (fun _ _ _ => []) :=
  .of_at (fun s g x l => by simp [State.setLoan]) (fun _ => rfl) (fun _ => rfl)

/-! ## Requests judged gallery by gallery -/

/-- A request that is judged in each gallery it names before any is changed (R60, R64, R69). -/
def judgedAct (b : BitVec 3) (judge : State → Gallery → Option (Result × Nat)) (f : Gallery → State → State) (data : Nat)
    (s : State) : Taken :=
  match gallerySel b with
  | .bad => refuse s .range
  | .one g =>
    match judge s g with
    | some (res, d) => (s, res, d)
    | none => (f g s, .ok, data)
  | .all => judgeAll s (judge s) f .ok data

/-- The first gallery with a value, with the value. -/
theorem firstGallery_eq {α : Type} (f : Gallery → Option α) (a : α) :
    firstGallery f = (galleries.find? fun g => (f g).isSome).map fun g => (g, (f g).getD a) := by
  rw [← firstGallery_guarded]
  refine congrArg firstGallery (funext fun g => ?_)
  cases f g <;> rfl

/-- What such a request leaves: RANGE for gallery 6, the refusal of the lowest-numbered gallery that refuses, or the action
done in the galleries named. -/
theorem judgedAct_eq (b : BitVec 3) (judge : State → Gallery → Option (Result × Nat)) (f : Gallery → State → State)
    (data : Nat) (s : State) :
    judgedAct b judge f data s =
      if b = 6 then refuse s .range
      else match firstAddressed b fun g => (judge s g).isSome with
        | some g =>
          (s, ((judge s g).getD (.none, 0)).1, refusedBy b g ((judge s g).getD (.none, 0)).2)
        | none => (Slice.onNamed b f s, .ok, data) := by
  unfold judgedAct Slice.onNamed
  obtain ⟨g, sel, num⟩ | ⟨sel, num⟩ | ⟨sel, six⟩ := gallerySel_cases b
  · have small := galleryNum_lt g
    have known : b ≠ 6 := by bv_omega
    have single : b.toNat ≠ 7 := by omega
    simp only [sel, firstAddressed_one num, if_neg known]
    cases refused : judge s g with
    | none => rfl
    | some r => simp [refusedBy, single, refused]
  · have known : b ≠ 6 := by bv_omega
    simp only [sel, if_neg known, firstAddressed_all num, judgeAll, firstGallery_eq (judge s) (.none, 0)]
    cases galleries.find? fun g => (judge s g).isSome with
    | none => rfl
    | some g => simp [refusedBy, num]
  · simp only [sel, if_pos six]

/-- The state after a request that is judged so, as the claims write it. -/
def judgedAnswer (q : Req) (s : State) (i : Instr) (code : Nat) (refusal : Gallery → Option (Result × Nat)) (t : State)
    (data : Nat) : State :=
  if q.port ≠ .conservation then after s i s (reply q code .notPermitted 0)
  else if q.gallery = 6 then after s i s (reply q code .range 0)
  else
    match firstAddressed q.gallery fun g => (refusal g).isSome with
    | some g =>
      after s i s (reply q code ((refusal g).getD (.none, 0)).1 (refusedBy q.gallery g ((refusal g).getD (.none, 0)).2))
    | none => after s i t (reply q code .ok data)

/-- A request judged so is taken by an action on the galleries it names. -/
theorem request_judged {q : Req} {s : State} (ready : Ready s .envelope) (i : Instr) (code : Nat)
    (judge : State → Gallery → Option (Result × Nat)) {f : Gallery → State → State} {φ : Slice.Edit EnvPart}
    (acts : envSlice.Acts f φ (fun _ _ _ => [])) (data : Nat) (edit_take : φ (s.take i) = φ s := by rfl)
    (judge_take : judge (s.take i) = judge s := by rfl) :
    request .envelope i code conservationOnly q s (judgedAct q.gallery judge f data) =
      .next (judgedAnswer q s i code (judge s)
        (envWritten (fun g => Slice.named q.gallery (φ s) g (envSlice.part s g)) s) data) := by
  unfold judgedAnswer
  by_cases port : q.port = .conservation
  · have permitted : conservationOnly q.port = true := by rw [port]; rfl
    rw [request_ready ready _ _ permitted, if_neg (not_not.2 port), judgedAct_eq, judge_take]
    refine congrArg _ ?_
    split
    · exact seal_sendAll_take rfl i _
    · cases firstAddressed q.gallery _ with
      | some g => exact seal_sendAll_take rfl i _
      | none =>
        refine (after_of_envMade (acts.onNamed q.gallery (s.take i)) _).trans ?_
        rw [edit_take]
        refine congrArg (after s i _) ?_
        simp [galleries, Slice.namedNews]
        rfl
  · have barred : conservationOnly q.port = false := beq_false_of_ne port
    rw [if_pos port]
    exact request_notPermitted ready _ _ barred _

/-! ## COMMIT, DISCARD and LOAN LOCK -/

/-- The six checks, in their order (R63). -/
def commitChecks (e : Envelope) : List Bool :=
  [decide (e.lmin ≤ e.lmax), decide (e.lclosed ≤ e.lmax), decide (e.lmax < e.lhard), decide (e.ldark < e.lhard),
    decide (e.tmin < e.tmax), decide (e.ostart < e.oend)]

/-- The check that fails first, counted from 1 (R63). -/
theorem firstFailedCheck_eq (e : Envelope) :
    firstFailedCheck e = ((commitChecks e).findIdx? fun ok => !ok).map (· + 1) := by
  unfold firstFailedCheck commitChecks
  by_cases lmin : e.lmin ≤ e.lmax
  · by_cases lclosed : e.lclosed ≤ e.lmax
    · by_cases lhard : e.lmax < e.lhard
      · by_cases ldark : e.ldark < e.lhard
        · by_cases temp : e.tmin < e.tmax
          · by_cases hours : e.ostart < e.oend <;> simp [List.findIdx?_cons, lmin, lclosed, lhard, ldark, temp, hours]
          · simp [List.findIdx?_cons, lmin, lclosed, lhard, ldark, temp]
        · simp [List.findIdx?_cons, lmin, lclosed, lhard, ldark]
      · simp [List.findIdx?_cons, lmin, lclosed, lhard]
    · simp [List.findIdx?_cons, lmin, lclosed]
  · simp [List.findIdx?_cons, lmin]

/-- The first field that meets a condition, by its number. -/
theorem findField_eq (p : EnvField → Bool) :
    ((List.range 19).find? fun n => match envFields[n]? with | some f => p f | none => false) =
      (envFields.find? p).map envFieldNum := by
  have numbers : List.range 19 = envFields.map envFieldNum := by decide
  have field (f : EnvField) : envFields[envFieldNum f]? = some f := by cases f <;> rfl
  rw [numbers, List.find?_map]
  refine congrArg (fun p => Option.map envFieldNum (envFields.find? p)) (funext fun f => ?_)
  simp only [Function.comp_apply, field]

/-- How COMMIT judges a gallery: its pending flag, its loan field by field, and the six checks (R62, R63). -/
theorem judgeCommit_eq (s : State) (g : Gallery) :
    judgeCommit s g =
      if (s.envStaged g).commitPending then some (.pending, 0)
      else
        match ((List.range 19).find? fun n => s.loanLock g &&
          match envFields[n]? with
          | some f => !loanPermits (loanDirection f) (envGet (s.active g) f) (envGet (s.envStaged g).staged f)
          | none => false), (commitChecks (s.envStaged g).staged).findIdx? fun ok => !ok with
        | some n, _ => some (.locked, n)
        | none, some n => some (.inconsistent, n + 1)
        | none, none => none := by
  unfold judgeCommit
  dsimp only
  rw [firstFailedCheck_eq]
  cases (s.envStaged g).commitPending
  · cases s.loanLock g
    · have unlocked : ((List.range 19).find? fun _ => false) = none := by simp
      simp only [Bool.false_and, unlocked]
      cases (commitChecks (s.envStaged g).staged).findIdx? _ <;> rfl
    · simp only [Bool.true_and, findField_eq, firstLoanViolation, if_true]
      cases envFields.find? _
      · cases (commitChecks (s.envStaged g).staged).findIdx? _ <;> rfl
      · rfl
  · rfl

theorem envWritten_eq {x : Gallery → EnvPart} {s : State} {r : Gallery → EnvRetained} {v : Gallery → EnvStaged}
    (share : ∀ g, x g = (r g, v g)) :
    envWritten x s = { s with ret := { s.ret with env := .ofFn r }, env := .ofFn v } := by
  rw [show x = fun g => (r g, v g) from funext share]
  rfl

theorem ofFn_env (s : State) : (PerGallery.ofFn fun g => s.ret.env.get g) = s.ret.env := by
  cases s.ret.env
  rfl

theorem ofFn_envStaged (s : State) : PerGallery.ofFn s.envStaged = s.env := by
  show (PerGallery.ofFn fun g => s.env.get g) = s.env
  cases s.env
  rfl

/-- Settles O34: each request is judged in the galleries it names and then changes them all. -/
theorem commitJudged : Obligations.CommitJudged := by
  unfold Obligations.CommitJudged
  intro q s ready checks locked failed refusal set answer
  have staged (f : EnvPart → EnvStaged) :
      envWritten (fun g => Slice.named q.gallery (fun _ x => (x.1, f x)) g (envSlice.part s g)) s =
        { s with env := .ofFn fun g => if addresses q.gallery g then f (envSlice.part s g) else s.envStaged g } := by
    refine (envWritten_eq (r := fun g => s.ret.env.get g) fun g => ?_).trans (by rw [ofFn_env])
    unfold Slice.named
    split <;> rfl
  refine ⟨?_, ?_, ?_⟩
  · refine (request_judged ready (.commit q) 0x11 judgeCommit setCommit_acts 0).trans ?_
    rw [show judgeCommit s = refusal from funext fun g => judgeCommit_eq s g,
      staged fun x => { x.2 with commitPending := true }]
    rfl
  · refine (request_judged ready (.discard q) 0x12 (fun _ _ => none) discardStaged_acts 0).trans ?_
    rw [staged fun x => ⟨x.1.active, false⟩]
    rfl
  · have on : (q.value != 0) = set := by simp [set, bne, beq_eq_decide]
    refine (request_judged ready (.loanLock q) 0x13
      (fun s g => if (s.envStaged g).commitPending then some (.pending, 0) else none) (setLoan_acts (q.value != 0))
      (q.value != 0).toNat).trans ?_
    rw [on, envWritten_eq (v := s.envStaged)
      (r := fun g => if addresses q.gallery g then ⟨s.active g, set⟩ else s.ret.env.get g), ofFn_envStaged]
    · cases set <;> rfl
    · intro g
      unfold Slice.named
      split <;> rfl

/-- Settles O35: the hour mark is the commit applied in each gallery in turn. -/
theorem commitApplied : Obligations.CommitApplied := by
  unfold Obligations.CommitApplied
  intro m s ready i due new
  have made := applyCommit_acts.forGalleries (s.take i)
  rw [applyCommit_acts.news_take] at made
  have whole := after_of_envMade made []
  rw [State.sendAll_nil, List.append_nil] at whole
  refine (deliver_ready ready i _).trans (congrArg _ (whole.trans ?_))
  have share (g : Gallery) : committed (envSlice.part s g) =
      (if due g then ⟨new g, s.loanLock g⟩ else s.ret.env.get g, if due g then ⟨new g, false⟩ else s.envStaged g) := by
    unfold committed
    show (if due g = true then _ else _) = _
    cases due g <;> rfl
  rw [envWritten_eq share]
  refine congrArg (after s i _) (congrArg (galleries.flatMap ·) (funext fun g => ?_))
  exact committedNews_eq s g _

end Sys2Proof.Machine
end

section
/-! SUPPORT. The invariant of the envelope table through every step, and the loan directions. -/

namespace Sys2Proof.Machine
open Sys2Proof

namespace Slice
variable {α : Type} {S : Slice α} {R : α → α → Prop}

/-- A relation of shares that holds of what an action makes of them holds of what a delivery makes of them. -/
theorem deliver_moves (refl : ∀ x, R x x) {b : Block} {c : Instr} {s t : State} {act : State → State}
    (acts : ∀ g, R (S.part (s.take c) g) (S.part (act (s.take c)) g)) (h : deliver b c s act = .next t)
    (wait : S.part (s.wait c) = S.part s := by rfl) (g : Gallery) : R (S.part s g) (S.part t g) := by
  rcases deliver_cases h with ⟨-, rfl⟩ | ⟨-, -, rfl⟩ | ⟨-, rfl⟩
  · exact refl _
  · rw [wait]
    exact refl _
  · have moves := acts g
    rwa [S.part_take, ← S.part_seal (act (s.take c))] at moves

/-- The same for a request. -/
theorem request_moves (refl : ∀ x, R x x) {b : Block} {c : Instr} {code : Nat} {permitted : Port → Bool} {q : Req}
    {s t : State} {act : State → Machine.Taken} (acts : ∀ g, R (S.part (s.take c) g) (S.part (act (s.take c)).1 g))
    (h : request b c code permitted q s act = .next t) (wait : S.part (s.wait c) = S.part s := by rfl) (g : Gallery) :
    R (S.part s g) (S.part t g) := by
  have send (s : State) (c : Instr) : S.part (s.send c) = S.part s := by rw [send_eq_sendAll, S.part_sendAll]
  refine deliver_moves refl (fun g => ?_) h wait g
  dsimp only
  split
  · rw [send]
    exact acts g
  · rw [send]
    exact refl _

variable {f : Gallery → State → State} {φ : Edit α} {news : News α}

/-- The same for an action on one gallery. -/
theorem Acts.moves_one (h : S.Acts f φ news) (refl : ∀ x, R x x) (g : Gallery) (s : State)
    (ok : R (S.part s g) (φ s g (S.part s g))) (i : Gallery) : R (S.part s i) (S.part (f g s) i) := by
  by_cases e : i = g
  · rw [e, h.part_self]
    exact ok
  · rw [h.part_ne e]
    exact refl _

/-- The same for an action on all six galleries. -/
theorem Acts.moves_all (h : S.Acts f φ news) (s : State) (ok : ∀ g, R (S.part s g) (φ s g (S.part s g))) (i : Gallery) :
    R (S.part s i) (S.part (Machine.forGalleries f s) i) := by
  rw [(h.forGalleries s).part]
  exact ok i

/-- The same for a request that judges all six galleries before it changes any. -/
theorem Acts.moves_judged (h : S.Acts f φ news) (refl : ∀ x, R x x) {judge : Gallery → Option (Result × Nat)} (s : State)
    (ok : ∀ g, judge g = none → R (S.part s g) (φ s g (S.part s g))) (r : Result) (data : Nat) (i : Gallery) :
    R (S.part s i) (S.part (judgeAll s judge f r data).1 i) := by
  rw [judgeAll, firstGallery_eq judge (.none, 0)]
  cases found : galleries.find? fun g => (judge g).isSome with
  | some g => exact refl _
  | none =>
    refine h.moves_all s (fun g => ok g ?_) i
    have clear := List.find?_eq_none.1 found g (by cases g <;> simp [galleries])
    simpa using clear

end Slice

/-! ## Fields and their ranges -/

theorem mem_envFields (f : EnvField) : f ∈ envFields := by cases f <;> decide

theorem inRange_iff (e : Envelope) :
    inRange e = true ↔ ∀ f, (envRange f).1 ≤ envGet e f ∧ envGet e f ≤ (envRange f).2 := by
  simp [inRange, mem_envFields]

theorem envGet_envSet_same (e : Envelope) (f : EnvField) (v : Nat) : envGet (envSet e f v) f = v := by cases f <;> rfl

theorem envGet_envSet_ne (e : Envelope) {f i : EnvField} (ne : i ≠ f) (v : Nat) : envGet (envSet e f v) i = envGet e i := by
  cases f <;> cases i <;> first | rfl | exact absurd rfl ne

/-- A clamped write keeps every field in its range (R58). -/
theorem inRange_envSet {e : Envelope} (h : inRange e = true) (f : EnvField) (v : Nat) :
    inRange (envSet e f (envClamp f v)) = true := by
  rw [inRange_iff] at h ⊢
  intro i
  by_cases same : i = f
  · subst same
    rw [envGet_envSet_same]
    have order := envRange_le i
    exact ⟨Nat.le_max_left _ _, Nat.max_le.2 ⟨order, Nat.min_le_left _ _⟩⟩
  · rw [envGet_envSet_ne _ same]
    exact h i

theorem keepsLoan_refl (e : Envelope) : KeepsLoan e e := fun f => by
  cases f <;> simp [loanPermits, loanDirection]

theorem keepsLoan_of_unviolated {a e : Envelope} (h : firstLoanViolation a e = none) : KeepsLoan a e := fun f => by
  have clear := List.find?_eq_none.1 h f (mem_envFields f)
  simpa using clear

/-! ## Shares in order -/

/-- A share in order: envelopes in their ranges, the active one consistent, and a pending one consistent and within the loan
(R56, R58, R62, R63, R69). -/
def EnvGood (x : EnvPart) : Prop :=
  inRange x.1.active = true ∧ consistent x.1.active = true ∧ inRange x.2.staged = true ∧
    (x.2.commitPending = true →
      consistent x.2.staged = true ∧ (x.1.loanLock = true → KeepsLoan x.1.active x.2.staged))

theorem envInv_iff (s : State) : EnvInv s ↔ ∀ g, EnvGood (envSlice.part s g) := Iff.rfl

/-- A move of a share that keeps it in order and moves the active envelope of a locked gallery in its loan directions only. -/
def EnvMoves (x y : EnvPart) : Prop :=
  EnvGood x → EnvGood y ∧ (x.1.loanLock = true → KeepsLoan x.1.active y.1.active)

theorem EnvMoves.refl (x : EnvPart) : EnvMoves x x := fun h => ⟨h, fun _ => keepsLoan_refl _⟩

/-- A move of the staged record alone. -/
theorem EnvMoves.staged {x : EnvPart} {v : EnvStaged} (range : EnvGood x → inRange v.staged = true)
    (pending : v.commitPending = true →
      consistent v.staged = true ∧ (x.1.loanLock = true → KeepsLoan x.1.active v.staged)) : EnvMoves x (x.1, v) :=
  fun h => ⟨⟨h.1, h.2.1, range h, pending⟩, fun _ => keepsLoan_refl _⟩

theorem EnvMoves.committed (x : EnvPart) : EnvMoves x (committed x) := by
  intro h
  unfold Machine.committed
  split
  next pending =>
    obtain ⟨active, checks, staged, due⟩ := h
    exact ⟨⟨staged, (due pending).1, staged, nofun⟩, fun lock => (due pending).2 lock⟩
  next => exact EnvMoves.refl x h

theorem not_pending_of_judgeStaged {s : State} {f : EnvField} {v : Nat} {g : Gallery} (h : judgeStaged s f v g = none) :
    (s.envStaged g).commitPending = false := by
  unfold judgeStaged at h
  cases pending : (s.envStaged g).commitPending
  · rfl
  · simp [pending] at h

theorem EnvMoves.write {s : State} {f : EnvField} {v : Nat} {g : Gallery}
    (h : judgeStaged s f (envClamp f v) g = none) :
    EnvMoves (envSlice.part s g) ((envSlice.part s g).1, (envSlice.part s g).2.write f (envClamp f v)) := by
  refine .staged (fun good => inRange_envSet good.2.2.1 f v) fun pending => ?_
  have idle : (s.envStaged g).commitPending = true := pending
  rw [not_pending_of_judgeStaged h] at idle
  cases idle

/-- An envelope that COMMIT accepts is consistent and keeps a loan (R62, R63). -/
theorem committable_of_judgeCommit {s : State} {g : Gallery} (h : judgeCommit s g = none) :
    consistent (s.envStaged g).staged = true ∧
      (s.loanLock g = true → KeepsLoan (s.active g) (s.envStaged g).staged) := by
  unfold judgeCommit at h
  dsimp only at h
  split at h
  · cases h
  · split at h
    · cases h
    next loan =>
      split at h
      · cases h
      next checks =>
        refine ⟨by rw [consistent, checks]; rfl, fun lock => ?_⟩
        rw [if_pos lock] at loan
        exact keepsLoan_of_unviolated loan

theorem EnvMoves.commit {s : State} {g : Gallery} (h : judgeCommit s g = none) :
    EnvMoves (envSlice.part s g) ((envSlice.part s g).1, { (envSlice.part s g).2 with commitPending := true }) :=
  .staged (fun good => good.2.2.1) fun _ => committable_of_judgeCommit h

theorem EnvMoves.lock {x : EnvPart} (on : Bool) (idle : x.2.commitPending = false) :
    EnvMoves x ({ x.1 with loanLock := on }, x.2) := fun h =>
  ⟨⟨h.1, h.2.1, h.2.2.1, fun pending => by rw [idle] at pending; cases pending⟩, fun _ => keepsLoan_refl _⟩

/-- What the envelope table does with a command moves each gallery's share so. -/
theorem envMoves_taken {c : Instr} {s t : State} (hb : blockOf c = some .envelope) (h : exec c s = .next t) (g : Gallery) :
    EnvMoves (envSlice.part s g) (envSlice.part t g) := by
  cases c <;> cases hb <;> dsimp only [exec] at h
  case hourMarkAtEnvelope.refl m =>
    exact Slice.deliver_moves (S := envSlice) EnvMoves.refl
      (applyCommit_acts.moves_all _ fun g => EnvMoves.committed _) h rfl g
  case writeStaged.refl q =>
    refine Slice.request_moves (S := envSlice) EnvMoves.refl (fun g => ?_) h rfl g
    dsimp only
    split
    · exact EnvMoves.refl _
    next f _ =>
      split
      · exact EnvMoves.refl _
      next i _ =>
        split
        · exact EnvMoves.refl _
        next free => exact (writeStaged_acts f _).moves_one EnvMoves.refl i _ (EnvMoves.write free) g
      next =>
        refine (writeStaged_acts f _).moves_judged EnvMoves.refl _ (fun g free => EnvMoves.write ?_) _ _ g
        simpa using free
  case commit.refl q =>
    refine Slice.request_moves (S := envSlice) EnvMoves.refl (fun g => ?_) h rfl g
    split
    · exact EnvMoves.refl _
    next i _ =>
      split
      · exact EnvMoves.refl _
      next free => exact setCommit_acts.moves_one EnvMoves.refl i _ (EnvMoves.commit free) g
    next => exact setCommit_acts.moves_judged EnvMoves.refl _ (fun g free => EnvMoves.commit free) _ _ g
  case discard.refl q =>
    have back (x : EnvPart) : EnvMoves x (x.1, ⟨x.1.active, false⟩) := .staged (fun good => good.1) nofun
    refine Slice.request_moves (S := envSlice) EnvMoves.refl (fun g => ?_) h rfl g
    split
    · exact EnvMoves.refl _
    next i _ => exact discardStaged_acts.moves_one EnvMoves.refl i _ (back _) g
    next => exact discardStaged_acts.moves_all _ (fun g => back _) g
  case loanLock.refl q =>
    have idle {s : State} {g : Gallery}
        (free : (if (s.envStaged g).commitPending then some (Result.pending, 0) else none) = none) :
        (s.envStaged g).commitPending = false := by simpa using free
    refine Slice.request_moves (S := envSlice) EnvMoves.refl (fun g => ?_) h rfl g
    split
    · exact EnvMoves.refl _
    next i _ =>
      dsimp only
      split
      · exact EnvMoves.refl _
      next free => exact (setLoan_acts _).moves_one EnvMoves.refl i _ (EnvMoves.lock _ (idle free)) g
    next => exact (setLoan_acts _).moves_judged EnvMoves.refl _ (fun g free => EnvMoves.lock _ (idle free)) _ _ g

/-! ## Starts -/

theorem envPart_started (s : State) (b : Block) : envSlice.part (s.started b) = envSlice.part s := by
  unfold State.started
  dsimp only
  split <;> rfl

theorem envPart_starting (s : State) (b : Block) : envSlice.part (s.starting b) = envSlice.part s := by
  unfold State.starting
  split <;> rfl

/-- The default envelope, with nothing pending and no loan. -/
theorem envGood_default (g : Gallery) : EnvGood (envSlice.part State.reset g) := envInv_reset g

/-- A start keeps each active envelope, or writes the defaults; and it leaves nothing pending (R71). -/
theorem startEnvelope_part (s : State) (i : StartInfo) (g : Gallery) :
    envSlice.part (s.startEnvelope i) g =
      match i.kind with
      | .cold => envSlice.part State.reset g
      | .warm => ((envSlice.part s g).1, ⟨s.active g, false⟩) := by
  unfold State.startEnvelope
  cases i.kind <;> cases g <;> rfl

/-- The part is in order, and each gallery under a loan has moved its active envelope in its loan directions since `s`, or a
cold start has written the defaults. -/
def EnvSince (s t : State) : Prop :=
  ∀ g, EnvGood (envSlice.part t g) ∧
    (s.loanLock g = true → KeepsLoan (s.active g) (t.active g) ∨ t.ret.env = Retained.cold.env)

theorem envSince_own (s t : State) : EnvSince s t ↔ EnvSince s (t.own .envelope) := Iff.rfl

theorem EnvSince.refl {s : State} (hs : EnvInv s) : EnvSince s s := fun g => ⟨hs g, fun _ => .inl (keepsLoan_refl _)⟩

/-- Nothing has moved but what is not retained, and nothing is pending. -/
theorem EnvSince.of_idle {s t : State} (hs : EnvInv s) (ret : t.ret.env = s.ret.env)
    (idle : ∀ g, inRange (t.envStaged g).staged = true ∧ (t.envStaged g).commitPending = false) : EnvSince s t := fun g => by
  obtain ⟨staged, off⟩ := idle g
  have active : t.ret.env.get g = s.ret.env.get g := by rw [ret]
  refine ⟨⟨?_, ?_, staged, fun on => by rw [envSlice_part, off] at on; cases on⟩, fun _ => .inl ?_⟩
  · rw [envSlice_part, active]
    exact (hs g).1
  · rw [envSlice_part, active]
    exact (hs g).2.1
  · rw [State.active, State.active, active]
    exact keepsLoan_refl _

/-- The defaults are written. -/
theorem EnvSince.of_cold {s t : State} (ret : t.ret.env = Retained.cold.env)
    (staged : ∀ g, inRange (t.envStaged g).staged = true ∧
      ((t.envStaged g).commitPending = true → consistent (t.envStaged g).staged = true)) : EnvSince s t := fun g => by
  have active : t.ret.env.get g = Retained.cold.env.get g := by rw [ret]
  obtain ⟨range, checks, -, -⟩ := envGood_default g
  have unlocked : (Retained.cold.env.get g).loanLock = false := by cases g <;> rfl
  refine ⟨⟨?_, ?_, (staged g).1, fun on => ⟨(staged g).2 on, fun lock => ?_⟩⟩, fun _ => .inr ret⟩
  · rw [envSlice_part, active]
    exact range
  · rw [envSlice_part, active]
    exact checks
  · rw [envSlice_part, active, unlocked] at lock
    cases lock

theorem idle_reset (g : Gallery) :
    inRange (State.reset.envStaged g).staged = true ∧ (State.reset.envStaged g).commitPending = false := by
  cases g <;> exact ⟨by decide, rfl⟩

theorem retEnv_started (s : State) (b : Block) : (s.started b).ret.env = s.ret.env := by
  unfold State.started
  dsimp only
  split <;> rfl

theorem retEnv_starting (s : State) (b : Block) : (s.starting b).ret.env = s.ret.env := by
  unfold State.starting
  split <;> rfl

/-- What a start leaves of the retained part of the table (R71). -/
theorem startEnvelope_ret (s : State) (i : StartInfo) :
    (s.startEnvelope i).ret.env = match i.kind with | .cold => Retained.cold.env | .warm => s.ret.env := by
  unfold State.startEnvelope
  cases i.kind <;> rfl

/-- A start of the table keeps it in order. -/
theorem startEnvelope_since {s : State} (hs : EnvInv s) (i : StartInfo) :
    EnvSince s ((((s.take (.startNotice .envelope i)).starting .envelope).startEnvelope i).started .envelope) := by
  generalize begun : (s.take (.startNotice .envelope i)).starting .envelope = u
  have was : u.ret.env = s.ret.env := by rw [← begun, retEnv_starting]; rfl
  have staged (g : Gallery) : ((u.startEnvelope i).started .envelope).envStaged g = (envSlice.part (u.startEnvelope i) g).2 :=
    congrArg Prod.snd (congrFun (envPart_started (u.startEnvelope i) .envelope) g)
  cases kind : i.kind
  · refine .of_cold ?_ fun g => ?_
    · rw [retEnv_started, startEnvelope_ret, kind]
    · rw [staged, startEnvelope_part, kind]
      exact ⟨(idle_reset g).1, fun on => Bool.noConfusion ((idle_reset g).2.symm.trans on)⟩
  · refine .of_idle hs ?_ fun g => ?_
    · rw [retEnv_started, startEnvelope_ret, kind, was]
    · rw [staged, startEnvelope_part, kind]
      have active : u.active g = s.active g := by rw [State.active, was]; rfl
      exact ⟨by rw [active]; exact (hs g).1, rfl⟩

/-- Every command keeps the table in order. -/
theorem exec_envSince {c : Instr} {s t : State} (hs : EnvInv s) (h : exec c s = .next t) : EnvSince s t := by
  refine exec_keeps_own (o := .envelope) (by simp) (by simp) (envSince_own s) (fun hb _ h g => ?_) (fun e => by cases e)
    (fun e => by cases e) (fun e => by cases e) (fun b i e running => ?starts) (fun last off => .refl hs)
    (fun off => .of_cold rfl fun g => ⟨(hs g).2.2.1, fun on => ((hs g).2.2.2 on).1⟩)
    (.of_idle hs rfl idle_reset) (.of_idle hs rfl idle_reset) (.refl hs) h
  · obtain ⟨good, loan⟩ := envMoves_taken hb h g (hs g)
    exact ⟨good, fun lock => .inl (loan lock)⟩
  case starts =>
    have same : b = .envelope := by cases b <;> simp_all [startOwner]
    subst same
    exact startEnvelope_since hs i

/-- A step is a queued command, a notice in flight, or nothing. -/
theorem step_took {s t : State} (h : step s = .next t) :
    (∃ c rest, s.pending = c :: rest ∧ exec c { s with pending := rest } = .next t) ∨
      (∃ c ∈ s.inFlight, exec c s = .next t) ∨ t = s := by
  unfold step at h
  split at h
  next c rest queue => exact .inl ⟨c, rest, queue, h⟩
  next =>
    split at h
    next c found => exact .inr (.inl ⟨c, List.mem_of_find?_eq_some found, h⟩)
    next =>
      cases h
      exact .inr (.inr rfl)

/-- Settles O11: the envelope table moves each gallery's share in its loan directions and keeps it in order, a cold start
writes the defaults, and nothing else touches the table. -/
theorem envelopesKept : Obligations.EnvelopesKept := by
  intro s t hs h
  have since : EnvSince s t := by
    obtain ⟨c, rest, -, h⟩ | ⟨c, -, h⟩ | rfl := step_took h
    · exact exec_envSince (s := { s with pending := rest }) hs h
    · exact exec_envSince hs h
    · exact .refl hs
  exact ⟨fun g => (since g).1, fun g => (since g).2⟩

end Sys2Proof.Machine
end

section
/-! SUPPORT. The climate bands through every step, with the envelopes that are on their way to the climate unit. -/

namespace Sys2Proof.Machine
open Sys2Proof

/-! ## Starts of the unit -/

theorem startClimate_acts (i : StartInfo) :
    climateSlice.Acts (fun g s => (s.setClimate g (s.startClimateRec i g)).computeBands g)
      (fun s g _ => swung (bandedOn s g (s.startClimateRec i g)))
      (fun s g _ => swingNotices g (bandedOn s g (s.startClimateRec i g))) :=
  .of_at (fun s g r l => by
      have rec_ : (climateSlice.at_ s g r l).startClimateRec i g = s.startClimateRec i g := rfl
      rw [rec_, setClimate_at, computeBands_at])
    (fun e => (congrArg (fun (u : State) g (_ : ClimateRec) => swung (bandedOn u g (u.startClimateRec i g))) e :))
    (fun e => (congrArg (fun (u : State) g (_ : ClimateRec) => swingNotices g (bandedOn u g (u.startClimateRec i g))) e :))

/-! ## What keeps the bands -/

/-- Two climate records agree in bands, setpoints and envelope. -/
def SameBands (r r' : ClimateRec) : Prop :=
  r'.rh = r.rh ∧ r'.t = r.t ∧ r'.rhSet = r.rhSet ∧ r'.tSet = r.tSet ∧ r'.env = r.env

theorem SameBands.refl (r : ClimateRec) : SameBands r r := ⟨rfl, rfl, rfl, rfl, rfl⟩

theorem sameBands_limitedRh (r : ClimateRec) : SameBands r (limitedRh r) := by
  unfold limitedRh
  (repeat' split) <;> exact .refl r

theorem sameBands_limitedT (r : ClimateRec) : SameBands r (limitedT r) := by
  unfold limitedT
  (repeat' split) <;> exact .refl r

theorem sameBands_hKept (n : ChanState) (r : ClimateRec) : SameBands r (hKept n r) := by
  unfold hKept
  split <;> exact .refl r

theorem sameBands_tKept (n : ChanState) (r : ClimateRec) : SameBands r (tKept n r) := by
  unfold tKept
  split <;> exact .refl r

/-- A property `G` of climate records that speaks of bands, setpoints and envelope, and holds of the bands computed under an
envelope of which `E` holds. -/
structure BandProperty (G : ClimateRec → Prop) (E : Envelope → Prop) : Prop where
  envelope : ∀ {r}, G r → E r.env
  banded : ∀ {r} v w, E r.env → G (banded r v w)
  same : ∀ {r r'}, SameBands r r' → G r → G r'
  declare : ∀ {r} x v, G r → G (r.declare x (some ((r.band x).grant v)))
  withdraw : ∀ {r} x, G r → G (r.declare x none)

/-- The bands of RH are in order (R109, R112, R117). -/
def RhGood (r : ClimateRec) : Prop := BandOk r.rh (r.env.hset - r.env.hband) (r.env.hset + r.env.hband) r.rhSet

/-- The bands of T are in order (R109, R113, R117). -/
def TempGood (r : ClimateRec) : Prop := r.env.tmin < r.env.tmax ∧ BandOk r.t r.env.tmin r.env.tmax r.tSet

theorem clampNat_le {lo hi : Nat} (order : lo ≤ hi) (v : Nat) : lo ≤ clampNat lo hi v ∧ clampNat lo hi v ≤ hi := by
  unfold clampNat
  omega

/-- The ends of a band that is computed between nominal ends in order. -/
theorem bandFor_ends (w : Window) {lo hi mid : Nat} (swing : Nat) (kept : Option Nat) (order : lo ≤ hi)
    (middle : lo ≤ mid ∧ mid ≤ hi) :
    let b := bandFor w lo hi swing kept mid
    lo ≤ b.low ∧ b.low ≤ b.high ∧ b.high ≤ hi := by
  unfold bandFor
  dsimp only
  split
  · split
    next fits => exact ⟨Nat.le_max_left _ _, fits, Nat.min_le_left _ _⟩
    · cases kept with
      | none => exact ⟨middle.1, Nat.le_refl _, middle.2⟩
      | some x =>
        obtain ⟨low, high⟩ := clampNat_le order x
        exact ⟨low, Nat.le_refl _, high⟩
  · exact ⟨Nat.le_refl _, order, Nat.le_refl _⟩

/-- A band computed between nominal ends in order, with a setpoint moved into it, is in order (R112 to R114). -/
theorem bandOk_bandFor (w : Window) {lo hi mid : Nat} (swing : Nat) (kept set : Option Nat) (order : lo ≤ hi)
    (middle : lo ≤ mid ∧ mid ≤ hi) :
    let b := bandFor w lo hi swing kept mid
    BandOk b lo hi (set.map fun v => max b.low (min b.high v)) := by
  intro b
  obtain ⟨low, ends, high⟩ := bandFor_ends w swing kept order middle
  refine ⟨low, ends, high, fun v moved => ?_⟩
  obtain ⟨x, -, rfl⟩ := Option.map_eq_some_iff.1 moved
  exact clampNat_le ends x

/-- A band in order stays so with a setpoint granted within it (R117). -/
theorem bandOk_grant {b : Band} {lo hi : Nat} {set : Option Nat} (h : BandOk b lo hi set) (v : Nat) :
    BandOk b lo hi (some (b.grant v)) := by
  obtain ⟨low, ends, high, -⟩ := h
  refine ⟨low, ends, high, fun w granted => ?_⟩
  cases granted
  exact clampNat_le ends v

theorem bandOk_none {b : Band} {lo hi : Nat} {set : Option Nat} (h : BandOk b lo hi set) : BandOk b lo hi none :=
  ⟨h.1, h.2.1, h.2.2.1, nofun⟩

theorem rhGood_property : BandProperty RhGood (fun _ => True) where
  envelope _ := trivial
  banded v w _ := bandOk_bandFor v _ _ _ (by omega) (by omega)
  same := by
    rintro r r' ⟨rh, -, set, -, env⟩ good
    unfold RhGood
    rw [rh, set, env]
    exact good
  declare x v good := by
    cases x
    · exact bandOk_grant good v
    · exact good
  withdraw x good := by
    cases x
    · exact bandOk_none good
    · exact good

theorem tempGood_property : BandProperty TempGood (fun e => e.tmin < e.tmax) where
  envelope good := good.1
  banded v w order := ⟨order, bandOk_bandFor w _ _ _ (Nat.le_of_lt order) (by omega)⟩
  same := by
    rintro r r' ⟨-, t, -, set, env⟩ good
    unfold TempGood
    rw [t, set, env]
    exact good
  declare x v good := by
    cases x
    · exact good
    · exact ⟨good.1, bandOk_grant good.2 v⟩
  withdraw x good := by
    cases x
    · exact good
    · exact ⟨good.1, bandOk_none good.2⟩

/-! ## While the unit runs -/

/-- Every climate record has a property. -/
def ClimateRun (G : ClimateRec → Prop) (s : State) : Prop := ∀ g, G (s.climateRec g)

theorem climateRun_own (G : ClimateRec → Prop) (s : State) : ClimateRun G s ↔ ClimateRun G (s.own .climate) := Iff.rfl

theorem ClimateRun.setClimate {G : ClimateRec → Prop} {s : State} (h : ClimateRun G s) (g : Gallery) {r : ClimateRec} (ok : G r) :
    ClimateRun G (s.setClimate g r) := fun i => by
  rw [State.climateRec_setClimate]
  split
  · exact ok
  · exact h i

/-- One gallery's record moves. -/
theorem ClimateRun.one {G : ClimateRec → Prop} {s : State} (h : ClimateRun G s) {f : Gallery → State → State} {φ : Slice.Edit ClimateRec}
    {news : Slice.News ClimateRec} (acts : climateSlice.Acts f φ news) (keeps : ∀ s g r, G r → G (φ s g r)) (g : Gallery) :
    ClimateRun G (f g s) :=
  fun i => acts.moves_one (R := fun r r' => G r → G r') (fun _ h => h) g s (keeps s g _) i (h i)

section
variable {G : ClimateRec → Prop} {E : Envelope → Prop} (good : BandProperty G E)
include good

theorem BandProperty.swung {r : ClimateRec} (h : G r) : G (swung r) := good.same (r := r) (.refl r) h

theorem BandProperty.computed (s : State) (g : Gallery) {r : ClimateRec} (h : E r.env) : G (Machine.swung (bandedOn s g r)) :=
  good.swung (good.banded _ _ h)

/-- What the climate unit does with a command keeps the property, once it holds of the envelope the command carries. -/
theorem climateRun_taken {c : Instr} {s t : State} (hb : blockOf c = some .climate)
    (sound : ∀ e : EnvelopeChange, c = .envelopeChangedAtClimate e → E e.env) (hs : ClimateRun G s)
    (h : exec c s = .next t) : ClimateRun G t := by
  have own := climateRun_own G
  cases c <;> cases hb <;> dsimp only [exec] at h
  case recordWrittenNotice.refl g day hour =>
    exact deliver_keeps own hs
      (fun s _ hs => ClimateRun.one hs computeAndTell_acts (fun s g r h => good.computed s g (good.envelope h)) g) h
  case aggregateChangeNotice.refl a =>
    exact deliver_keeps own hs
      (fun s _ hs => ClimateRun.one hs (keepAgg_acts _) (fun s g r h => good.same (r := r) (.refl r) h) a.g) h
  case envelopeChangedAtClimate.refl e =>
    refine deliver_keeps own hs (fun s _ hs => ClimateRun.one hs (keepClimateEnv_acts e.env) (fun s g r h => ?_) e.g) h
    exact good.same (sameBands_limitedT _) (good.same (sameBands_limitedRh _) (good.computed s g (sound e rfl)))
  case stateChangeAtClimate.refl n =>
    refine deliver_keeps own hs (fun s _ hs => ?_) h
    split
    · exact ClimateRun.one hs (keepH_acts n.new) (fun s g r h => good.same (sameBands_hKept _ _) h) n.chan.g
    · exact ClimateRun.one hs (keepT_acts n.new) (fun s g r h => good.same (sameBands_tKept _ _) h) n.chan.g
    · exact hs
  case trackedUpdateAtClimate.refl u =>
    refine deliver_keeps own hs (fun s _ hs => ?_) h
    split
    · refine ClimateRun.one hs (trackH_acts u) (fun s g r h => ?_) u.chan.g
      exact good.same (sameBands_limitedRh _) (good.same (sameBands_hKept _ _) (good.same (r := r) (.refl _) h))
    · refine ClimateRun.one hs (trackT_acts u) (fun s g r h => ?_) u.chan.g
      exact good.same (sameBands_limitedT _) (good.same (sameBands_tKept _ _) (good.same (r := r) (.refl _) h))
    · exact hs
  case presenceNoticeAtClimate.refl p =>
    refine deliver_keeps own hs (fun s _ hs => ?_) h
    dsimp only
    split
    · refine forGalleries_keeps (fun g s hs => ?_) hs
      exact ClimateRun.setClimate hs g (good.withdraw .temp (good.withdraw .rh (hs g)))
    · exact hs
  case queryBand.refl q =>
    refine request_keeps own hs (fun s _ hs => ?_) h
    (repeat' split) <;> exact hs
  case declareSetpoint.refl q =>
    refine request_keeps own hs (fun s _ hs => ?_) h
    dsimp only
    split
    · exact hs
    next x _ =>
      split
      · exact hs
      · split
        · exact ClimateRun.setClimate hs _ (good.withdraw x (hs _))
        · exact ClimateRun.setClimate hs _ (good.declare x _ (hs _))
      · split
        · refine forGalleries_keeps (P := ClimateRun G) (fun g s hs => ?_) hs
          exact ClimateRun.setClimate hs _ (good.withdraw x (hs _))
        · refine forMask_keeps (P := ClimateRun G) (fun g s hs => ?_) hs
          exact ClimateRun.setClimate hs _ (good.declare x _ (hs _))

/-- Every command keeps the property of a climate unit that has started, once it holds of the envelope the command carries
and of those a start would copy. -/
theorem exec_keeps_bands {c : Instr} {s t : State}
    (sound : ∀ e : EnvelopeChange, c = .envelopeChangedAtClimate e → E e.env) (actives : ∀ g, E (s.active g))
    (hs : Ready s .climate → ClimateRun G s) (h : exec c s = .next t) : Ready t .climate → ClimateRun G t := by
  have own (s : State) : (Ready s .climate → ClimateRun G s) ↔ (Ready (s.own .climate) .climate → ClimateRun G (s.own .climate)) := by
    rw [ready_own]
    exact Iff.rfl
  refine exec_keeps_own (o := .climate) (by simp) (by simp) own
    (fun hb ready h _ => climateRun_taken good hb sound (hs ready) h) (fun e => by cases e) (fun e => by cases e)
    (fun e => by cases e) (fun b i e running _ => ?starts) (fun last off ready => absurd ready (not_ready_beginStart _ _ _ _))
    (fun off ready => absurd ready (not_ready_beginStart _ _ _ _)) (fun ready => Phase.noConfusion ready.1)
    (fun ready => Phase.noConfusion ready.1) hs h
  case starts =>
    have same : b = .climate := by cases b <;> simp_all [startOwner]
    subst same
    have started (s : State) : (s.started .climate).climate = s.climate := by
      unfold State.started
      dsimp only
      split <;> rfl
    have active (g : Gallery) : ((s.take (.startNotice .climate i)).starting .climate).active g = s.active g := by
      rw [State.active, retEnv_starting]
      rfl
    intro g
    show G ((State.started _ .climate).climate.get g)
    rw [started]
    have share := ((startClimate_acts i).forGalleries ((s.take (.startNotice .climate i)).starting .climate)).part g
    refine (congrArg G share).mpr ?_
    refine good.computed _ g ?_
    show E (((s.take (.startNotice .climate i)).starting .climate).active g)
    rw [active]
    exact actives g

end

/-! ## Envelopes on their way to the climate unit -/

/-- A command carries no envelope to the climate unit, or one with its TMIN below its TMAX (R63, R66). -/
def SoundNews (c : Instr) : Prop := ∀ e : EnvelopeChange, c = .envelopeChangedAtClimate e → e.env.tmin < e.env.tmax

/-- Everything queued, in flight or waiting is sound. -/
def NewsOk (s : State) : Prop := ∀ c ∈ s.pending ++ s.inFlight ++ s.waiting, SoundNews c

theorem newsOk_iff (s : State) :
    NewsOk s ↔ (∀ c ∈ s.pending, SoundNews c) ∧ (∀ c ∈ s.inFlight, SoundNews c) ∧ ∀ c ∈ s.waiting, SoundNews c := by
  simp only [NewsOk, List.mem_append, or_imp, forall_and, and_assoc]

theorem tempInv_iff (s : State) : TempInv s ↔ NewsOk s ∧ (Ready s .climate → ClimateRun TempGood s) := by
  refine and_congr ⟨fun h c mem e same => h e (same ▸ mem), fun h e mem => h _ mem e rfl⟩ Iff.rfl

theorem soundNews_of_ne {c : Instr} (h : isBandNews c = false) : SoundNews c := by
  rintro e rfl
  cases h

theorem soundNews_eventOf {c : Instr} (h : SoundNews c) : SoundNews (eventOf c) := by
  cases c <;> first | exact h | exact nofun

/-- The notices of an action that is blind to the envelopes on their way stay sound. -/
theorem NewsOk.of_blank {b : Block} (ne : b ≠ .envelope) {s t : State} (hs : NewsOk s) (h : t.blank b = s.blank b) :
    NewsOk t := by
  obtain ⟨pending, inFlight, waiting⟩ := (newsOk_iff s).1 hs
  have samePending : t.pending = s.pending := by
    have := congrArg State.pending h
    cases b <;> exact this
  have sameWaiting : t.waiting = s.waiting := by
    have := congrArg State.waiting h
    cases b <;> exact this
  have sameNews : bandNews t.inFlight = bandNews s.inFlight := by
    have := congrArg State.inFlight h
    cases b <;> first | exact this | exact absurd rfl ne
  refine (newsOk_iff t).2 ⟨samePending ▸ pending, ?_, sameWaiting ▸ waiting⟩
  rintro c mem e rfl
  have carried : Instr.envelopeChangedAtClimate e ∈ bandNews t.inFlight := List.mem_filter.2 ⟨mem, rfl⟩
  rw [sameNews] at carried
  exact inFlight _ (List.mem_filter.1 carried).1 e rfl

theorem NewsOk.take {s : State} (hs : NewsOk s) (c : Instr) : NewsOk (s.take c) := by
  obtain ⟨pending, inFlight, waiting⟩ := (newsOk_iff s).1 hs
  exact (newsOk_iff _).2 ⟨pending, fun d mem => inFlight d (List.mem_of_mem_erase mem), waiting⟩

theorem NewsOk.wait {s : State} (hs : NewsOk s) {c : Instr} (hc : SoundNews c) : NewsOk (s.wait c) := by
  obtain ⟨pending, inFlight, waiting⟩ := (newsOk_iff s).1 hs
  refine (newsOk_iff _).2 ⟨pending, fun d mem => inFlight d (List.mem_of_mem_erase mem), fun d mem => ?_⟩
  obtain mem | mem := List.mem_append.1 mem
  · exact waiting d mem
  · exact List.mem_singleton.1 mem ▸ hc

theorem NewsOk.sendAll {s : State} (hs : NewsOk s) {l : List Instr} (hl : ∀ c ∈ l, SoundNews c) : NewsOk (s.sendAll l) := by
  obtain ⟨pending, inFlight, waiting⟩ := (newsOk_iff s).1 hs
  refine (newsOk_iff _).2 ⟨pending, fun d mem => ?_, waiting⟩
  obtain mem | mem := List.mem_append.1 mem
  · exact inFlight d mem
  · exact hl d mem

/-- A start leaves start notices alone in flight. -/
theorem NewsOk.beginStart {s : State} (hs : NewsOk s) (kind : StartKind) (last : LastStart) : NewsOk (s.beginStart kind last) := by
  obtain ⟨pending, -, -⟩ := (newsOk_iff s).1 hs
  refine (newsOk_iff _).2 ⟨pending, fun c mem => ?_, fun _ mem => absurd mem List.not_mem_nil⟩
  obtain ⟨b, -, rfl⟩ := List.mem_map.1 mem
  exact soundNews_of_ne rfl

/-- An action that sends nothing keeps the notices sound. -/
theorem NewsOk.of_same {s t : State} (hs : NewsOk s) (pending : t.pending = s.pending) (inFlight : t.inFlight = s.inFlight)
    (waiting : t.waiting = s.waiting) : NewsOk t := by
  rw [newsOk_iff, pending, inFlight, waiting]
  exact (newsOk_iff s).1 hs

/-- A loss leaves nothing in flight. -/
theorem NewsOk.lost {s t : State} (hs : NewsOk s) (pending : t.pending = s.pending) (inFlight : t.inFlight = [])
    (waiting : t.waiting = []) : NewsOk t := by
  rw [newsOk_iff, pending, inFlight, waiting]
  exact ⟨((newsOk_iff s).1 hs).1, fun _ mem => absurd mem List.not_mem_nil, fun _ mem => absurd mem List.not_mem_nil⟩

theorem NewsOk.started {s : State} (hs : NewsOk s) (b : Block) : NewsOk (s.started b) := by
  obtain ⟨pending, inFlight, waiting⟩ := (newsOk_iff s).1 hs
  have admitted : NewsOk { s.admitWaiting b with awaiting := s.awaiting.filter fun x => x ≠ b } := by
    refine (newsOk_iff _).2 ⟨pending, fun c mem => ?_, fun c mem => waiting c (List.mem_filter.1 mem).1⟩
    obtain mem | mem := List.mem_append.1 mem
    · exact waiting c (List.mem_filter.1 mem).1
    · exact inFlight c mem
  unfold State.started
  dsimp only
  split <;> exact admitted

theorem NewsOk.starting {s : State} (hs : NewsOk s) (b : Block) : NewsOk (s.starting b) := by
  unfold State.starting
  split <;> exact hs

/-- A delivery whose action keeps the notices sound does. -/
theorem newsOk_deliver {b : Block} {c : Instr} {s t : State} {act : State → State} (hs : NewsOk s) (hc : SoundNews c)
    (acts : NewsOk (act (s.take c))) (h : deliver b c s act = .next t) : NewsOk t := by
  rcases deliver_cases h with ⟨-, rfl⟩ | ⟨-, -, rfl⟩ | ⟨-, rfl⟩
  · exact hs
  · exact hs.wait hc
  · exact acts

theorem newsOk_request {b : Block} {c : Instr} {code : Nat} {permitted : Port → Bool} {q : Req} {s t : State}
    {act : State → Taken} (hs : NewsOk s) (hc : SoundNews c) (acts : NewsOk (act (s.take c)).1)
    (h : request b c code permitted q s act = .next t) : NewsOk t := by
  refine newsOk_deliver hs hc ?_ h
  dsimp only
  split <;> rw [send_eq_sendAll]
  · exact acts.sendAll fun d mem => List.mem_singleton.1 mem ▸ soundNews_of_ne rfl
  · exact (hs.take c).sendAll fun d mem => List.mem_singleton.1 mem ▸ soundNews_of_ne rfl

theorem tmin_lt_tmax_of_consistent {e : Envelope} (h : consistent e = true) : e.tmin < e.tmax := by
  unfold consistent firstFailedCheck at h
  split_ifs at h <;> simp_all

/-- What a commit sends is sound once a pending envelope is consistent. -/
theorem soundNews_committed {s : State} {g : Gallery} {x : EnvPart} (good : EnvGood x) {c : Instr}
    (mem : c ∈ committedNews s g x) : SoundNews c := by
  rintro e rfl
  unfold committedNews at mem
  split at mem
  next due =>
    have order := tmin_lt_tmax_of_consistent (good.2.2.2 due).1
    obtain mem | mem := List.mem_append.1 mem
    · simp only [List.mem_cons, List.not_mem_nil, or_false, reduceCtorEq, false_or] at mem
      cases mem
      exact order
    · unfold attention at mem
      split at mem <;> simp at mem
  next => cases mem

theorem newsOk_judgeAll {s : State} (hs : NewsOk s) {judge : Gallery → Option (Result × Nat)} {f : Gallery → State → State}
    (keeps : ∀ g s, NewsOk s → NewsOk (f g s)) (r : Result) (data : Nat) : NewsOk (judgeAll s judge f r data).1 := by
  unfold judgeAll
  split
  · exact hs
  · exact forGalleries_keeps keeps hs

/-- The envelope table sends sound envelopes. -/
theorem newsOk_envelope {c : Instr} {s t : State} (hb : blockOf c = some .envelope) (hs : NewsOk s) (env : EnvInv s)
    (h : exec c s = .next t) : NewsOk t := by
  cases c <;> cases hb <;> dsimp only [exec] at h
  case hourMarkAtEnvelope.refl m =>
    refine newsOk_deliver hs (soundNews_of_ne rfl) ?_ h
    have made := applyCommit_acts.forGalleries (s.take (.hourMarkAtEnvelope m))
    obtain ⟨pending, inFlight, waiting⟩ := (newsOk_iff _).1 (hs.take (.hourMarkAtEnvelope m))
    have rest := made.around
    have samePending := (congrArg State.pending rest :)
    have sameWaiting := (congrArg State.waiting rest :)
    refine (newsOk_iff _).2 ⟨samePending.symm ▸ pending, fun d mem => ?_, sameWaiting.symm ▸ waiting⟩
    rw [made.inFlight] at mem
    obtain mem | mem := List.mem_append.1 mem
    · exact inFlight d mem
    · obtain ⟨g, -, mem⟩ := List.mem_flatMap.1 mem
      exact soundNews_committed (x := envSlice.part s g) (env g) mem
  case writeStaged.refl q =>
    refine newsOk_request hs (soundNews_of_ne rfl) ?_ h
    have taken := hs.take (.writeStaged q)
    dsimp only
    split
    · exact taken
    · split
      · exact taken
      · split <;> exact taken
      · refine newsOk_judgeAll taken (fun g s h => ?_) _ _
        exact h.of_same rfl rfl rfl
  case commit.refl q =>
    refine newsOk_request hs (soundNews_of_ne rfl) ?_ h
    have taken := hs.take (.commit q)
    split
    · exact taken
    · split <;> exact taken
    · refine newsOk_judgeAll taken (fun g s h => ?_) _ _
      exact h.of_same rfl rfl rfl
  case discard.refl q =>
    refine newsOk_request hs (soundNews_of_ne rfl) ?_ h
    have taken := hs.take (.discard q)
    split
    · exact taken
    · exact taken
    · refine forGalleries_keeps (P := NewsOk) (fun g s h => ?_) taken
      exact h.of_same rfl rfl rfl
  case loanLock.refl q =>
    refine newsOk_request hs (soundNews_of_ne rfl) ?_ h
    have taken := hs.take (.loanLock q)
    dsimp only
    split
    · exact taken
    · split <;> exact taken
    · refine newsOk_judgeAll taken (fun g s h => ?_) _ _
      exact h.of_same rfl rfl rfl

/-- Every command keeps the envelopes on their way sound. -/
theorem exec_newsOk {c : Instr} {s t : State} (hs : NewsOk s) (env : EnvInv s) (hc : SoundNews c)
    (h : exec c s = .next t) : NewsOk t := by
  rcases exec_effect h with _ | ⟨hb, running, awaits⟩ | ⟨hb, ready, keeps⟩ | _ | ⟨p, w⟩ | ⟨p, w, bits, complete⟩ | ⟨x, v⟩ |
    ⟨x, ready⟩ | ⟨x, ready⟩ | ⟨last, off⟩ | off | _ | _ | _ | ⟨b, i, running⟩
  case same => exact hs
  case waits => exact hs.wait (soundNews_eventOf hc)
  case taken b u =>
    by_cases e : b = .envelope
    · subst e
      exact newsOk_envelope hb hs env h
    · exact (hs.take _).of_blank e keeps
  case ticks => exact NewsOk.of_blank (b := .timeBase) (by simp) hs s.blank_advance
  case framed => exact hs
  case judged => exact NewsOk.of_blank (b := .port p) (by simp) (s := s.setLines p w) hs (State.blank_judgeFrame _ p bits)
  case level => exact hs
  case rises => exact NewsOk.of_blank (b := .darkening) (by simp) (s := s.setTriggerLevel x true) hs (State.blank_rise _ x)
  case falls => exact NewsOk.of_blank (b := .darkening) (by simp) (s := s.setTriggerLevel x false) hs (State.blank_fall _ x)
  case warms => exact hs.beginStart _ _
  case colds => exact NewsOk.beginStart (s := { s with ret := .cold, latch := false }) hs _ _
  case unpowers => exact hs.lost rfl rfl rfl
  case latches => exact hs
  case holds => exact hs.lost rfl rfl rfl
  case starts =>
    refine NewsOk.started (?_ : NewsOk _) b
    have begun := (hs.take (.startNotice b i)).starting b
    by_cases e : startOwner b = .envelope
    · have same : b = .envelope := by cases b <;> simp_all [startOwner]
      subst same
      show NewsOk (State.startEnvelope _ i)
      unfold State.startEnvelope
      cases i.kind <;> exact begun
    · exact begun.of_blank e (State.blank_startBlock _ b i)

/-- Settles O13: a band is computed within its nominal ends and around its setpoint, and an envelope reaches the climate unit
consistent. -/
theorem bandsKept : Obligations.BandsKept := by
  have command {c : Instr} {s t : State} (h : exec c s = .next t) :
      (BandInv s → BandInv t) ∧ (EnvInv s → SoundNews c → TempInv s → TempInv t) := by
    refine ⟨fun hs => exec_keeps_bands rhGood_property (fun _ _ => trivial) (fun _ => trivial) hs h, fun env sound hs => ?_⟩
    refine (tempInv_iff t).2 ⟨exec_newsOk ((tempInv_iff s).1 hs).1 env sound h, ?_⟩
    exact exec_keeps_bands tempGood_property sound (fun g => tmin_lt_tmax_of_consistent (env g).2.1) hs.2 h
  intro s t h
  obtain ⟨c, rest, queue, h⟩ | ⟨c, mem, h⟩ | rfl := step_took h
  · refine ⟨(command h).1, fun env hs => ?_⟩
    obtain ⟨pending, inFlight, waiting⟩ := (newsOk_iff s).1 ((tempInv_iff s).1 hs).1
    rw [queue] at pending
    refine (command h).2 env (pending c (List.mem_cons_self ..)) ((tempInv_iff _).2 ⟨(newsOk_iff _).2 ⟨?_, inFlight, waiting⟩, hs.2⟩)
    exact fun d mem => pending d (List.mem_cons_of_mem _ mem)
  · exact ⟨(command h).1, fun env hs => (command h).2 env (((newsOk_iff s).1 ((tempInv_iff s).1 hs).1).2.1 c mem) hs⟩
  · exact ⟨id, fun _ => id⟩

end Sys2Proof.Machine
end

section
/-! SUPPORT. The rings of the history store: where their slots lie, what an append does to them and what a new partition does
(R130 to R135). -/

namespace Sys2Proof.Machine
open Sys2Proof

/-! ## Places -/

/-- The rings of a partition follow one another (R130). -/
theorem ringBase_add_le (ls : PerGallery Nat) {g h : Gallery} (before : galleryNum g < galleryNum h) :
    ringBase ls g + ls.get g ≤ ringBase ls h := by
  cases g <;> cases h <;> simp only [galleryNum] at before <;> simp only [ringBase, PerGallery.get] <;> omega

/-- The rings of a partition share no slot (R130). -/
theorem place_ne (ls : PerGallery Nat) {g h : Gallery} (ne : g ≠ h) {i j : Nat} (hi : i < ls.get g) (hj : j < ls.get h) :
    ringBase ls g + i ≠ ringBase ls h + j := by
  have numbers : galleryNum g ≠ galleryNum h := by
    cases g <;> cases h <;> simp_all [galleryNum]
  rcases Nat.lt_or_gt_of_ne numbers with before | after
  · have := ringBase_add_le ls before
    omega
  · have := ringBase_add_le ls after
    omega

/-- The rings of a partition lie within the slots (R130). -/
theorem place_lt {ls : PerGallery Nat} (h : sumLengths ls ≤ 512) (g : Gallery) {i : Nat} (hi : i < ls.get g) :
    ringBase ls g + i < 512 := by
  have last : ringBase ls g + ls.get g ≤ sumLengths ls := by
    cases g <;> simp only [ringBase, PerGallery.get, sumLengths] <;> omega
  omega

/-- The place of a ring is the sum of the lengths before it (R130). -/
theorem ringBase_eq_sum (ls : PerGallery Nat) (g : Gallery) :
    ringBase ls g = ((galleries.take (galleryNum g)).map ls.get).sum := by
  cases g <;> simp [ringBase, galleries, galleryNum, PerGallery.get] <;> omega

theorem sumLengths_eq_sum (ls : PerGallery Nat) : sumLengths ls = (galleries.map ls.get).sum := by
  simp [sumLengths, galleries, PerGallery.get]
  omega

/-! ## Rings in order -/

/-- The retained state of the history store in order (R130, R132, R134). -/
structure HistoryOk (h : History) : Prop where
  partition : PartitionOk h.lengths
  base : ∀ g, (h.rings.get g).base = ringBase h.lengths g
  ring : ∀ g, RingOk (h.rings.get g)
  pending : ∀ ls, h.pendingPartition = some ls → PartitionOk ls
  readable : ∀ g k, k < (h.rings.get g).count → (h.recordAt (h.rings.get g) k).isSome = true

theorem recordInv_iff (s : State) : RecordInv s ↔ HistoryOk s.ret.history :=
  ⟨fun ⟨⟨partition, base, ring, pending⟩, readable⟩ => ⟨partition, base, ring, pending, readable⟩,
    fun h => ⟨⟨h.partition, h.base, h.ring, h.pending⟩, h.readable⟩⟩

theorem lengths_get (h : History) (g : Gallery) : h.lengths.get g = (h.rings.get g).length := PerGallery.get_ofFn _ g

/-- A record is read from the slot its recency names (R132). -/
theorem recordAt_of_slot {h : History} {r : Ring} {k i : Nat} (slot : r.slotAt k = some i) :
    h.recordAt r k = (h.slots[i]?).join := by
  rw [History.recordAt, slot]

theorem recordAt_of_none {h : History} {r : Ring} {k : Nat} (slot : r.slotAt k = none) : h.recordAt r k = none := by
  rw [History.recordAt, slot]

/-- A slot of a ring lies within the ring. -/
theorem slotAt_within {r : Ring} {k i : Nat} (long : 0 < r.length) (slot : r.slotAt k = some i) :
    ∃ j < r.length, i = r.base + j := by
  unfold Ring.slotAt at slot
  split at slot
  · split at slot
    · cases slot
      exact ⟨_, Nat.mod_lt _ long, rfl⟩
    · cases slot
  · cases slot

/-- What is read of a ring does not change with the slots outside it. -/
theorem recordAt_congr {h h' : History} {r : Ring} (long : 0 < r.length)
    (same : ∀ j < r.length, h'.slots[r.base + j]? = h.slots[r.base + j]?) (k : Nat) : h'.recordAt r k = h.recordAt r k := by
  cases slot : r.slotAt k with
  | none => rw [recordAt_of_none slot, recordAt_of_none slot]
  | some i =>
    obtain ⟨j, within, rfl⟩ := slotAt_within long slot
    rw [recordAt_of_slot slot, recordAt_of_slot slot, same j within]

/-! ## An append -/

theorem nextPos_lt {r : Ring} (long : 0 < r.length) : r.nextPos < r.length := by
  unfold Ring.nextPos
  split
  · split <;> assumption
  · exact long

/-- What an append makes of the counts (R131). -/
theorem append_fields (r : Ring) :
    r.append.base = r.base ∧ r.append.length = r.length ∧ r.append.newest = some r.nextPos ∧
      (r.append.count, r.append.unread, r.append.overrun) =
        if r.count < r.length then (r.count + 1, r.unread + 1, r.overrun)
        else if r.unread < r.count then (r.count, r.unread + 1, r.overrun)
        else (r.count, r.unread, true) := by
  unfold Ring.append
  split_ifs <;> exact ⟨rfl, rfl, rfl, rfl⟩

theorem append_count (r : Ring) : r.append.count = if r.count < r.length then r.count + 1 else r.count := by
  unfold Ring.append
  split_ifs <;> rfl

theorem append_unread (r : Ring) (h : r.unread ≤ r.count) : r.append.unread ≤ r.append.count := by
  unfold Ring.append
  split_ifs <;> dsimp only <;> omega

theorem ringOk_append {r : Ring} (h : RingOk r) (long : 0 < r.length) : RingOk r.append := by
  obtain ⟨unread, count, -, -⟩ := h
  obtain ⟨-, length, newest, -⟩ := append_fields r
  refine ⟨append_unread r unread, ?_, ?_, fun p eq => ?_⟩
  · rw [append_count, length]
    split <;> omega
  · rw [newest, append_count]
    split
    · simp
    · simp
      omega
  · rw [newest] at eq
    cases eq
    rw [length]
    exact nextPos_lt long

/-- The newest record after an append is in the slot after the newest before it (R131, R132). -/
theorem slotAt_append_zero {r : Ring} (long : 0 < r.length) : r.append.slotAt 0 = some (r.base + r.nextPos) := by
  obtain ⟨base, length, newest, -⟩ := append_fields r
  have some_ : 0 < r.append.count := by
    rw [append_count]
    split <;> omega
  have wraps : (r.nextPos + r.length) % r.length = r.nextPos := by
    rw [Nat.add_mod_right, Nat.mod_eq_of_lt (nextPos_lt long)]
  simp [Ring.slotAt, newest, base, length, some_, wraps]

/-- The record at recency `k + 1` after an append is in the slot of recency `k` before it (R131, R132). -/
theorem slotAt_append_succ {r : Ring} (h : RingOk r) {k : Nat} (counted : k + 1 < r.append.count) :
    r.append.slotAt (k + 1) = r.slotAt k ∧ ∃ j < r.length, r.slotAt k = some (r.base + j) ∧ j ≠ r.nextPos := by
  obtain ⟨base, length, newest, -⟩ := append_fields r
  obtain ⟨-, count, empty, within⟩ := h
  have old : k < r.count ∧ k + 1 < r.length := by
    rw [append_count] at counted
    split at counted <;> omega
  cases top : r.newest with
  | none =>
    have := empty.1 top
    omega
  | some p =>
    have inside := within p top
    have next : r.nextPos = if p + 1 < r.length then p + 1 else 0 := by rw [Ring.nextPos, top]
    have same : (r.nextPos + r.length - (k + 1)) % r.length = (p + r.length - k) % r.length := by
      rw [next]
      split
      · congr 1
        omega
      · have last : p + r.length - k = (0 + r.length - (k + 1)) + r.length := by omega
        rw [last, Nat.add_mod_right]
    have slot : r.slotAt k = some (r.base + (p + r.length - k) % r.length) := by
      simp [Ring.slotAt, top, old.1]
    refine ⟨?_, _, Nat.mod_lt _ (by omega), slot, ?_⟩
    · rw [slot]
      simp [Ring.slotAt, newest, base, length, counted, same]
    · rw [← same]
      have next_lt := nextPos_lt (r := r) (by omega)
      by_cases fits : k + 1 ≤ r.nextPos
      · have reduce : r.nextPos + r.length - (k + 1) = (r.nextPos - (k + 1)) + r.length := by omega
        rw [reduce, Nat.add_mod_right, Nat.mod_eq_of_lt (by omega)]
        omega
      · rw [Nat.mod_eq_of_lt (by omega)]
        omega

theorem rings_append (h : History) (g : Gallery) (x : HourRecord) (i : Gallery) :
    (h.append g x).rings.get i = if i = g then (h.rings.get g).append else h.rings.get i := PerGallery.get_set _ _ _ _

section
variable {h : History} (ok : HistoryOk h) (g : Gallery) (x : HourRecord)
include ok

theorem length_pos : 0 < (h.rings.get g).length := by
  have := (ok.partition.1 g).1
  rw [lengths_get] at this
  omega

/-- An append writes one slot. -/
theorem slots_append (i : Nat) :
    (h.append g x).slots[i]? =
      if i = (h.rings.get g).base + (h.rings.get g).nextPos then some (some x) else h.slots[i]? := by
  have fits : (h.rings.get g).base + (h.rings.get g).nextPos < 512 := by
    rw [ok.base g]
    refine place_lt ok.partition.2 g ?_
    rw [lengths_get]
    exact nextPos_lt (length_pos ok g)
  show (h.slots.setIfInBounds _ _)[i]? = _
  rw [Vector.getElem?_setIfInBounds]
  by_cases same : i = (h.rings.get g).base + (h.rings.get g).nextPos
  · subst same
    simp [fits]
  · simp [same, Ne.symm same]

/-- The record appended is read back as the newest (R131, R132). -/
theorem recordAt_append_zero : (h.append g x).recordAt ((h.append g x).rings.get g) 0 = some x := by
  rw [rings_append, if_pos rfl, recordAt_of_slot (slotAt_append_zero (length_pos ok g)), slots_append ok, if_pos rfl]
  rfl

/-- The records before it keep their order (R131, R132). -/
theorem recordAt_append_succ {k : Nat} (counted : k + 1 < ((h.append g x).rings.get g).count) :
    (h.append g x).recordAt ((h.append g x).rings.get g) (k + 1) = h.recordAt (h.rings.get g) k := by
  rw [rings_append, if_pos rfl] at counted ⊢
  obtain ⟨same, j, -, slot, ne⟩ := slotAt_append_succ (ok.ring g) counted
  rw [recordAt_of_slot (same.trans slot), recordAt_of_slot slot, slots_append ok, if_neg (by omega)]

/-- The other rings read as before. -/
theorem recordAt_append_ne {i : Gallery} (ne : i ≠ g) (k : Nat) :
    (h.append g x).rings.get i = h.rings.get i ∧
      (h.append g x).recordAt ((h.append g x).rings.get i) k = h.recordAt (h.rings.get i) k := by
  have ring : (h.append g x).rings.get i = h.rings.get i := by rw [rings_append, if_neg ne]
  refine ⟨ring, ?_⟩
  rw [ring]
  refine recordAt_congr (length_pos ok i) (fun j within => ?_) k
  rw [slots_append ok, if_neg]
  rw [ok.base i, ok.base g]
  refine place_ne h.lengths ne ?_ ?_
  · rwa [lengths_get]
  · rw [lengths_get]
    exact nextPos_lt (length_pos ok g)

/-- An append keeps the store in order. -/
theorem historyOk_append : HistoryOk (h.append g x) := by
  have ring (i : Gallery) := rings_append h g x i
  obtain ⟨base, length, -, -⟩ := append_fields (h.rings.get g)
  have lengths : (h.append g x).lengths = h.lengths := by
    refine PerGallery.ext_get fun i => ?_
    rw [lengths_get, lengths_get, ring]
    split
    next e => rw [length, e]
    next => rfl
  refine ⟨lengths ▸ ok.partition, fun i => ?_, fun i => ?_, ok.pending, fun i k counted => ?_⟩
  · rw [lengths, ring]
    split
    next e => rw [base, e, ok.base]
    next => exact ok.base i
  · rw [ring]
    split
    · exact ringOk_append (ok.ring g) (length_pos ok g)
    · exact ok.ring i
  · by_cases e : i = g
    · subst e
      cases k with
      | zero => rw [recordAt_append_zero ok]; rfl
      | succ k =>
        rw [recordAt_append_succ ok _ _ counted]
        refine ok.readable i k ?_
        rw [ring, if_pos rfl, append_count] at counted
        split at counted <;> omega
    · obtain ⟨same, read⟩ := recordAt_append_ne ok g x e k
      rw [read]
      rw [same] at counted
      exact ok.readable i k counted

end

end Sys2Proof.Machine
end

section
/-! SUPPORT. A new partition of the history store's slots (R135), the statements about its hour close, its requests and its
day mark, and its invariant. -/

namespace Sys2Proof.Machine
open Sys2Proof

/-! ## A new partition -/

/-- A ring keeps its place and its length under a partition (R135). -/
def keepsPlace (old : History) (ls : PerGallery Nat) (g : Gallery) : Bool :=
  decide ((old.rings.get g).base = ringBase ls g ∧ (old.rings.get g).length = ls.get g)

/-- The record that a gallery's ring keeps under a partition that moves it (R135). -/
def carried (old : History) (ls : PerGallery Nat) (ending : Option (Nat × Nat)) (g : Gallery) : Option HourRecord :=
  if keepsPlace old ls g then none else keptRecord old (old.rings.get g) ending

/-- A gallery's ring under a partition (R135). -/
def relaid (old : History) (ls : PerGallery Nat) (ending : Option (Nat × Nat)) (g : Gallery) : Ring :=
  if keepsPlace old ls g then old.rings.get g
  else (old.rings.get g).relay (ringBase ls g) (ls.get g) (carried old ls ending g).isSome

section
variable (old : History) (ls : PerGallery Nat) (ending : Option (Nat × Nat))

theorem relayRing_rings {h : History} {g : Gallery} (untouched : h.rings.get g = old.rings.get g) (i : Gallery) :
    (old.relayRing ls ending h g).rings.get i = if i = g then relaid old ls ending i else h.rings.get i := by
  unfold History.relayRing relaid carried keepsPlace
  dsimp only
  by_cases same : (old.rings.get g).base = ringBase ls g ∧ (old.rings.get g).length = ls.get g
  · rw [if_pos same]
    split
    next e => simp only [e, same, and_self, decide_true, if_true, untouched]
    next => rfl
  · rw [if_neg same]
    cases kept : keptRecord old (old.rings.get g) ending <;>
    · simp only [PerGallery.get_set]
      split
      next e => simp [e, same, kept]
      next => rfl

theorem relayRing_slots (h : History) (g : Gallery) :
    (old.relayRing ls ending h g).slots =
      match carried old ls ending g with
      | some x => h.slots.setIfInBounds (ringBase ls g) (some x)
      | none => h.slots := by
  unfold History.relayRing carried keepsPlace
  dsimp only
  by_cases same : (old.rings.get g).base = ringBase ls g ∧ (old.rings.get g).length = ls.get g
  · simp [same]
  · simp only [same, if_false, decide_false, Bool.false_eq_true]
    cases keptRecord old (old.rings.get g) ending <;> rfl

/-- The rings of galleries that have been laid anew. -/
theorem foldl_relayRing_rings (l : List Gallery) (once : l.Nodup) (h : History)
    (untouched : ∀ g ∈ l, h.rings.get g = old.rings.get g) (i : Gallery) :
    (l.foldl (old.relayRing ls ending) h).rings.get i = if i ∈ l then relaid old ls ending i else h.rings.get i := by
  induction l generalizing h with
  | nil => rfl
  | cons g l ih =>
    obtain ⟨absent, once⟩ := List.nodup_cons.1 once
    have step := relayRing_rings old ls ending (untouched g (List.mem_cons_self ..))
    rw [List.foldl_cons, ih once, step]
    · by_cases head : i = g
      · subst head
        simp [absent]
      · simp [head]
    · intro j mem
      have other : j ≠ g := fun e => absent (e ▸ mem)
      rw [step, if_neg other]
      exact untouched j (List.mem_cons_of_mem _ mem)

/-- A slot that no ring is carried to stays. -/
theorem foldl_relayRing_slots (l : List Gallery) (h : History) {i : Nat}
    (apart : ∀ g ∈ l, carried old ls ending g ≠ none → ringBase ls g ≠ i) :
    (l.foldl (old.relayRing ls ending) h).slots[i]? = h.slots[i]? := by
  induction l generalizing h with
  | nil => rfl
  | cons g l ih =>
    rw [List.foldl_cons, ih _ fun j mem => apart j (List.mem_cons_of_mem _ mem), relayRing_slots]
    have clear := apart g (List.mem_cons_self ..)
    cases moved : carried old ls ending g with
    | none => rfl
    | some x => exact Vector.getElem?_setIfInBounds_ne (clear (by simp [moved]))

/-- The slot a record is carried to holds it. -/
theorem foldl_relayRing_carried (l : List Gallery) (once : l.Nodup) (h : History) {g : Gallery} (mem : g ∈ l) {x : HourRecord}
    (moved : carried old ls ending g = some x) (fits : ringBase ls g < 512)
    (apart : ∀ i, i ≠ g → ringBase ls i ≠ ringBase ls g) :
    (l.foldl (old.relayRing ls ending) h).slots[ringBase ls g]? = some (some x) := by
  induction l generalizing h with
  | nil => cases mem
  | cons j l ih =>
    obtain ⟨absent, once⟩ := List.nodup_cons.1 once
    rw [List.foldl_cons]
    rcases List.mem_cons.1 mem with rfl | mem
    · have others (i : Gallery) (mem : i ∈ l) : i ≠ g := fun e => absent (e ▸ mem)
      rw [foldl_relayRing_slots _ _ _ _ _ fun i mem _ => apart i (others i mem), relayRing_slots, moved]
      dsimp only
      rw [Vector.getElem?_setIfInBounds_self]
      exact if_pos fits
    · exact ih once _ mem

end

theorem relaid_length (h : History) (ls : PerGallery Nat) (ending : Option (Nat × Nat)) (g : Gallery) : (relaid h ls ending g).base = ringBase ls g ∧ (relaid h ls ending g).length = ls.get g := by
  unfold relaid
  split
  next same => exact of_decide_eq_true same
  next =>
    unfold Ring.relay
    split <;> exact ⟨rfl, rfl⟩

theorem galleries_nodup : galleries.Nodup := by decide

theorem mem_galleries (g : Gallery) : g ∈ galleries := by cases g <;> decide

section
variable {h : History} {ls : PerGallery Nat} (ending : Option (Nat × Nat)) (due : h.pendingPartition = some ls)
include due

theorem applyPartition_pending : (h.applyPartition ending).pendingPartition = none := by
  rw [History.applyPartition, due]

theorem applyPartition_rings (g : Gallery) : (h.applyPartition ending).rings.get g = relaid h ls ending g := by
  rw [History.applyPartition, due]
  refine (foldl_relayRing_rings h ls ending galleries galleries_nodup h (fun _ _ => rfl) g).trans ?_
  rw [if_pos (mem_galleries g)]

theorem applyPartition_slots {i : Nat} (apart : ∀ g, carried h ls ending g ≠ none → ringBase ls g ≠ i) :
    (h.applyPartition ending).slots[i]? = h.slots[i]? := by
  rw [History.applyPartition, due]
  exact foldl_relayRing_slots h ls ending galleries h fun g _ => apart g

variable (fits : PartitionOk ls)
include fits

theorem applyPartition_carried {g : Gallery} {x : HourRecord} (moved : carried h ls ending g = some x) :
    (h.applyPartition ending).slots[ringBase ls g]? = some (some x) := by
  rw [History.applyPartition, due]
  have long (g : Gallery) : 0 < ls.get g := by
    have := (fits.1 g).1
    omega
  exact foldl_relayRing_carried h ls ending galleries galleries_nodup h (mem_galleries g) moved
    (place_lt fits.2 g (long g)) fun i ne => place_ne ls ne (long i) (long g)

/-- A ring that keeps its place reads as before (R135). -/
theorem recordAt_applyPartition_kept {g : Gallery} (same : keepsPlace h ls g = true) (k : Nat) :
    (h.applyPartition ending).rings.get g = h.rings.get g ∧
      (h.applyPartition ending).recordAt (h.rings.get g) k = h.recordAt (h.rings.get g) k := by
  have place := of_decide_eq_true same
  have long (g : Gallery) : 0 < ls.get g := by
    have := (fits.1 g).1
    omega
  refine ⟨by rw [applyPartition_rings ending due, relaid, if_pos same], ?_⟩
  refine recordAt_congr (by rw [place.2]; exact long g) (fun j within => ?_) k
  refine applyPartition_slots ending due fun i moved => ?_
  have other : i ≠ g := by
    rintro rfl
    exact moved (if_pos same)
  rw [place.1]
  rw [place.2] at within
  exact place_ne ls other (long i) within

/-- A ring that is moved with its newest record reads it (R135). -/
theorem recordAt_applyPartition_carried {g : Gallery} {x : HourRecord} (moved : carried h ls ending g = some x) :
    (h.applyPartition ending).rings.get g = (h.rings.get g).relay (ringBase ls g) (ls.get g) true ∧
      (h.applyPartition ending).recordAt ((h.rings.get g).relay (ringBase ls g) (ls.get g) true) 0 = some x := by
  have differs : keepsPlace h ls g = false := by
    cases same : keepsPlace h ls g
    · rfl
    · simp [carried, same] at moved
  refine ⟨?_, ?_⟩
  · rw [applyPartition_rings ending due, relaid, differs, moved]
    rfl
  · have slot : ((h.rings.get g).relay (ringBase ls g) (ls.get g) true).slotAt 0 = some (ringBase ls g) := by
      simp [Ring.relay, Ring.slotAt]
    rw [recordAt_of_slot slot, applyPartition_carried ending due fits moved]
    rfl

/-- A partition that is applied leaves the store in order (R135). -/
theorem historyOk_applyPartition (ok : HistoryOk h) : HistoryOk (h.applyPartition ending) := by
  have ring (g : Gallery) := applyPartition_rings ending due g
  have place (g : Gallery) := relaid_length h ls ending g
  have lengths : (h.applyPartition ending).lengths = ls :=
    PerGallery.ext_get fun g => by rw [lengths_get, ring, (place g).2]
  refine ⟨lengths ▸ fits, fun g => ?_, fun g => ?_, fun l due' => ?_, fun g k counted => ?_⟩
  · rw [ring, lengths, (place g).1]
  · rw [ring]
    unfold relaid
    split
    · exact ok.ring g
    · unfold Ring.relay
      have := (fits.1 g).1
      split
      · refine ⟨?_, ?_, by simp, fun p eq => ?_⟩
        · dsimp only
          split <;> omega
        · dsimp only
          omega
        · cases eq
          dsimp only
          omega
      · simp [Ring.empty, RingOk]
  · rw [applyPartition_pending ending due] at due'
    cases due'
  · cases same : keepsPlace h ls g
    · cases moved : carried h ls ending g with
      | none =>
        rw [ring, relaid, same, moved] at counted
        exact absurd counted (Nat.not_lt_zero _)
      | some x =>
        obtain ⟨now, read⟩ := recordAt_applyPartition_carried ending due fits moved
        rw [now] at counted ⊢
        have newest : k = 0 := Nat.lt_one_iff.1 counted
        rw [newest, read]
        rfl
    · obtain ⟨now, read⟩ := recordAt_applyPartition_kept ending due fits same k
      rw [now] at counted ⊢
      rw [read]
      exact ok.readable g k counted

end

/-! ## The statements -/

/-- The record a ring keeps is its newest, when that carries the ending stamp (R135). -/
theorem keptRecord_eq (h : History) (r : Ring) (day hour : Nat) :
    keptRecord h r (some (day, hour)) = (h.recordAt r 0).filter fun x => decide (x.day = day ∧ x.hour = hour) := by
  unfold keptRecord
  cases h.recordAt r 0 with
  | none => rfl
  | some x => by_cases stamp : x.day = day ∧ x.hour = hour <;> simp [Option.filter, stamp]

/-- Settles O46: the day mark lays the rings anew, and nothing else of the store changes. -/
theorem partitionApplied : Obligations.PartitionApplied := by
  unfold Obligations.PartitionApplied
  intro m s ready inv i
  have ok := (recordInv_iff s).1 inv
  refine ⟨fun none => ?_, fun ls due day => ?_⟩
  · have idle : ∀ v : State, v.ret = s.ret →
        (if m.dayFlag then v.setHistory (v.ret.history.applyPartition (some (m.ending.day, m.ending.hour))) else v) = v := by
      intro v same
      rcases none with off | none
      · rw [off]
        rfl
      · have kept : v.ret.history.applyPartition (some (m.ending.day, m.ending.hour)) = v.ret.history := by
          rw [History.applyPartition, same, none]
        rw [kept, State.setHistory, ite_self]
    exact deliver_silent ready (idle _ rfl)
  · have fits := ok.pending ls due
    let h := s.ret.history.applyPartition (some (m.ending.day, m.ending.hour))
    have taken : exec i s = .next (after s i (s.setHistory h) []) := deliver_silent ready (if_pos day)
    refine ⟨_, taken, ⟨applyPartition_pending _ due, List.append_nil _, rfl⟩, fun g => ?_⟩
    have differs : (s.ring g).base ≠ ringBase ls g ∨ (s.ring g).length ≠ ls.get g → keepsPlace s.ret.history ls g = false :=
      fun moved => decide_eq_false (not_and_or.2 moved)
    have carries (moved : keepsPlace s.ret.history ls g = false) :
        carried s.ret.history ls (some (m.ending.day, m.ending.hour)) g =
          (s.record g 0).filter fun x => decide (x.day = m.ending.day ∧ x.hour = m.ending.hour) := by
      rw [carried, moved]
      exact keptRecord_eq _ _ _ _
    have ring := applyPartition_rings (some (m.ending.day, m.ending.hour)) due g
    dsimp only
    rw [← ringBase_eq_sum]
    refine ⟨fun base length => ?_, fun moved none => ?_, fun moved some => ?_⟩
    · have read := recordAt_applyPartition_kept (some (m.ending.day, m.ending.hour)) due fits
        (decide_eq_true ⟨base, length⟩)
      refine ⟨(read 0).1, fun k => ?_⟩
      exact (congrArg (History.recordAt h · k) (read 0).1).trans (read k).2
    · refine ring.trans ?_
      rw [relaid, differs moved, carries (differs moved), none]
      rfl
    · obtain ⟨x, kept⟩ := Option.ne_none_iff_exists'.1 some
      obtain ⟨now, read⟩ := recordAt_applyPartition_carried _ due fits ((carries (differs moved)).trans kept)
      refine ⟨now.trans ?_, ?_⟩
      · have unread : (if (s.ring g).unread = 0 then 0 else 1) = min 1 (s.ring g).unread := by
          split <;> omega
        rw [← unread]
        rfl
      · exact ((congrArg (History.recordAt h · 0) now).trans read).trans kept.symm

/-! ## The hour close -/

theorem losesUnread_iff (r : Ring) : r.losesUnread = true ↔ r.length ≤ r.count ∧ r.count ≤ r.unread := by
  simp [Ring.losesUnread]

/-- What an hour close makes of the store (R129). -/
def closedHour (h : HourClose) (s : State) : State :=
  (s.setHistory (s.ret.history.append h.g (assemble h (s.aggregates h.g)))).setAggregates h.g (s.aggregates h.g).restart

theorem execHourCloseNotice_eq {s : State} (ready : Ready s .history) (h : HourClose) :
    exec (.hourCloseNotice h) s = .next (after s (.hourCloseNotice h) (closedHour h s)
      ((if (s.ring h.g).losesUnread then attention s .historyOverrun (some h.g) else []) ++
        [.recordWrittenNotice h.g h.day h.hour, .aggregateChangeNotice ((s.aggregates h.g).restart.change h.g)])) := by
  show execHourCloseNotice h s = _
  unfold execHourCloseNotice
  refine deliver_sends (r := closedHour h s) ready ?_
  unfold State.appendRecord
  dsimp only
  have lost : ((s.take (.hourCloseNotice h)).ring h.g).losesUnread = (s.ring h.g).losesUnread := rfl
  rw [lost]
  cases (s.ring h.g).losesUnread
  · simp only [send_eq_sendAll, Bool.false_eq_true, if_false]
    exact congrArg (fun l => { (closedHour h s).take (.hourCloseNotice h) with inFlight := l }) (List.append_assoc ..)
  · simp only [send_eq_sendAll, attend_eq_sendAll, if_true]
    refine congrArg (fun l => { (closedHour h s).take (.hourCloseNotice h) with inFlight := l }) ?_
    refine .trans ?_ (List.append_assoc _ _ _)
    exact List.append_assoc _ _ _

theorem not_measures (st : ChanState) (code : Option Nat) : (!measures st code) = (st != .ok || code == none) := by
  unfold measures
  cases code <;> simp [bne]

/-- Settles O44: an hour close is an append, a restart of the aggregates and two notices. -/
theorem hourClosed : Obligations.HourClosed := by
  unfold Obligations.HourClosed
  intro h s ready inv i a x r
  have ok := (recordInv_iff s).1 inv
  have ring (l : List Instr) : (after s i (closedHour h s) l).ring h.g = r.append :=
    (rings_append _ h.g x h.g).trans (if_pos rfl)
  have aggregates (l : List Instr) (g : Gallery) :
      (after s i (closedHour h s) l).aggregates g = if g = h.g then a.restart else s.aggregates g :=
    PerGallery.get_set _ _ _ _
  refine ⟨_, execHourCloseNotice_eq ready h, ?_, ?_, ?_, ?_, ?_, ?_, ?_, ?_, ?_⟩
  · exact recordAt_append_zero ok h.g x
  · exact fun k counted => recordAt_append_succ ok h.g x counted
  · exact fun g ne => ⟨(recordAt_append_ne ok h.g x ne 0).1, fun k => (recordAt_append_ne ok h.g x ne k).2⟩
  · obtain ⟨base, length, -⟩ := append_fields r
    rw [ring, base, length]
    exact ⟨rfl, rfl, rfl⟩
  · obtain ⟨-, -, newest, -⟩ := append_fields r
    rw [ring, newest, Ring.nextPos]
    cases top : r.newest with
    | none => rfl
    | some p =>
      have within := (ok.ring h.g).2.2.2 p top
      have wraps : p + 1 < r.length ↔ ¬p + 1 = r.length := by
        change p < r.length at within
        omega
      simp only [wraps, ite_not]
  · obtain ⟨-, -, -, counts⟩ := append_fields r
    rw [ring]
    exact counts
  · rw [aggregates, if_pos rfl, Aggregates.restart, not_measures, not_measures]
  · intro g ne
    rw [aggregates, if_neg ne]
  · simp only [← losesUnread_iff, List.append_assoc]
    rfl

end Sys2Proof.Machine
end

section
/-! SUPPORT. ADVANCE MARK and PARTITION (R133, R134), and the invariant of the history store through every step. -/

namespace Sys2Proof.Machine
open Sys2Proof

/-! ## ADVANCE MARK -/

/-- The ring of one gallery rewritten by `φ`. -/
def editRing (φ : Ring → Ring) (g : Gallery) (s : State) : State := s.setRing g (φ (s.ring g))

/-- The state with the rings of the galleries that a gallery field names rewritten by `φ`. -/
def ringsWritten (b : BitVec 3) (φ : Ring → Ring) (s : State) : State :=
  s.setHistory { s.ret.history with rings := .ofFn fun g => if addresses b g then φ (s.ring g) else s.ring g }

theorem ring_editRing (φ : Ring → Ring) (g h : Gallery) (s : State) :
    (editRing φ g s).ring h = if h = g then φ (s.ring h) else s.ring h := by
  rw [editRing, State.ring_setRing]
  split
  · rw [‹h = g›]
  · rfl

/-- `t` is `s` but for the rings' marks and counts. -/
def RingsAlone (s t : State) : Prop := t = s.setHistory { s.ret.history with rings := t.ret.history.rings }

theorem RingsAlone.refl (s : State) : RingsAlone s s := rfl

theorem RingsAlone.editRing {s t : State} (h : RingsAlone s t) (φ : Ring → Ring) (g : Gallery) :
    RingsAlone s (editRing φ g t) := by
  rw [RingsAlone, h]
  rfl

theorem eq_ringsWritten {b : BitVec 3} {φ : Ring → Ring} {s t : State} (alone : RingsAlone s t)
    (written : ∀ g, t.ring g = if addresses b g then φ (s.ring g) else s.ring g) : t = ringsWritten b φ s := by
  have table : t.ret.history.rings = .ofFn fun g => if addresses b g then φ (s.ring g) else s.ring g :=
    PerGallery.ext_get fun g => by
      rw [PerGallery.get_ofFn]
      exact written g
  rw [alone, table]
  rfl

/-- The write for one gallery rewrites its ring. -/
theorem editRing_eq_ringsWritten {b : BitVec 3} {g : Gallery} (num : b.toNat = galleryNum g) (φ : Ring → Ring) (s : State) :
    editRing φ g s = ringsWritten b φ s := by
  refine eq_ringsWritten ((RingsAlone.refl s).editRing φ g) fun h => ?_
  simp only [addresses_one num, decide_eq_true_eq]
  exact ring_editRing φ g h s

/-- The writes for all six galleries rewrite each ring. -/
theorem forGalleries_editRing_eq_ringsWritten {b : BitVec 3} (num : b.toNat = 7) (φ : Ring → Ring) (s : State) :
    forGalleries (editRing φ) s = ringsWritten b φ s := by
  refine eq_ringsWritten (forGalleries_keeps (fun g _ h => h.editRing φ g) (RingsAlone.refl s)) fun g => ?_
  simp only [addresses_all num, if_true]
  refine forGalleries_each State.ring (fun _ => φ) ?self ?other s g
  case self =>
    intro g s
    simp [ring_editRing]
  case other =>
    intro g h s ne
    simp [ring_editRing, ne]

/-- The advances of the galleries a request names, with what they answer (R133). -/
theorem markNamed_advanceRing (n : Nat) (b : BitVec 3) (d : Gallery → Nat) (s : State) :
    let clamped : Gallery → Bool := fun g => addresses b g && decide ((s.ring g).unread < n)
    markNamed b (State.advanceRing n) .clamped .ok d s =
      if b = 6 then refuse s .range
      else (ringsWritten b (Ring.advance · n) s, if galleries.any clamped then .clamped else .ok,
        if b = 7 then maskOf clamped else ((galleries.filter (addresses b)).map d).sum) := by
  refine markNamed_of_marks (fun g num => congrArg (·, _) (editRing_eq_ringsWritten num (Ring.advance · n) s)) (fun num => ?_)
    _ _ d
  refine Prod.ext (forGalleries_editRing_eq_ringsWritten num (Ring.advance · n) s) ?_
  refine (forMask_mask State.ring (fun _ r => decide (r.unread < n)) (fun _ _ => rfl) ?_ s).trans (galleryMask_ofFn _)
  intro g h s ne
  exact (ring_editRing (Ring.advance · n) g h s).trans (if_neg ne)

theorem advance_eq (r : Ring) (n : Nat) : r.advance n = { r with unread := r.unread - n, overrun := false } := by
  have marks : r.unread - min n r.unread = r.unread - n := by omega
  rw [Ring.advance, marks]

/-! ## PARTITION -/

/-- The lengths a PARTITION asks for (R134). -/
def askedLengths (b : BitVec 3) (v : Nat) (ls : PerGallery Nat) : PerGallery Nat :=
  .ofFn fun g => if addresses b g then v else ls.get g

theorem askedLengths_one {b : BitVec 3} {g : Gallery} (num : b.toNat = galleryNum g) (v : Nat) (ls : PerGallery Nat) :
    ls.set g v = askedLengths b v ls :=
  PerGallery.ext_get fun h => by
    simp only [askedLengths, PerGallery.get_set, PerGallery.get_ofFn, addresses_one num, decide_eq_true_eq]

theorem askedLengths_all {b : BitVec 3} (num : b.toNat = 7) (v : Nat) (ls : PerGallery Nat) :
    .all v = askedLengths b v ls :=
  PerGallery.ext_get fun h => by
    simp only [askedLengths, PerGallery.get_all, PerGallery.get_ofFn, addresses_all num, if_true]

/-- The PARTITION request's proposal, for one gallery and for all six (R134). -/
theorem propose_named (b : BitVec 3) (v : Nat) (r : Result) (s : State) :
    (match gallerySel b with
      | .bad => refuse s .range
      | .one g => s.propose (s.ret.history.proposalBase.set g v) r
      | .all => s.propose (.all v) r) =
      if b = 6 then refuse s .range else s.propose (askedLengths b v s.ret.history.proposalBase) r := by
  obtain ⟨g, sel, num⟩ | ⟨sel, num⟩ | ⟨sel, six⟩ := gallerySel_cases b
  · have small := galleryNum_lt g
    have known : b ≠ 6 := by bv_omega
    simp only [sel, if_neg known, askedLengths_one num]
  · have known : b ≠ 6 := by bv_omega
    simp only [sel, if_neg known, ← askedLengths_all num]
  · simp only [sel, if_pos six]

/-- Settles O45: ADVANCE MARK marks the rings named, and PARTITION judges one proposal. -/
theorem historyRequestsAnswered : Obligations.HistoryRequestsAnswered := by
  unfold Obligations.HistoryRequestsAnswered
  intro q s ready port n all clamped v lengths asked sum
  have permitted : conservationOnly q.port = true := by rw [port]; rfl
  refine ⟨?_, ?_, ?_⟩
  · have acts := markNamed_advanceRing n q.gallery (fun g => min n (s.ring g).unread + 32768 * (s.ring g).overrun.toNat)
      (s.take (.advanceMark q))
    have flag (g : Gallery) : 32768 * (s.ring g).overrun.toNat = if (s.ring g).overrun then 32768 else 0 := by
      cases (s.ring g).overrun <;> rfl
    by_cases six : q.gallery = 6
    · rw [if_pos six]
      exact request_answers ready permitted rfl (acts.trans (if_pos six))
    · rw [if_neg six]
      refine (request_answers (t := ringsWritten q.gallery (Ring.advance · n) s) ready permitted rfl
        (acts.trans (if_neg six))).trans ?_
      simp only [ringsWritten, advance_eq, flag, all, decide_eq_true_eq]
      rfl
  · have base : s.ret.history.proposalBase = lengths := by
      simp only [History.proposalBase, lengths]
      cases s.ret.history.pendingPartition <;> rfl
    have acts := propose_named q.gallery v (if v = n then .ok else .clamped) (s.take (.partitionSet q))
    have whole : askedLengths q.gallery v (s.take (.partitionSet q)).ret.history.proposalBase = asked := by
      show askedLengths q.gallery v s.ret.history.proposalBase = asked
      rw [base]
      rfl
    have total : sumLengths asked = sum := sumLengths_eq_sum asked
    have within : v = n ↔ 24 ≤ n ∧ n ≤ 168 := by
      simp only [v]
      omega
    have proposed (r : Result) : (s.take (.partitionSet q)).propose asked r =
        if 512 < sum then (s.take (.partitionSet q), .inconsistent, sum)
        else ((s.setHistory { s.ret.history with pendingPartition := some asked }).take (.partitionSet q), r, sum) := by
      rw [State.propose, total]
      rfl
    show execPartitionSet q s = _
    unfold execPartitionSet
    simp only [← within]
    by_cases six : q.gallery = 6
    · rw [if_pos six]
      exact request_answers ready permitted rfl (acts.trans (if_pos six))
    · rw [if_neg six]
      by_cases large : 512 < sum
      · rw [if_pos large]
        refine request_answers ready permitted rfl ((acts.trans (if_neg six)).trans ?_)
        rw [whole, proposed, if_pos large]
      · rw [if_neg large]
        refine request_answers (t := s.setHistory { s.ret.history with pendingPartition := some asked }) ready permitted rfl
          ((acts.trans (if_neg six)).trans ?_)
        rw [whole, proposed, if_neg large]
  · show execPartitionWithdraw q s = _
    exact request_answers (t := s.setHistory { s.ret.history with pendingPartition := none }) ready permitted rfl rfl

/-! ## The invariant -/

theorem recordInv_own (s : State) : RecordInv s ↔ RecordInv (s.own .history) := Iff.rfl

theorem historyOk_cold : HistoryOk .cold := (recordInv_iff State.reset).1 recordInv_reset

/-- A store in order stays so with another pending partition. -/
theorem HistoryOk.propose {h : History} (ok : HistoryOk h) {p : Option (PerGallery Nat)}
    (fits : ∀ ls, p = some ls → PartitionOk ls) : HistoryOk { h with pendingPartition := p } :=
  ⟨ok.partition, ok.base, ok.ring, fits, ok.readable⟩

/-- A store in order stays so with records marked read. -/
theorem HistoryOk.advance {h : History} (ok : HistoryOk h) (g : Gallery) (n : Nat) :
    HistoryOk { h with rings := h.rings.set g ((h.rings.get g).advance n) } := by
  have ring (i : Gallery) : (h.rings.set g ((h.rings.get g).advance n)).get i =
      if i = g then (h.rings.get g).advance n else h.rings.get i := PerGallery.get_set _ _ _ _
  have lengths : History.lengths { h with rings := h.rings.set g ((h.rings.get g).advance n) } = h.lengths :=
    PerGallery.ext_get fun i => by
      rw [lengths_get, lengths_get, ring]
      split
      next e => rw [e]; rfl
      next => rfl
  refine ⟨lengths ▸ ok.partition, fun i => ?_, fun i => ?_, ok.pending, fun i k => ?_⟩
  · rw [lengths, ring]
    split
    next e => rw [e]; exact ok.base g
    next => exact ok.base i
  · rw [ring]
    split
    · obtain ⟨unread, rest⟩ := ok.ring g
      exact ⟨(Nat.sub_le _ _).trans unread, rest⟩
    · exact ok.ring i
  · rw [ring]
    split
    next => exact ok.readable g k
    next => exact ok.readable i k

theorem RecordInv.setHistory {s : State} {h : History} (ok : HistoryOk h) : RecordInv (s.setHistory h) :=
  (recordInv_iff _).2 ok

theorem partitionOk_proposalBase {h : History} (ok : HistoryOk h) (g : Gallery) :
    24 ≤ h.proposalBase.get g ∧ h.proposalBase.get g ≤ 168 := by
  unfold History.proposalBase
  cases due : h.pendingPartition with
  | none => exact ok.partition.1 g
  | some ls => exact (ok.pending ls due).1 g

/-- A proposal that is judged leaves the store in order. -/
theorem RecordInv.propose {s : State} (hs : RecordInv s) {ls : PerGallery Nat} (fits : ∀ g, 24 ≤ ls.get g ∧ ls.get g ≤ 168)
    (r : Result) : RecordInv (s.propose ls r).1 := by
  unfold State.propose
  split
  · exact hs
  next small =>
    refine RecordInv.setHistory (((recordInv_iff s).1 hs).propose fun l eq => ?_)
    cases eq
    exact ⟨fits, Nat.not_lt.1 small⟩

/-- What the history store does with a command keeps it in order. -/
theorem recordInv_taken {c : Instr} {s t : State} (hb : blockOf c = some .history) (hs : RecordInv s)
    (h : exec c s = .next t) : RecordInv t := by
  cases c <;> cases hb <;> dsimp only [exec] at h
  case trackedUpdateAtHistory.refl u =>
    refine deliver_keeps recordInv_own hs (fun s _ hs => ?_) h
    dsimp only
    split <;> exact hs
  case hourCloseNotice.refl c =>
    refine deliver_keeps recordInv_own hs (fun s _ hs => ?_) h
    have ok := historyOk_append ((recordInv_iff s).1 hs) c.g (assemble c (s.aggregates c.g))
    unfold State.appendRecord
    dsimp only
    rw [recordInv_iff]
    split
    · rw [attend_eq_sendAll]
      exact ok
    · exact ok
  case dayMarkAtHistory.refl m =>
    refine deliver_keeps recordInv_own hs (fun s _ hs => ?_) h
    split
    · refine RecordInv.setHistory ?_
      have ok := (recordInv_iff s).1 hs
      cases due : s.ret.history.pendingPartition with
      | none =>
        rw [History.applyPartition, due]
        exact ok
      | some ls => exact historyOk_applyPartition _ due (ok.pending ls due) ok
    · exact hs
  case advanceMark.refl q =>
    have one (g : Gallery) (s : State) (hs : RecordInv s) : RecordInv (s.advanceRing q.value.toNat g).1 :=
      RecordInv.setHistory (((recordInv_iff s).1 hs).advance g _)
    refine request_keeps recordInv_own hs (fun s _ hs => ?_) h
    dsimp only
    split
    · exact hs
    · exact one _ s hs
    · refine forMask_keeps (P := RecordInv) (fun g s hs => ?_) hs
      exact one g s hs
  case partitionSet.refl q =>
    have clamped : 24 ≤ clampNat 24 168 q.value.toNat ∧ clampNat 24 168 q.value.toNat ≤ 168 :=
      clampNat_le (by decide) _
    refine request_keeps recordInv_own hs (fun s _ hs => ?_) h
    dsimp only
    split
    · exact hs
    next g _ =>
      refine hs.propose (fun i => ?_) _
      rw [PerGallery.get_set]
      split
      · exact clamped
      · exact partitionOk_proposalBase ((recordInv_iff s).1 hs) i
    next =>
      refine hs.propose (fun i => ?_) _
      rw [PerGallery.get_all]
      exact clamped
  case partitionWithdraw.refl q =>
    refine request_keeps recordInv_own hs (fun s _ hs => ?_) h
    exact RecordInv.setHistory (((recordInv_iff s).1 hs).propose nofun)

theorem history_started (s : State) (b : Block) : (s.started b).ret.history = s.ret.history := by
  unfold State.started
  dsimp only
  split <;> rfl

theorem history_starting (s : State) (b : Block) : (s.starting b).ret.history = s.ret.history := by
  unfold State.starting
  split <;> rfl

/-- A start leaves the store in order (R136, R137). -/
theorem historyOk_startHistory {s : State} (ok : HistoryOk s.ret.history) (i : StartInfo) :
    HistoryOk (s.startHistory i).ret.history := by
  unfold State.startHistory
  cases i.kind with
  | cold => exact historyOk_cold
  | warm =>
    dsimp only
    split
    · exact ok
    · show HistoryOk (s.ret.history.applyPartition none)
      cases due : s.ret.history.pendingPartition with
      | none =>
        rw [History.applyPartition, due]
        exact ok
      | some ls => exact historyOk_applyPartition _ due (ok.pending ls due) ok

/-- Settles O10: an append, a proposal and a new partition keep the rings in order, and no other block touches them. -/
theorem historyKept : Obligations.HistoryKept := by
  intro s t hs h
  refine step_keeps_own (o := .history) (by simp) (by simp) recordInv_own (fun hb ready hs h => recordInv_taken hb hs h)
    (fun e => by cases e) (fun e => by cases e) (fun e => by cases e) (fun {s} b i e running hs => ?starts)
    (fun last off hs => hs) (fun off hs => (recordInv_iff _).2 historyOk_cold) (fun hs => hs) (fun hs => hs) hs h
  case starts =>
    have same : b = .history := by cases b <;> simp_all [startOwner]
    subst same
    refine (recordInv_iff _).2 ?_
    rw [history_started]
    refine historyOk_startHistory ?_ i
    rw [history_starting]
    exact (recordInv_iff s).1 hs

end Sys2Proof.Machine
end

section
/-! SUPPORT. The pool of the excursion log: the free id, the one OPEN entry of a gallery and type, and what an opening, a
closing and an acknowledgement make of the pool (R138 to R147). -/

namespace Sys2Proof.Machine
open Sys2Proof

/-! ## Lists in which at most one element meets a predicate -/

theorem eraseP_eq_filter {α : Type} {p : α → Bool} {l : List α} (one : l.Pairwise fun a b => ¬(p a = true ∧ p b = true)) :
    l.eraseP p = l.filter fun a => !p a := by
  induction l with
  | nil => rfl
  | cons a l ih =>
    obtain ⟨head, tail⟩ := List.pairwise_cons.1 one
    cases holds : p a
    · rw [List.eraseP_cons_of_neg (by simp [holds]), List.filter_cons_of_pos (by simp [holds]), ih tail]
    · have rest : l.filter (fun a => !p a) = l :=
        List.filter_eq_self.2 fun b mem => by simpa [holds] using head b mem
      rw [List.eraseP_cons_of_pos holds, List.filter_cons_of_neg (by simp [holds]), rest]

theorem eq_of_both {α : Type} {p : α → Bool} {l : List α} (one : l.Pairwise fun a b => ¬(p a = true ∧ p b = true)) {a b : α}
    (ha : a ∈ l) (hb : b ∈ l) (pa : p a = true) (pb : p b = true) : a = b := by
  induction l with
  | nil => cases ha
  | cons c l ih =>
    obtain ⟨head, tail⟩ := List.pairwise_cons.1 one
    rcases List.mem_cons.1 ha with rfl | inA <;> rcases List.mem_cons.1 hb with rfl | inB
    · rfl
    · exact absurd ⟨pa, pb⟩ (head b inB)
    · exact absurd ⟨pb, pa⟩ (head a inA)
    · exact ih tail inA inB

/-! ## The free id -/

/-- The id that lies `m` after another, passing from 255 to 0 (R139). -/
def idAfter (n m : Nat) : Nat := (n + m) % 256

theorem nextIdAfter_eq {n : Nat} (h : n ≤ 255) : nextIdAfter n = (n + 1) % 256 := by
  unfold nextIdAfter
  split <;> omega

theorem nextIdAfter_le {n : Nat} (h : n ≤ 255) : nextIdAfter n ≤ 255 := by
  unfold nextIdAfter
  split <;> omega

/-- The search for a free id finds the first one within its tries (R139). -/
theorem freeId_eq {pool : List Entry} {fuel start n : Nat} (range : start ≤ 255) (within : n < fuel)
    (free : ∀ e ∈ pool, e.id ≠ idAfter start n) (taken : ∀ m < n, ∃ e ∈ pool, e.id = idAfter start m) :
    freeId pool fuel start = idAfter start n := by
  have first : idAfter start 0 = start := by simp [idAfter]; omega
  induction fuel generalizing start n with
  | zero => omega
  | succ fuel ih =>
    cases n with
    | zero =>
      rw [first] at free ⊢
      have none : (pool.any fun e => decide (e.id = start)) = false := by simpa using free
      simp [freeId, none]
    | succ n =>
      have held : (pool.any fun e => decide (e.id = start)) = true := by
        have := taken 0 (Nat.succ_pos n)
        rw [first] at this
        simpa using this
      have shift (m : Nat) : idAfter (nextIdAfter start) m = idAfter start (m + 1) := by
        rw [nextIdAfter_eq range]
        simp only [idAfter]
        omega
      have next := ih (start := nextIdAfter start) (n := n) (nextIdAfter_le range) (Nat.lt_of_succ_lt_succ within)
        (by rwa [shift]) (fun m small => by rw [shift]; exact taken (m + 1) (Nat.succ_lt_succ small))
        (by have := nextIdAfter_le range; simp [idAfter]; omega)
      rw [freeId, if_pos held, next, shift]

/-- Of 33 ids in a row a pool of fewer entries leaves one free (R138, R139). -/
theorem exists_freeId {pool : List Entry} (small : pool.length < 33) (start : Nat) :
    ∃ n < 33, (∀ e ∈ pool, e.id ≠ idAfter start n) ∧ ∀ m < n, ∃ e ∈ pool, e.id = idAfter start m := by
  have some_ : ∃ n, n < 33 ∧ ∀ e ∈ pool, e.id ≠ idAfter start n := by
    by_contra none
    push Not at none
    have inside : (List.range 33).map (idAfter start) ⊆ pool.map Entry.id := by
      intro i mem
      obtain ⟨n, range, rfl⟩ := List.mem_map.1 mem
      obtain ⟨e, mem, same⟩ := none n (List.mem_range.1 range)
      exact List.mem_map.2 ⟨e, mem, same⟩
    have distinct : ((List.range 33).map (idAfter start)).Nodup := by
      refine List.Nodup.map_on (fun a ha b hb same => ?_) List.nodup_range
      rw [List.mem_range] at ha hb
      simp only [idAfter] at same
      omega
    have count := (distinct.subperm inside).length_le
    simp only [List.length_map, List.length_range] at count
    omega
  refine ⟨Nat.find some_, (Nat.find_spec some_).1, (Nat.find_spec some_).2, fun m before => ?_⟩
  have taken := Nat.find_min some_ before
  have range : m < 33 := before.trans (Nat.find_spec some_).1
  by_contra none
  push Not at none
  exact taken ⟨range, none⟩

/-! ## Pools in order -/

/-- What the log retains is in order (R138, R139, R141). -/
structure LogGood (l : LogRetained) : Prop where
  size : l.pool.length ≤ 32
  next : l.nextId ≤ 255
  ranges : ∀ e ∈ l.pool, e.id ≤ 255 ∧ e.extreme ≤ 65535
  ids : (l.pool.map Entry.id).Nodup
  single : l.pool.Pairwise fun a b => ¬(a.isOpen = true ∧ b.isOpen = true ∧ a.g = b.g ∧ a.type = b.type)
  acked : ∀ e ∈ l.pool, e.isOpen = false → e.acked = false

theorem isOpenOf_iff (g : Gallery) (y : ExcType) (e : Entry) :
    isOpenOf g y e = true ↔ e.g = g ∧ e.type = y ∧ e.isOpen = true := by simp [isOpenOf, and_assoc]

section
variable {l : LogRetained} (good : LogGood l)
include good

/-- One OPEN entry of a gallery and type (R141). -/
theorem LogGood.pairwise_isOpenOf (g : Gallery) (y : ExcType) :
    l.pool.Pairwise fun a b => ¬(isOpenOf g y a = true ∧ isOpenOf g y b = true) := by
  refine good.single.imp fun {a b} apart => ?_
  rintro ⟨ha, hb⟩
  rw [isOpenOf_iff] at ha hb
  exact apart ⟨ha.2.2, hb.2.2, ha.1.trans hb.1.symm, ha.2.1.trans hb.2.1.symm⟩

/-- One entry of an id (R139). -/
theorem LogGood.eq_of_id {a b : Entry} (ha : a ∈ l.pool) (hb : b ∈ l.pool) (same : a.id = b.id) : a = b :=
  List.inj_on_of_nodup_map good.ids ha hb same

/-- A pool with some entries removed is in order. -/
theorem LogGood.sub {p : List Entry} (sub : p.Sublist l.pool) (o : Bool) : LogGood ⟨p, l.nextId, o⟩ :=
  ⟨sub.length_le.trans good.size, good.next, fun e mem => good.ranges e (sub.subset mem), good.ids.sublist (sub.map _),
    good.single.sublist sub, fun e mem => good.acked e (sub.subset mem)⟩

/-- A pool with its entries rewritten in place is in order. -/
theorem LogGood.mapped (f : Entry → Entry) (key : ∀ e, (f e).id = e.id ∧ (f e).g = e.g ∧ (f e).type = e.type)
    (opens : ∀ e, (f e).isOpen = true → e.isOpen = true) (extreme : ∀ e, e.extreme ≤ 65535 → (f e).extreme ≤ 65535)
    (acked : ∀ e ∈ l.pool, (f e).isOpen = false → (f e).acked = false) : LogGood { l with pool := l.pool.map f } := by
  refine ⟨by simpa using good.size, good.next, ?_, ?_, ?_, ?_⟩
  · intro d mem
    obtain ⟨e, was, rfl⟩ := List.mem_map.1 mem
    obtain ⟨id, value⟩ := good.ranges e was
    exact ⟨by rwa [(key e).1], extreme e value⟩
  · have same : (l.pool.map f).map Entry.id = l.pool.map Entry.id := by
      rw [List.map_map]
      exact List.map_congr_left fun e _ => (key e).1
    exact same ▸ good.ids
  · refine List.pairwise_map.2 (good.single.imp fun {a b} apart => ?_)
    rintro ⟨ha, hb, g, y⟩
    rw [(key a).2.1, (key b).2.1] at g
    rw [(key a).2.2, (key b).2.2] at y
    exact apart ⟨opens a ha, opens b hb, g, y⟩
  · intro d mem
    obtain ⟨e, was, rfl⟩ := List.mem_map.1 mem
    exact acked e was

/-- The id a new entry takes is the first free one (R139). -/
theorem LogGood.newId : ∃ n < 33, l.newId = idAfter l.nextId n ∧ (∀ e ∈ l.pool, e.id ≠ idAfter l.nextId n) ∧
    ∀ m < n, ∃ e ∈ l.pool, e.id = idAfter l.nextId m := by
  obtain ⟨n, range, free, taken⟩ := exists_freeId (Nat.lt_succ_of_le good.size) l.nextId
  exact ⟨n, range, freeId_eq good.next range free taken, free, taken⟩

/-- A pool with room stays in order with a new entry of a type that has none OPEN (R141). -/
theorem LogGood.create (room : l.pool.length < 32) {g : Gallery} {y : ExcType} (none : ∀ e ∈ l.pool, isOpenOf g y e = false)
    (st : SecondStamp) (limit v : Nat) : LogGood (l.create g y st limit v) := by
  obtain ⟨n, -, id, free, -⟩ := good.newId
  have small : l.newId ≤ 255 := by
    rw [id, idAfter]
    omega
  refine ⟨?_, nextIdAfter_le small, ?_, ?_, ?_, ?_⟩
  · simp only [LogRetained.create, List.length_append, List.length_singleton]
    omega
  · intro e mem
    obtain mem | mem := List.mem_append.1 mem
    · exact good.ranges e mem
    · rw [List.mem_singleton.1 mem]
      exact ⟨small, recorded_le v⟩
  · rw [LogRetained.create, List.map_append]
    refine List.Nodup.append good.ids (List.nodup_singleton _) ?_
    intro i mem last
    obtain ⟨e, was, rfl⟩ := List.mem_map.1 mem
    have same : e.id = l.newId := by simpa using last
    exact free e was (same.trans id)
  · refine List.pairwise_append.2 ⟨good.single, List.pairwise_singleton _ _, fun a ha b hb => ?_⟩
    rw [List.mem_singleton.1 hb]
    rintro ⟨stands, -, sameG, sameY⟩
    have other := none a ha
    rw [(isOpenOf_iff g y a).2 ⟨sameG, sameY, stands⟩] at other
    cases other
  · intro e mem
    obtain mem | mem := List.mem_append.1 mem
    · exact good.acked e mem
    · rw [List.mem_singleton.1 mem]
      exact nofun

/-! ## Closing -/

/-- What a closing makes of the pool: an acknowledged OPEN entry of the type goes, another is stamped (R143). -/
theorem LogGood.closeEntry_eq (g : Gallery) (y : ExcType) (st : SecondStamp) :
    l.closeEntry g y st = { l with
      pool := (l.pool.filter fun e => !(isOpenOf g y e && e.acked)).map fun e =>
        if isOpenOf g y e then { e with closed := some st } else e } := by
  have one := good.pairwise_isOpenOf g y
  unfold LogRetained.closeEntry LogRetained.openEntry
  cases found : l.pool.find? (isOpenOf g y) with
  | none =>
    have clear : ∀ e ∈ l.pool, isOpenOf g y e = false := fun e mem => by
      simpa using List.find?_eq_none.1 found e mem
    have all : (l.pool.filter fun e => !(isOpenOf g y e && e.acked)) = l.pool :=
      List.filter_eq_self.2 fun e mem => by simp [clear e mem]
    have fixed : (l.pool.map fun e => if isOpenOf g y e then { e with closed := some st } else e) = l.pool := by
      refine (List.map_congr_left fun e mem => ?_).trans (List.map_id _)
      simp [clear e mem]
    rw [all, fixed]
  | some e =>
    have mem := List.mem_of_find?_eq_some found
    have stands := List.find?_some found
    have only {d : Entry} (hd : d ∈ l.pool) (pd : isOpenOf g y d = true) : d = e := eq_of_both one hd mem pd stands
    cases acked : e.acked
    · have all : (l.pool.filter fun e => !(isOpenOf g y e && e.acked)) = l.pool :=
        List.filter_eq_self.2 fun d hd => by
          cases pd : isOpenOf g y d
          · rfl
          · rw [only hd pd, acked]
            rfl
      simp only [acked, all, Bool.false_eq_true, if_false]
    · have gone : (l.pool.filter fun e => !(isOpenOf g y e && e.acked)) = l.pool.filter fun e => !isOpenOf g y e :=
        List.filter_congr fun d hd => by
          cases pd : isOpenOf g y d
          · rfl
          · rw [only hd pd, acked]
            rfl
      have fixed : ((l.pool.filter fun e => !isOpenOf g y e).map fun e =>
          if isOpenOf g y e then { e with closed := some st } else e) = l.pool.filter fun e => !isOpenOf g y e := by
        refine (List.map_congr_left fun d hd => ?_).trans (List.map_id _)
        have clear : isOpenOf g y d = false := by simpa using (List.mem_filter.1 hd).2
        simp [clear]
      simp only [acked, if_true, LogRetained.remove, eraseP_eq_filter one, gone, fixed]

/-- A closing leaves the pool in order (R143). -/
theorem LogGood.closeEntry (g : Gallery) (y : ExcType) (st : SecondStamp) : LogGood (l.closeEntry g y st) := by
  rw [good.closeEntry_eq]
  have kept := good.sub (p := l.pool.filter fun e => !(isOpenOf g y e && e.acked)) List.filter_sublist l.overflow
  refine kept.mapped (fun e => if isOpenOf g y e then { e with closed := some st } else e) (fun e => ?_) (fun e => ?_)
    (fun e => ?_) (fun e mem => ?_)
  · split <;> exact ⟨rfl, rfl, rfl⟩
  · split
    · exact nofun
    · exact id
  · split <;> exact id
  · split
    next stands =>
      intro _
      have unacked := (List.mem_filter.1 mem).2
      simpa [stands] using unacked
    next => exact kept.acked e mem

/-- After a closing no entry of the type is OPEN, and the OPEN entries are those that were. -/
theorem LogGood.open_closeEntry {g : Gallery} {y : ExcType} {st : SecondStamp} {d : Entry}
    (mem : d ∈ (l.closeEntry g y st).pool) (stands : d.isOpen = true) : d ∈ l.pool ∧ isOpenOf g y d = false := by
  rw [good.closeEntry_eq] at mem
  obtain ⟨e, was, rfl⟩ := List.mem_map.1 mem
  cases same : isOpenOf g y e
  · simp only [same, Bool.false_eq_true, if_false]
    exact ⟨(List.mem_filter.1 was).1, trivial⟩
  · simp only [same, if_true] at stands
    cases stands

end

end Sys2Proof.Machine
end

section
/-! SUPPORT. The statements about the excursion log's notices and acknowledgements, and its invariant through every step. -/

namespace Sys2Proof.Machine
open Sys2Proof

/-- The pool and the active types in order, as the log keeps them once it has started (R138, R139, R141, R151). -/
structure LogRun (s : State) : Prop where
  good : LogGood s.ret.log
  active : ∀ e ∈ s.ret.log.pool, e.isOpen = true → s.isActive e.g e.type = true

theorem logInv_iff (s : State) :
    LogInv s ↔ LogGood s.ret.log ∧
      (Ready s .log → ∀ e ∈ s.ret.log.pool, e.isOpen = true → s.isActive e.g e.type = true) :=
  ⟨fun ⟨size, next, ranges, ids, single, acked, active⟩ => ⟨⟨size, next, ranges, ids, single, acked⟩, active⟩,
    fun ⟨good, active⟩ => ⟨good.size, good.next, good.ranges, good.ids, good.single, good.acked, active⟩⟩

theorem LogInv.run {s : State} (h : LogInv s) (ready : Ready s .log) : LogRun s :=
  ⟨((logInv_iff s).1 h).1, ((logInv_iff s).1 h).2 ready⟩

theorem LogRun.inv {s : State} (h : LogRun s) : LogInv s := (logInv_iff s).2 ⟨h.good, fun _ => h.active⟩

/-- A type that is not active has no OPEN entry. -/
theorem LogRun.none_open {s : State} (h : LogRun s) {g : Gallery} {y : ExcType} (off : s.isActive g y = false) (e : Entry)
    (mem : e ∈ s.ret.log.pool) : isOpenOf g y e = false := by
  cases same : isOpenOf g y e
  · rfl
  · obtain ⟨rfl, rfl, stands⟩ := (isOpenOf_iff g y e).1 same
    rw [h.active e mem stands] at off
    cases off

/-! ## The three notices -/

theorem isOpenOf_eq (g : Gallery) (y : ExcType) (e : Entry) :
    isOpenOf g y e = (decide (e.g = g) && decide (e.type = y) && e.closed == none) := by
  unfold isOpenOf Entry.isOpen
  cases e.closed <;> simp

theorem keepsSmallest_eq (y : ExcType) : keepsSmallest y = (decide (y = .doseShort) || decide (y = .rhLow) || decide (y = .tLow)) := by
  cases y <;> decide

/-- An entry of a type after a value (R142). -/
theorem follow_eq {e : Entry} {y : ExcType} (same : e.type = y) (v : Nat) :
    e.follow v = { e with extreme := recorded (if keepsSmallest y then min e.extreme v else max e.extreme v) } := by
  rw [Entry.follow, same, Nat.min_comm, Nat.max_comm]

/-- The creation of an entry, by the ids it passes over (R139, R141). -/
theorem LogGood.create_eq {l : LogRetained} (good : LogGood l) (g : Gallery) (y : ExcType) (st : SecondStamp) (limit v : Nat) :
    ∃ n < 33, (∀ e ∈ l.pool, e.id ≠ idAfter l.nextId n) ∧ (∀ m < n, ∃ e ∈ l.pool, e.id = idAfter l.nextId m) ∧
      l.create g y st limit v = ⟨l.pool ++ [⟨idAfter l.nextId n, g, y, false, st, none, limit, recorded v⟩],
        (idAfter l.nextId n + 1) % 256, l.overflow⟩ := by
  obtain ⟨n, range, id, free, taken⟩ := good.newId
  have small : idAfter l.nextId n ≤ 255 := by
    rw [idAfter]
    omega
  refine ⟨n, range, free, taken, ?_⟩
  rw [LogRetained.create, id, nextIdAfter_eq small]

theorem any_closed_iff (l : List Entry) : (l.any fun e => !e.isOpen) = true ↔ ∃ e ∈ l, e.closed ≠ none := by
  simp only [List.any_eq_true, Entry.isOpen]
  refine exists_congr fun e => and_congr_right fun _ => ?_
  cases e.closed <;> simp

theorem not_isOpen_eq : (fun e : Entry => !e.isOpen) = fun e => e.closed != none := by
  funext e
  unfold Entry.isOpen
  cases e.closed <;> simp

section
variable {g : Gallery} {y : ExcType} {limit v : Nat} {s : State}

/-- What an opening of an inactive type makes of the log when the pool has room (R141). -/
theorem openExc_room (room : s.ret.log.pool.length < 32) :
    s.openExc g y limit v =
      ((s.setActiveType g y true).setLogRet (s.ret.log.create g y (secondStamp s.clock) limit v)).sendAll
        (attention s .excursionOpened (some g)) := by
  unfold State.openExc
  refine (if_pos room).trans ?_
  rw [State.createEntry, attend_eq_sendAll]
  rfl

/-- The same when the pool is full and a CLOSED entry makes room (R144). -/
theorem openExc_replace (full : s.ret.log.pool.length = 32) (closed : (s.ret.log.pool.any fun e => !e.isOpen) = true) :
    s.openExc g y limit v =
      (((s.setActiveType g y true).setMarker true).setLogRet
        (LogRetained.create { s.ret.log.remove (fun e => !e.isOpen) with overflow := true } g y (secondStamp s.clock) limit
          v)).sendAll (attention s .excursionOverflow none ++ attention s .excursionOpened (some g)) := by
  have large : ¬s.ret.log.pool.length < poolSize := by rw [full]; decide
  unfold State.openExc
  refine (if_neg large).trans ((if_pos closed).trans ?_)
  rw [State.createEntry, State.overflow, attend_eq_sendAll, attend_eq_sendAll, ← State.sendAll_sendAll]
  rfl

/-- The same when all 32 entries are OPEN (R144). -/
theorem openExc_full (full : s.ret.log.pool.length = 32) (opens : (s.ret.log.pool.any fun e => !e.isOpen) = false) :
    s.openExc g y limit v =
      (((s.setActiveType g y true).setMarker true).setLogRet { s.ret.log with overflow := true }).sendAll
        (attention s .excursionOverflow none) := by
  have large : ¬s.ret.log.pool.length < poolSize := by rw [full]; decide
  unfold State.openExc
  refine (if_neg large).trans ((if_neg (by simp [opens])).trans ?_)
  rw [State.overflow, attend_eq_sendAll]
  rfl

end

/-- What a value makes of the log (R142). -/
theorem valueExc_eq (s : State) (g : Gallery) (y : ExcType) (v : Nat) :
    s.valueExc g y v = s.setLogRet { s.ret.log with
      pool := s.ret.log.pool.map fun e =>
        if decide (e.g = g) && decide (e.type = y) && e.closed == none then
          { e with extreme := recorded (if decide (y = .doseShort) || decide (y = .rhLow) || decide (y = .tLow) then
            min e.extreme v else max e.extreme v) }
        else e } := by
  unfold State.valueExc
  have same : ∀ p, s.ret.log.pool.map (fun e => if isOpenOf g y e then e.follow v else e) = p →
      s.setLogRet { s.ret.log with pool := s.ret.log.pool.map fun e => if isOpenOf g y e then e.follow v else e } =
        s.setLogRet { s.ret.log with pool := p } := fun p eq => eq ▸ rfl
  refine same _ (List.map_congr_left fun e _ => ?_)
  rw [isOpenOf_eq, ← keepsSmallest_eq]
  refine ite_congr rfl (fun stands => ?_) fun _ => rfl
  have same : e.type = y := by simp at stands; exact stands.1.2
  exact follow_eq same v

/-- What a closing of an active type makes of the log (R143). -/
theorem closeExc_eq {s : State} (good : LogGood s.ret.log) (g : Gallery) (y : ExcType) (st : SecondStamp) (tell : Bool) :
    s.closeExc g y st tell =
      ((s.setActiveType g y false).setLogRet { s.ret.log with
        pool := (s.ret.log.pool.filter fun e => !(isOpenOf g y e && e.acked)).map fun e =>
          if isOpenOf g y e then { e with closed := some st } else e }).sendAll
        (if s.ret.log.pool.any (isOpenOf g y) && tell then attention s .excursionClosed (some g) else []) := by
  have found : (s.ret.log.openEntry g y).isSome = s.ret.log.pool.any (isOpenOf g y) := by
    rw [LogRetained.openEntry, List.isSome_find?]
  unfold State.closeExc
  rw [found, good.closeEntry_eq]
  dsimp only
  split
  · rw [attend_eq_sendAll]
    rfl
  · rw [State.sendAll_nil]

section
variable {s : State} (ready : Ready s .log) (g : Gallery) (y : ExcType)

include ready in
/-- A closing at the log (R143, R145). -/
theorem exec_closeNotice (good : LogGood s.ret.log) :
    exec (.closeNotice g y) s = .next (
      if s.isActive g y then
        after s (.closeNotice g y)
          ((s.setActiveType g y false).setLogRet { s.ret.log with
            pool := (s.ret.log.pool.filter fun e => !(isOpenOf g y e && e.acked)).map fun e =>
              if isOpenOf g y e then { e with closed := some (secondStamp s.clock) } else e })
          (if s.ret.log.pool.any (isOpenOf g y) then attention s .excursionClosed (some g) else [])
      else after s (.closeNotice g y) s []) := by
  show execCloseNotice g y s = _
  unfold execCloseNotice
  split
  next active =>
    refine deliver_sends ready ?_
    refine (if_pos active).trans ?_
    refine (closeExc_eq (s := s.take (.closeNotice g y)) good g y _ _).trans ?_
    rw [Bool.and_true]
    rfl
  next idle => exact deliver_silent ready (if_neg idle)

include ready in
/-- A value at the log (R142, R145). -/
theorem exec_valueNotice (v : Nat) :
    exec (.valueNotice g y v) s =
      .next (after s (.valueNotice g y v) (if s.isActive g y then s.valueExc g y v else s) []) := by
  show execValueNotice g y v s = _
  unfold execValueNotice
  refine deliver_silent ready ?_ (by split <;> rfl)
  show (if s.isActive g y then _ else _) = _
  split <;> rfl

include ready in
/-- An opening of an active type (R142, R145). -/
theorem exec_openNotice_active (limit v : Nat) (active : s.isActive g y = true) :
    exec (.openNotice g y limit v) s = .next (after s (.openNotice g y limit v) (s.valueExc g y v) []) := by
  show execOpenNotice g y limit v s = _
  unfold execOpenNotice
  exact deliver_silent ready (if_pos active)

include ready in
/-- An opening of an inactive type, in a pool with room (R141). -/
theorem exec_openNotice_room (limit v : Nat) (idle : s.isActive g y = false) (room : s.ret.log.pool.length < 32) :
    exec (.openNotice g y limit v) s = .next (after s (.openNotice g y limit v)
      ((s.setActiveType g y true).setLogRet (s.ret.log.create g y (secondStamp s.clock) limit v))
      (attention s .excursionOpened (some g))) := by
  show execOpenNotice g y limit v s = _
  unfold execOpenNotice
  refine deliver_sends ready ((if_neg (by simp [idle])).trans ?_)
  exact openExc_room (s := s.take (.openNotice g y limit v)) room

include ready in
/-- The same in a full pool, with a CLOSED entry to give way (R144). -/
theorem exec_openNotice_replace (limit v : Nat) (idle : s.isActive g y = false) (full : s.ret.log.pool.length = 32)
    (closed : (s.ret.log.pool.any fun e => !e.isOpen) = true) :
    exec (.openNotice g y limit v) s = .next (after s (.openNotice g y limit v)
      (((s.setActiveType g y true).setMarker true).setLogRet
        (LogRetained.create { s.ret.log.remove (fun e => !e.isOpen) with overflow := true } g y (secondStamp s.clock) limit v))
      (attention s .excursionOverflow none ++ attention s .excursionOpened (some g))) := by
  show execOpenNotice g y limit v s = _
  unfold execOpenNotice
  refine deliver_sends ready ((if_neg (by simp [idle])).trans ?_)
  exact openExc_replace (s := s.take (.openNotice g y limit v)) full closed

include ready in
/-- The same when all 32 entries are OPEN (R144). -/
theorem exec_openNotice_full (limit v : Nat) (idle : s.isActive g y = false) (full : s.ret.log.pool.length = 32)
    (opens : (s.ret.log.pool.any fun e => !e.isOpen) = false) :
    exec (.openNotice g y limit v) s = .next (after s (.openNotice g y limit v)
      (((s.setActiveType g y true).setMarker true).setLogRet { s.ret.log with overflow := true })
      (attention s .excursionOverflow none)) := by
  show execOpenNotice g y limit v s = _
  unfold execOpenNotice
  refine deliver_sends ready ((if_neg (by simp [idle])).trans ?_)
  exact openExc_full (s := s.take (.openNotice g y limit v)) full opens

end

/-- Settles O47: the three notices by whether the type is active, an opening by the room in the pool. -/
theorem logNoticesTaken : Obligations.LogNoticesTaken := by
  intro g y limit v s ready inv l stamp mine smallest kept followed created oi active
  have good := (inv.run ready).good
  have mine_eq : isOpenOf g y = mine := funext (isOpenOf_eq g y)
  refine ⟨fun on => ?_, fun off => ?_, ?_, ?_⟩
  · exact (exec_openNotice_active ready g y limit v on).trans (by rw [valueExc_eq]; rfl)
  · by_cases room : l.pool.length < 32
    · refine ⟨_, exec_openNotice_room ready g y limit v off room, rfl, fun _ => ⟨?_, rfl, rfl⟩, fun full => ?_, fun full => ?_⟩
      · exact good.create_eq g y stamp limit v
      · omega
      · omega
    have full : l.pool.length = 32 := by
      have size : l.pool.length ≤ 32 := good.size
      omega
    have someClosed := any_closed_iff l.pool
    cases any : l.pool.any fun e => !e.isOpen
    · have none : ∀ e ∈ l.pool, e.closed = none := by simpa [any] using someClosed
      refine ⟨_, exec_openNotice_full ready g y limit v off full any, rfl, fun room => ?_, fun _ closed => ?_, fun _ _ => ⟨rfl, rfl, rfl⟩⟩
      · omega
      · obtain ⟨e, mem, shut⟩ := closed
        exact absurd (none e mem) shut
    · obtain ⟨d, mem, shut⟩ := someClosed.1 any
      refine ⟨_, exec_openNotice_replace ready g y limit v off full any, rfl, fun room => ?_, fun _ _ => ⟨?_, rfl, ?_⟩,
        fun _ opens => absurd (opens d mem) shut⟩
      · omega
      · rw [← not_isOpen_eq]
        exact (good.sub (List.eraseP_sublist (p := fun e => !e.isOpen)) true).create_eq g y stamp limit v
      · exact (List.append_assoc _ _ _).symm
  · rw [exec_valueNotice ready, valueExc_eq]
    rfl
  · show exec (.closeNotice g y) s = _
    rw [exec_closeNotice ready g y good, mine_eq]
    rfl

/-! ## Acknowledgement -/

section
variable {l : LogRetained} (good : LogGood l) {g : Gallery} {n : Nat} {e : Entry} (found : l.pool.find? (isEntry g n) = some e)
include good found

/-- Where an entry of an id and a gallery is found, the id alone tells it (R139). -/
theorem LogGood.isEntry_eq {d : Entry} (mem : d ∈ l.pool) : isEntry g n d = decide (d.id = n) := by
  have held := List.find?_some found
  rw [isEntry, Bool.and_eq_true, decide_eq_true_eq, decide_eq_true_eq] at held
  obtain ⟨hg, hn⟩ := held
  by_cases same : d.id = n
  · have : d = e := good.eq_of_id mem (List.mem_of_find?_eq_some found) (same.trans hn.symm)
    simp [isEntry, this, hg]
  · simp [isEntry, same]

/-- The removal of an acknowledged CLOSED entry (R146). -/
theorem LogGood.remove_entry : l.remove (isEntry g n) = { l with pool := l.pool.filter fun d => d.id ≠ n } := by
  have one : l.pool.Pairwise fun a b => ¬(isEntry g n a = true ∧ isEntry g n b = true) := by
    refine (List.pairwise_map.1 good.ids).imp fun {a b} apart => ?_
    rintro ⟨ha, hb⟩
    simp only [isEntry, Bool.and_eq_true, decide_eq_true_eq] at ha hb
    exact apart (ha.2.trans hb.2.symm)
  have kept : (l.pool.filter fun d => !isEntry g n d) = l.pool.filter fun d => d.id ≠ n :=
    List.filter_congr fun d mem => by simp [good.isEntry_eq found mem]
  rw [LogRetained.remove, eraseP_eq_filter one, kept]

/-- The mark on an acknowledged OPEN entry (R146). -/
theorem LogGood.mark_entry : (l.pool.map fun d => if isEntry g n d then { d with acked := true } else d) =
    l.pool.map fun d => if d.id = n then { d with acked := true } else d :=
  List.map_congr_left fun d mem => by simp [good.isEntry_eq found mem]

end

theorem closed_ne_none_iff (e : Entry) : (!e.isOpen) = (e.closed != none) := by
  cases h : e.closed <;> simp [Entry.isOpen, h]

/-- What ACK EXCURSION with sub-argument 0 makes of the log and answers (R146). -/
def ackedOne (g : Gallery) (n : Nat) (s : State) : Taken :=
  if 255 < n then (s, .range, 0)
  else
    match s.ret.log.pool.find? fun e => e.g = g && e.id = n with
    | none => (s, .notFound, 0)
    | some e =>
      if e.closed ≠ none then (s.setLogRet { s.ret.log with pool := s.ret.log.pool.filter fun d => d.id ≠ n }, .ok, 1)
      else if e.acked then (s, .duplicate, 0)
      else
        (s.setLogRet { s.ret.log with pool := s.ret.log.pool.map fun d => if d.id = n then { d with acked := true } else d },
          .ok, 0)

theorem ackedOne_inFlight (g : Gallery) (n : Nat) (s : State) : (ackedOne g n s).1.inFlight = s.inFlight := by
  unfold ackedOne
  split
  · rfl
  split
  · rfl
  · split
    · rfl
    split <;> rfl

theorem ackedOne_take (g : Gallery) (n : Nat) (s : State) (c : Instr) :
    ackedOne g n (s.take c) = ((ackedOne g n s).1.take c, (ackedOne g n s).2) := by
  unfold ackedOne
  show (if 255 < n then _ else _) = _
  split
  · rfl
  show (match s.ret.log.pool.find? fun e => e.g = g && e.id = n with | none => _ | some e => _) = _
  split
  · rfl
  · split
    · rfl
    split <;> rfl

/-- ACK EXCURSION of one entry (R146). -/
theorem exec_ackExcursionOne {q : Req} {s : State} (ready : Ready s .log) (good : LogGood s.ret.log)
    (permitted : conservationOnly q.port = true) :
    exec (.ackExcursionOne q) s = .next (
      match galleryOf q.gallery.toNat with
      | none => after s (.ackExcursionOne q) s (reply q 0x20 .range 0)
      | some g =>
        let r := ackedOne g q.value.toNat s
        after s (.ackExcursionOne q) r.1 (reply q 0x20 r.2.1 r.2.2)) := by
  show execAckExcursionOne q s = _
  unfold execAckExcursionOne
  cases sel : galleryOf q.gallery.toNat with
  | none =>
    refine request_answers ready permitted rfl ?_
    unfold gallerySel
    rw [sel]
    dsimp only
    split
    next wrong =>
      split at wrong <;> cases wrong
    next => rfl
  | some g =>
    refine request_answers ready permitted (ackedOne_inFlight g q.value.toNat s) ?_
    refine Eq.trans ?_ (ackedOne_take g q.value.toNat s _)
    have one : gallerySel q.gallery = .one g := by rw [gallerySel, sel]
    rw [one]
    dsimp only [ackedOne]
    refine ite_congr rfl (fun _ => rfl) fun _ => ?_
    cases found : (s.take (.ackExcursionOne q)).ret.log.pool.find? (isEntry g q.value.toNat) with
    | none =>
      have found' : ((s.take (.ackExcursionOne q)).ret.log.pool.find? fun e => e.g = g && e.id = q.value.toNat) = none := found
      rw [found']
      rfl
    | some e =>
      have found' : ((s.take (.ackExcursionOne q)).ret.log.pool.find? fun e => e.g = g && e.id = q.value.toNat) = some e :=
        found
      rw [found']
      dsimp only
      have sound : LogGood (s.take (.ackExcursionOne q)).ret.log := good
      rw [closed_ne_none_iff, sound.remove_entry found, sound.mark_entry found]
      simp only [bne_iff_ne]

/-- ACK EXCURSION of every CLOSED entry (R147). -/
theorem exec_ackExcursionAllClosed {q : Req} {s : State} (ready : Ready s .log) (permitted : conservationOnly q.port = true) :
    exec (.ackExcursionAllClosed q) s = .next (
      if q.gallery = 6 then after s (.ackExcursionAllClosed q) s (reply q 0x20 .range 0)
      else
        after s (.ackExcursionAllClosed q)
          (s.setLogRet { s.ret.log with pool := s.ret.log.pool.filter fun e => !closedOf (addresses q.gallery) e })
          (reply q 0x20 .ok (s.ret.log.pool.filter (closedOf (addresses q.gallery))).length)) := by
  show execAckExcursionAllClosed q s = _
  unfold execAckExcursionAllClosed
  obtain ⟨g, sel, num⟩ | ⟨sel, num⟩ | ⟨sel, six⟩ := gallerySel_cases q.gallery
  · have some_ : q.gallery ≠ 6 := by
      have := galleryNum_lt g
      bv_omega
    have named : addresses q.gallery = fun h => decide (h = g) := funext (addresses_one num)
    rw [if_neg some_, sel, named]
    exact request_answers ready permitted rfl rfl
  · have named : addresses q.gallery = fun _ => true := funext (addresses_all num)
    rw [if_neg (by bv_omega), sel, named]
    exact request_answers ready permitted rfl rfl
  · rw [if_pos six, sel]
    exact request_answers ready permitted rfl rfl

/-- Settles O48: the entry is found by gallery and id, and its id alone tells it from the others; the CLOSED ones leave at
once. -/
theorem excursionsAcknowledged : Obligations.ExcursionsAcknowledged := by
  intro q s ready inv port
  have permitted : conservationOnly q.port = true := by rw [port]; rfl
  refine ⟨?_, ?_⟩
  · rw [exec_ackExcursionOne ready (inv.run ready).good permitted]
    refine congrArg _ ?_
    cases galleryOf q.gallery.toNat with
    | none => rfl
    | some g =>
      dsimp only [ackedOne]
      split
      · rfl
      cases s.ret.log.pool.find? fun e => decide (e.g = g) && decide (e.id = q.value.toNat) with
      | none => rfl
      | some e =>
        dsimp only
        split
        · rfl
        split <;> rfl
  · have same : closedOf (addresses q.gallery) = fun e => addresses q.gallery e.g && e.closed != none := by
      funext e
      rw [closedOf, closed_ne_none_iff]
    rw [exec_ackExcursionAllClosed ready permitted, same]

/-! ## The invariant -/

theorem isActive_setActiveType (s : State) (g h : Gallery) (y z : ExcType) (v : Bool) :
    (s.setActiveType g y v).isActive h z = if h = g ∧ z = y then v else s.isActive h z := by
  show ((s.log.active.set g ((s.log.active.get g).set y v)).get h).get z = _
  rw [PerGallery.get_set]
  by_cases hg : h = g
  · rw [if_pos hg, PerType.get_set, hg]
    by_cases hz : z = y <;> simp [hz, State.isActive]
  · rw [if_neg hg, if_neg fun both => hg both.1]
    rfl

theorem LogRun.congr {s t : State} (h : LogRun s) (log : t.ret.log = s.ret.log) (active : t.log.active = s.log.active) :
    LogRun t := by
  refine ⟨log ▸ h.good, fun e mem stands => ?_⟩
  rw [State.isActive, active]
  exact h.active e (log ▸ mem) stands

/-- Written entries need only be in order, with no OPEN entry of a type that had none. -/
theorem LogRun.written {s : State} (h : LogRun s) {l : LogRetained} (good : LogGood l)
    (known : ∀ e ∈ l.pool, e.isOpen = true → ∃ d ∈ s.ret.log.pool, d.isOpen = true ∧ d.g = e.g ∧ d.type = e.type) :
    LogRun (s.setLogRet l) := by
  refine ⟨good, fun e mem stands => ?_⟩
  obtain ⟨d, was, stood, hg, hy⟩ := known e mem stands
  have := h.active d was stood
  rwa [hg, hy] at this

/-- A rewriting of entries in place that closes none of them but may close some keeps the log in order. -/
theorem LogRun.mapped {s : State} (h : LogRun s) (f : Entry → Entry)
    (key : ∀ e, (f e).id = e.id ∧ (f e).g = e.g ∧ (f e).type = e.type ∧ (f e).isOpen = e.isOpen)
    (extreme : ∀ e, e.extreme ≤ 65535 → (f e).extreme ≤ 65535)
    (acked : ∀ e ∈ s.ret.log.pool, (f e).isOpen = false → (f e).acked = false) :
    LogRun (s.setLogRet { s.ret.log with pool := s.ret.log.pool.map f }) := by
  refine h.written (h.good.mapped f (fun e => ?_) (fun e stands => ?_) extreme acked) fun d mem stands => ?_
  · obtain ⟨id, g, y, -⟩ := key e
    exact ⟨id, g, y⟩
  · obtain ⟨-, -, -, same⟩ := key e
    rwa [same] at stands
  · obtain ⟨e, was, rfl⟩ := List.mem_map.1 mem
    obtain ⟨-, g, y, same⟩ := key e
    exact ⟨e, was, same ▸ stands, g.symm, y.symm⟩

/-- A removal of entries keeps the log in order. -/
theorem LogRun.sub {s : State} (h : LogRun s) {p : List Entry} (sub : p.Sublist s.ret.log.pool) :
    LogRun (s.setLogRet { s.ret.log with pool := p }) :=
  h.written (h.good.sub sub _) fun e mem stands => ⟨e, sub.subset mem, stands, rfl, rfl⟩

/-- A value keeps the log in order (R142). -/
theorem LogRun.valueExc {s : State} (h : LogRun s) (g : Gallery) (y : ExcType) (v : Nat) : LogRun (s.valueExc g y v) := by
  refine h.mapped (fun e => if isOpenOf g y e then e.follow v else e) (fun e => ?_) (fun e le => ?_) fun e mem => ?_
  · split <;> exact ⟨rfl, rfl, rfl, rfl⟩
  · split
    · exact recorded_le _
    · exact le
  · split <;> exact h.good.acked e mem

/-- A type that becomes active keeps the log in order, with an entry of its own or without. -/
theorem LogRun.opened {s : State} (h : LogRun s) {l : LogRetained} (good : LogGood l) {g : Gallery} {y : ExcType}
    (known : ∀ e ∈ l.pool, e.isOpen = true → e ∈ s.ret.log.pool ∨ (e.g = g ∧ e.type = y)) :
    LogRun ((s.setActiveType g y true).setLogRet l) := by
  refine ⟨good, fun e mem stands => ?_⟩
  refine (isActive_setActiveType s g e.g y e.type true).trans ?_
  split
  · rfl
  next other => exact h.active e ((known e mem stands).resolve_right other) stands

theorem mem_create {l : LogRetained} {g : Gallery} {y : ExcType} {st : SecondStamp} {limit v : Nat} {e : Entry}
    (mem : e ∈ (l.create g y st limit v).pool) : e ∈ l.pool ∨ (e.g = g ∧ e.type = y) := by
  obtain was | new := List.mem_append.1 mem
  · exact .inl was
  · rw [List.mem_singleton.1 new]
    exact .inr ⟨rfl, rfl⟩

/-- An opening of an inactive type keeps the log in order (R141, R144). -/
theorem LogRun.openExc {s : State} (h : LogRun s) {g : Gallery} {y : ExcType} (off : s.isActive g y = false) (limit v : Nat) :
    LogRun (s.openExc g y limit v) := by
  by_cases room : s.ret.log.pool.length < 32
  · rw [openExc_room room]
    exact (h.opened (h.good.create room (h.none_open off) _ _ _) fun e mem _ => mem_create mem).congr rfl rfl
  have full : s.ret.log.pool.length = 32 := by
    have := h.good.size
    omega
  cases closed : s.ret.log.pool.any fun e => !e.isOpen
  · rw [openExc_full full closed]
    exact (h.opened (h.good.sub (List.Sublist.refl _) true) fun e mem _ => .inl mem).congr rfl rfl
  · rw [openExc_replace full closed]
    have sub := List.eraseP_sublist (p := fun e : Entry => !e.isOpen) (l := s.ret.log.pool)
    have good := h.good.sub sub true
    have shorter : (s.ret.log.pool.eraseP fun e => !e.isOpen).length < 32 := by
      obtain ⟨d, mem, shut⟩ := List.any_eq_true.1 closed
      have := List.length_eraseP_of_mem (p := fun e => !e.isOpen) mem shut
      omega
    have kept := good.create shorter (fun e mem => h.none_open off e (sub.subset mem)) (secondStamp s.clock) limit v
    refine (h.opened kept fun e mem _ => ?_).congr rfl rfl
    exact (mem_create mem).imp_left fun was => sub.subset was

/-- A closing keeps the log in order (R143). -/
theorem LogRun.closeExc {s : State} (h : LogRun s) (g : Gallery) (y : ExcType) (st : SecondStamp) (tell : Bool) :
    LogRun (s.closeExc g y st tell) := by
  have kept : LogRun ((s.setActiveType g y false).setLogRet (s.ret.log.closeEntry g y st)) := by
    refine ⟨h.good.closeEntry g y st, fun e mem stands => ?_⟩
    obtain ⟨was, other⟩ := h.good.open_closeEntry mem stands
    refine (isActive_setActiveType s g e.g y e.type false).trans ?_
    rw [if_neg fun same => ?_]
    · exact h.active e was stands
    · rw [(isOpenOf_iff g y e).2 ⟨same.1, same.2, stands⟩] at other
      cases other
  unfold State.closeExc
  dsimp only
  split
  · rw [attend_eq_sendAll]
    exact kept.congr rfl rfl
  · exact kept

theorem logInv_own (s : State) : LogInv s ↔ LogInv (s.own .log) := by
  unfold LogInv
  rw [ready_own]
  rfl

/-- What the log does with a command keeps it in order. -/
theorem logInv_taken {c : Instr} {s t : State} (hb : blockOf c = some .log) (hs : LogInv s) (h : exec c s = .next t) :
    LogInv t := by
  cases c <;> cases hb <;> dsimp only [exec] at h
  case openNotice.refl g y limit v =>
    refine deliver_keeps logInv_own hs (fun s ready hs => ?_) h
    cases active : s.isActive g y
    · exact ((hs.run ready).openExc active limit v).inv
    · exact ((hs.run ready).valueExc g y v).inv
  case valueNotice.refl g y v =>
    refine deliver_keeps logInv_own hs (fun s ready hs => ?_) h
    split
    · exact ((hs.run ready).valueExc g y v).inv
    · exact hs
  case closeNotice.refl g y =>
    refine deliver_keeps logInv_own hs (fun s ready hs => ?_) h
    split
    · exact ((hs.run ready).closeExc g y _ true).inv
    · exact hs
  case ackExcursionOne.refl q =>
    refine request_keeps logInv_own hs (fun s ready hs => ?_) h
    split
    next g _ =>
      dsimp only
      split
      · exact hs
      split
      · exact hs
      next e found =>
        split
        · exact ((hs.run ready).sub List.eraseP_sublist).inv
        next stands =>
          split
          · exact hs
          · refine ((hs.run ready).mapped (fun e => if isEntry g q.value.toNat e then { e with acked := true } else e)
              (fun e => ?_) (fun e => ?_) fun d mem => ?_).inv
            · split <;> exact ⟨rfl, rfl, rfl, rfl⟩
            · split <;> exact id
            · split
              next same =>
                intro shut
                have good := (hs.run ready).good
                have id (b : Entry) (at_ : b ∈ s.ret.log.pool) (is : isEntry g q.value.toNat b = true) :
                    b.id = q.value.toNat := by simpa [good.isEntry_eq found at_] using is
                have held := List.mem_of_find?_eq_some found
                obtain rfl : d = e := good.eq_of_id mem held ((id d mem same).trans (id e held (List.find?_some found)).symm)
                rw [Bool.not_eq_true', Bool.not_eq_false] at stands
                exact absurd (stands.symm.trans shut) nofun
              next => exact (hs.run ready).good.acked d mem
    next => exact hs
  case ackExcursionAllClosed.refl q =>
    refine request_keeps logInv_own hs (fun s ready hs => ?_) h
    split
    · exact hs
    · exact ((hs.run ready).sub List.filter_sublist).inv
    · exact ((hs.run ready).sub List.filter_sublist).inv

theorem log_started (s : State) (b : Block) :
    (s.started b).ret.log = s.ret.log ∧ (s.started b).log.active = s.log.active := by
  unfold State.started
  dsimp only
  split <;> exact ⟨rfl, rfl⟩

theorem log_starting (s : State) (b : Block) : (s.starting b).ret.log = s.ret.log := by
  unfold State.starting
  split <;> rfl

theorem logGood_cold : LogGood Retained.cold.log :=
  ⟨by decide, by decide, nofun, List.nodup_nil, List.Pairwise.nil, nofun⟩

/-- A start puts the log in order: a warm one finds each type active that has an OPEN entry (R150, R151). -/
theorem logRun_startLog {s : State} (good : LogGood s.ret.log) (i : StartInfo) : LogRun (s.startLog i) := by
  unfold State.startLog
  cases i.kind with
  | cold => exact ⟨logGood_cold, nofun⟩
  | warm =>
    refine forGalleries_keeps (P := LogRun) (fun g s hs => ?_) ⟨good, fun e mem stands => ?_⟩
    · unfold State.reevalFault
      split
      · exact hs.closeExc g .sensorFault _ false
      · exact hs
    · show ((PerGallery.ofFn fun g => PerType.ofFn (s.openAtStart g)).get e.g).get e.type = true
      rw [PerGallery.get_ofFn, PerType.get_ofFn]
      exact List.any_eq_true.2 ⟨e, mem, (isOpenOf_iff _ _ e).2 ⟨rfl, rfl, stands⟩⟩

/-- Settles O9: each notice, acknowledgement and start keeps the pool in order, and no other block touches it. -/
theorem logKept : Obligations.LogKept := by
  intro s t hs h
  refine step_keeps_own (o := .log) (by simp) (by simp) logInv_own (fun hb _ hs h => logInv_taken hb hs h)
    (fun e => by cases e) (fun e => by cases e) (fun e => by cases e) (fun {s} b i e running hs => ?starts)
    (fun last off hs => ?_) (fun off hs => ?_) (fun hs => ?_) (fun hs => ?_) hs h
  case starts =>
    have same : b = .log := by cases b <;> simp_all [startOwner]
    subst same
    have good : LogGood (s.starting .log).ret.log := by
      rw [log_starting]
      exact ((logInv_iff s).1 hs).1
    obtain ⟨ret, active⟩ := log_started ((s.starting .log).startBlock .log i) .log
    exact ((logRun_startLog good i).congr ret active).inv
  · exact (logInv_iff _).2 ⟨((logInv_iff _).1 hs).1, fun ready => absurd ready (not_ready_beginStart _ _ _ _)⟩
  · exact (logInv_iff _).2 ⟨logGood_cold, fun ready => absurd ready (not_ready_beginStart _ _ _ _)⟩
  · exact (logInv_iff _).2 ⟨((logInv_iff _).1 hs).1, fun ready => nomatch ready.1⟩
  · exact (logInv_iff _).2 ⟨((logInv_iff _).1 hs).1, fun ready => nomatch ready.1⟩

end Sys2Proof.Machine
end

section
/-! SUPPORT. The channels of the acquisition unit: what entering a state does to the record, the flags, the count of faulted
channels and the notices, and the statements about sample arrivals and CALIBRATE (O18 to O21, O28). -/

namespace Sys2Proof.Machine
open Sys2Proof

/-! ## One channel's records written again -/

theorem setChan_getChan {α : Type} (t : PerChan α) (c : Chan) : setChan t c (getChan t c) = t := by
  obtain ⟨g, k⟩ := c
  cases g <;> cases k <;> rfl

theorem State.setChan_self (s : State) (c : Chan) : s.setChan c (s.chan c) = s := by
  show { s with acq := { s.acq with chans := Machine.setChan s.acq.chans c (getChan s.acq.chans c) } } = s
  rw [setChan_getChan]

theorem State.setCheckFault_self (s : State) (c : Chan) : s.setCheckFault c (s.checkFault c) = s := by
  show { s with ret := { s.ret with checkFault := Machine.setChan s.ret.checkFault c (getChan s.ret.checkFault c) } } = s
  rw [setChan_getChan]

theorem State.setFaulted_self (s : State) (g : Gallery) : s.setFaulted g (s.acq.faulted.get g) = s := by
  show { s with acq := { s.acq with faulted := s.acq.faulted.set g (s.acq.faulted.get g) } } = s
  rw [PerGallery.set_get_self]

/-! ## The count of faulted channels -/

theorem countFaulted_set (t : PerKind ChanRec) (k : Kind) (r : ChanRec) :
    countFaulted (t.set k r) + (isFaulted (t.get k)).toNat = countFaulted t + (isFaulted r).toNat := by
  cases k <;> simp only [countFaulted, PerKind.set, PerKind.get] <;> omega

/-- The gallery's faulted count is right (R10). -/
def Counted (s : State) (g : Gallery) : Prop := s.acq.faulted.get g = countFaulted (s.acq.chans.get g)

theorem chans_get_setChan {α : Type} (t : PerChan α) (c : Chan) (a : α) :
    (setChan t c a).get c.g = (t.get c.g).set c.k a := PerGallery.get_set_self _ _ _

/-- The notices about a gallery's faulted channels when their count goes from one number to another (R10). -/
def countNews (g : Gallery) (old new : Nat) : List Instr :=
  if old = 0 ∧ 0 < new then [.openNotice g .sensorFault 0 new]
  else if old < new then [.valueNotice g .sensorFault new]
  else if 0 < old ∧ new = 0 then [.closeNotice g .sensorFault]
  else []

theorem recountFaulted_eq (s : State) (g : Gallery) :
    s.recountFaulted g = (s.setFaulted g (countFaulted (s.acq.chans.get g))).sendAll
      (countNews g (s.acq.faulted.get g) (countFaulted (s.acq.chans.get g))) := by
  unfold State.recountFaulted countNews
  dsimp only
  split
  · rfl
  split
  · rfl
  split
  · rfl
  · exact (State.sendAll_nil _).symm

/-- What entering a state does, in terms of the new count of faulted channels (R4, R9, R10). -/
theorem enterState_eq (s : State) (c : Chan) (r : ChanRec) (recovery uninit : Bool) :
    s.enterState c r recovery uninit =
      (((s.setChan c r).setCheckFault c (checkFaultAfter r.state (s.checkFault c))).setFaulted c.g
        (countFaulted ((s.acq.chans.get c.g).set c.k r))).sendAll
          (stateNotices ⟨c, (s.chan c).state, r.state, recovery, uninit⟩ ++
            countNews c.g (s.acq.faulted.get c.g) (countFaulted ((s.acq.chans.get c.g).set c.k r))) := by
  have count := chans_get_setChan s.acq.chans c r
  unfold State.enterState
  dsimp only
  rw [sendStateChange_eq_sendAll, recountFaulted_eq, ← State.sendAll_sendAll]
  show ((State.setFaulted _ _ (countFaulted ((setChan s.acq.chans c r).get c.g))).sendAll
    (countNews c.g (s.acq.faulted.get c.g) (countFaulted ((setChan s.acq.chans c r).get c.g)))) = _
  rw [count]
  rfl

section
variable {s : State} {c : Chan} (counted : Counted s c.g) {r : ChanRec} (recovery uninit : Bool)
include counted

/-- A channel that stays faulted or stays sound leaves the count alone. -/
theorem enterState_same (same : isFaulted r = isFaulted (s.chan c)) :
    s.enterState c r recovery uninit =
      ((s.setChan c r).setCheckFault c (checkFaultAfter r.state (s.checkFault c))).sendAll
        (stateNotices ⟨c, (s.chan c).state, r.state, recovery, uninit⟩) := by
  have count := countFaulted_set (s.acq.chans.get c.g) c.k r
  have old : isFaulted ((s.acq.chans.get c.g).get c.k) = isFaulted r := same.symm
  rw [old, ← counted] at count
  have count : countFaulted ((s.acq.chans.get c.g).set c.k r) = s.acq.faulted.get c.g := Nat.add_right_cancel count
  have quiet (n : Nat) : countNews c.g n n = [] := by
    unfold countNews
    rw [if_neg (by omega), if_neg (by omega), if_neg (by omega)]
  rw [enterState_eq, count, quiet, List.append_nil]
  exact congrArg (State.sendAll · _)
    (State.setFaulted_self ((s.setChan c r).setCheckFault c (checkFaultAfter r.state (s.checkFault c))) c.g)

/-- A channel that becomes faulted raises the count by one. -/
theorem enterState_faults (was : isFaulted (s.chan c) = false) (is : isFaulted r = true) :
    s.enterState c r recovery uninit =
      (((s.setChan c r).setCheckFault c (checkFaultAfter r.state (s.checkFault c))).setFaulted c.g
        (s.acq.faulted.get c.g + 1)).sendAll
        (stateNotices ⟨c, (s.chan c).state, r.state, recovery, uninit⟩ ++
          [if s.acq.faulted.get c.g = 0 then .openNotice c.g .sensorFault 0 1
            else .valueNotice c.g .sensorFault (s.acq.faulted.get c.g + 1)]) := by
  have count := countFaulted_set (s.acq.chans.get c.g) c.k r
  have old : isFaulted ((s.acq.chans.get c.g).get c.k) = false := was
  rw [old, is, ← counted, Bool.toNat_false, Bool.toNat_true, Nat.add_zero] at count
  have news (n : Nat) : countNews c.g n (n + 1) =
      [if n = 0 then .openNotice c.g .sensorFault 0 1 else .valueNotice c.g .sensorFault (n + 1)] := by
    unfold countNews
    cases n with
    | zero => rfl
    | succ n => rw [if_neg (by omega), if_pos (by omega), if_neg (by omega)]
  rw [enterState_eq, count, news]

/-- A channel that is no longer faulted lowers the count by one. -/
theorem enterState_clears (was : isFaulted (s.chan c) = true) (is : isFaulted r = false) :
    s.enterState c r recovery uninit =
      (((s.setChan c r).setCheckFault c (checkFaultAfter r.state (s.checkFault c))).setFaulted c.g
        (s.acq.faulted.get c.g - 1)).sendAll
        (stateNotices ⟨c, (s.chan c).state, r.state, recovery, uninit⟩ ++
          (if s.acq.faulted.get c.g = 1 then [.closeNotice c.g .sensorFault] else [])) := by
  have count := countFaulted_set (s.acq.chans.get c.g) c.k r
  have old : isFaulted ((s.acq.chans.get c.g).get c.k) = true := was
  rw [old, is, ← counted, Bool.toNat_false, Bool.toNat_true, Nat.add_zero] at count
  have count : countFaulted ((s.acq.chans.get c.g).set c.k r) = s.acq.faulted.get c.g - 1 := by omega
  have news (n : Nat) : countNews c.g n (n - 1) = if n = 1 then [.closeNotice c.g .sensorFault] else [] := by
    unfold countNews
    rw [if_neg (by omega), if_neg (by omega)]
    exact ite_congr (propext (by omega)) (fun _ => rfl) fun _ => rfl
  rw [enterState_eq, count, news]

end

theorem ChanInv.counted {s : State} (h : ChanInv s) (g : Gallery) : Counted s g := h.2.1 g

theorem ChanInv.chan {s : State} (h : ChanInv s) (c : Chan) : ChanOk (s.chan c) := h.1 c

/-- The calibration context is on another channel when this one is not OK (R14). -/
theorem ChanInv.not_calibrating {s : State} (h : ChanInv s) {c : Chan} (other : (s.chan c).state ≠ .ok) :
    ∀ x, s.acq.cal = some x → x.chan ≠ c := by
  obtain ⟨-, -, context, -⟩ := h
  rintro x cal rfl
  exact other (context x cal).2

theorem ChanOk.saved_none {r : ChanRec} (h : ChanOk r) (other : r.state ≠ .checking) : r.saved = none := by
  obtain ⟨-, -, -, -, saved⟩ := h
  cases eq : r.saved with
  | none => rfl
  | some _ => exact absurd (saved.1 (by rw [eq]; rfl)) other

theorem ChanOk.rail_zero {r : ChanRec} (h : ChanOk r) (other : r.state ≠ .suspect) : r.railCount = 0 := by
  obtain ⟨-, -, rail, -⟩ := h
  exact rail other

theorem ChanOk.good_zero {r : ChanRec} (h : ChanOk r) (other : r.state ≠ .fault .rail) : r.goodRun = 0 := by
  obtain ⟨-, -, -, good, -⟩ := h
  exact good other

/-! ## Sample arrivals -/

theorem passOn_eq (s : State) (c : Chan) (r : Nat) :
    s.passOn c r = (s.setChan c { s.chan c with lastCorrected := some (correct (s.cfg c) c.k r) }).sendAll
      [.correctedSampleNotice c (correct (s.cfg c) c.k r)] := rfl

theorem passOn_sendAll (s : State) (l : List Instr) (c : Chan) (r : Nat) :
    (s.sendAll l).passOn c r = (s.setChan c { s.chan c with lastCorrected := some (correct (s.cfg c) c.k r) }).sendAll
      (l ++ [.correctedSampleNotice c (correct (s.cfg c) c.k r)]) := by
  rw [← State.sendAll_sendAll]
  rfl

theorem setChan_setCheckFault_comm (s : State) (c d : Chan) (b : Bool) (v : ChanRec) :
    (s.setCheckFault d b).setChan c v = (s.setChan c v).setCheckFault d b := rfl

theorem setChan_setFaulted_comm (s : State) (c : Chan) (g : Gallery) (n : Nat) (v : ChanRec) :
    (s.setFaulted g n).setChan c v = (s.setChan c v).setFaulted g n := rfl

/-- A calibration of another channel takes nothing of a sample. -/
theorem calSample_other {s : State} {c : Chan} (other : ∀ x, s.acq.cal = some x → x.chan ≠ c) (r : Nat) :
    s.calSample c r = s := by
  unfold State.calSample
  split
  · rfl
  next x cal => exact if_pos (other x cal)

/-- What the arrival of a sample that R1 does not discard comes to, by what the channel's state machine makes of it. -/
theorem arrival_eq {s t : State} {c : Chan} {r : Half} {l : List Instr} (ready : Ready s .acquisition)
    (takes : discards (s.chan c).state = false) (other : ∀ x, s.acq.cal = some x → x.chan ≠ c)
    (made : (s.take (.sampleArrival c r)).chanSample c r.toNat = (t.take (.sampleArrival c r)).sendAll l)
    (cal : t.acq.cal = s.acq.cal) (same : t.inFlight = s.inFlight) :
    arrival c r s = .next (after s (.sampleArrival c r) t l) := by
  unfold arrival
  refine deliver_sends ready ?_ same
  unfold State.arrive
  refine (if_neg (by simp [takes])).trans ?_
  rw [made]
  exact calSample_other (s := (t.take (.sampleArrival c r)).sendAll l) (fun x eq => other x (cal.symm.trans eq)) _

/-- The arrival of a sample that R1 discards. -/
theorem arrival_discarded {s : State} {c : Chan} (r : Half) (ready : Ready s .acquisition)
    (drops : discards (s.chan c).state = true) :
    arrival c r s = .next (after s (.sampleArrival c r) s []) := by
  unfold arrival
  exact deliver_silent ready (if_pos (by simpa using drops))

theorem isRail_eq_true {r : Nat} (out : r < 64 ∨ 65471 < r) : isRail r = true := by simpa [isRail] using out

/-- A corrected code, written out (R3). -/
theorem correct_eq (cfg : ChanCfg) (k : Kind) (r : Nat) :
    correct cfg k r = min (min (((max 0 (min 65535 ((r : Int) - cfg.offset))).toNat * cfg.gain + 512) / 1024) 65535)
      (match k with | .lux => 65535 | .uv => 65535 | .rh => 10000 | .temp => 12000) := by
  unfold correct offsetCode clampInt
  rw [Nat.min_comm, Nat.min_comm 65535]
  cases k <;> rfl

/-- Settles O18: an OK channel takes the good code, and the context of another channel leaves it. -/
theorem goodSampleCorrected : Obligations.GoodSampleCorrected := by
  intro c r s ready state lo hi other d top x
  have good := isRail_eq_false lo hi
  have value : correct (s.cfg c) c.k r.toNat = x := correct_eq _ _ _
  refine arrival_eq ready (by simp [discards, state]) other ?_ rfl rfl
  unfold State.chanSample
  dsimp only [State.chan_take]
  rw [state]
  simp only [good, passOn_eq]
  rw [← value]
  simp
  rfl

/-- A rail code of an OK channel (R5, R9). -/
theorem chanSample_ok_rail {s : State} (inv : ChanInv s) {c : Chan} {r : Nat} (rail : isRail r = true)
    (state : (s.chan c).state = .ok) :
    s.chanSample c r = (s.setChan c { s.chan c with lastRaw := some r, state := .suspect, railCount := 1 }).sendAll
      (stateNotices ⟨c, .ok, .suspect, false, false⟩) := by
  have ok := inv.chan c
  have good := ok.good_zero (by simp [state])
  have saved := ok.saved_none (by simp [state])
  have sound : isFaulted (s.chan c) = false := by simp [isFaulted, state]
  unfold State.chanSample
  dsimp only
  rw [state]
  dsimp only
  rw [if_pos rail, enterState_same (inv.counted c.g) _ _ (by rw [sound]; rfl)]
  rw [state]
  simp only [ChanRec.moved, checkFaultAfter, good, saved]
  exact congrArg (State.sendAll · _) (State.setCheckFault_self (s.setChan c _) c)

/-- A rail code of a SUSPECT channel, not yet the third (R5). -/
theorem chanSample_suspect_rail {s : State} {c : Chan} {r : Nat} (rail : isRail r = true)
    (state : (s.chan c).state = .suspect) (few : (s.chan c).railCount < 2) :
    s.chanSample c r = s.setChan c { s.chan c with lastRaw := some r, railCount := (s.chan c).railCount + 1 } := by
  unfold State.chanSample
  dsimp only
  rw [state]
  dsimp only
  rw [if_pos rail, if_pos (by omega)]

/-- The third rail code in a row of a SUSPECT channel (R5, R9, R10). -/
theorem chanSample_suspect_third {s : State} (inv : ChanInv s) {c : Chan} {r : Nat} (rail : isRail r = true)
    (state : (s.chan c).state = .suspect) (two : (s.chan c).railCount = 2) :
    s.chanSample c r =
      ((s.setChan c { s.chan c with lastRaw := some r, state := .fault .rail, railCount := 0 }).setFaulted c.g
        (s.acq.faulted.get c.g + 1)).sendAll
        (stateNotices ⟨c, .suspect, .fault .rail, false, false⟩ ++
          [if s.acq.faulted.get c.g = 0 then .openNotice c.g .sensorFault 0 1
            else .valueNotice c.g .sensorFault (s.acq.faulted.get c.g + 1)] ++
          attention s .channelFault (some c.g)) := by
  have ok := inv.chan c
  have good := ok.good_zero (by simp [state])
  have saved := ok.saved_none (by simp [state])
  have sound : isFaulted (s.chan c) = false := by simp [isFaulted, state]
  unfold State.chanSample
  dsimp only
  rw [state]
  dsimp only
  rw [if_pos rail, if_neg (by omega), enterState_faults (inv.counted c.g) _ _ sound rfl, attend_eq_sendAll,
    State.sendAll_sendAll]
  rw [state]
  simp only [ChanRec.moved, checkFaultAfter, good, saved]
  refine congrArg₂ State.sendAll ?_ rfl
  exact congrArg (State.setFaulted · c.g _) (State.setCheckFault_self (s.setChan c _) c)

/-- A rail code of a channel in FAULT with cause RAIL (R6). -/
theorem chanSample_fault_rail {s : State} {c : Chan} {r : Nat} (rail : isRail r = true)
    (state : (s.chan c).state = .fault .rail) :
    s.chanSample c r = s.setChan c { s.chan c with lastRaw := some r, goodRun := 0 } := by
  unfold State.chanSample
  dsimp only
  rw [state]
  exact if_pos rail

/-- A good code of a SUSPECT channel (R5, R9). -/
theorem chanSample_suspect_good {s : State} (inv : ChanInv s) {c : Chan} {r : Nat} (good : isRail r = false)
    (state : (s.chan c).state = .suspect) :
    s.chanSample c r =
      ((s.setChan c { s.chan c with
          lastRaw := some r, state := .ok, railCount := 0, lastCorrected := some (correct (s.cfg c) c.k r)
        }).setCheckFault c false).sendAll
        (stateNotices ⟨c, .suspect, .ok, false, false⟩ ++ [.correctedSampleNotice c (correct (s.cfg c) c.k r)]) := by
  have ok := inv.chan c
  have run := ok.good_zero (by simp [state])
  have saved := ok.saved_none (by simp [state])
  have sound : isFaulted (s.chan c) = false := by simp [isFaulted, state]
  unfold State.chanSample
  dsimp only
  rw [state]
  dsimp only
  rw [if_neg (by simp [good]), enterState_same (inv.counted c.g) _ _ (by rw [sound]; rfl)]
  rw [state]
  simp only [ChanRec.moved, checkFaultAfter, passOn_sendAll]
  simp [run, saved, setChan_setCheckFault_comm]

/-- A good code of a channel in FAULT with cause RAIL, not yet the eighth (R6). -/
theorem chanSample_fault_good {s : State} {c : Chan} {r : Nat} (good : isRail r = false)
    (state : (s.chan c).state = .fault .rail) (few : (s.chan c).goodRun < 7) :
    s.chanSample c r = s.setChan c { s.chan c with lastRaw := some r, goodRun := (s.chan c).goodRun + 1 } := by
  unfold State.chanSample
  dsimp only
  rw [state]
  dsimp only
  rw [if_neg (by simp [good]), if_pos (by omega)]

/-- The eighth good code in a row of a channel in FAULT with cause RAIL (R6, R9, R10). -/
theorem chanSample_fault_eighth {s : State} (inv : ChanInv s) {c : Chan} {r : Nat} (good : isRail r = false)
    (state : (s.chan c).state = .fault .rail) (seven : (s.chan c).goodRun = 7) :
    s.chanSample c r =
      (((s.setChan c { s.chan c with
          lastRaw := some r, state := .ok, goodRun := 0, lastCorrected := some (correct (s.cfg c) c.k r)
        }).setCheckFault c false).setFaulted c.g (s.acq.faulted.get c.g - 1)).sendAll
        (stateNotices ⟨c, .fault .rail, .ok, true, false⟩ ++
          (if s.acq.faulted.get c.g = 1 then [.closeNotice c.g .sensorFault] else []) ++
          [.correctedSampleNotice c (correct (s.cfg c) c.k r)]) := by
  have ok := inv.chan c
  have count := ok.rail_zero (by simp [state])
  have saved := ok.saved_none (by simp [state])
  have faulted : isFaulted (s.chan c) = true := by simp [isFaulted, state]
  unfold State.chanSample
  dsimp only
  rw [state]
  dsimp only
  rw [if_neg (by simp [good]), if_neg (by omega), enterState_clears (inv.counted c.g) _ _ faulted rfl]
  rw [state]
  simp only [ChanRec.moved, checkFaultAfter, passOn_sendAll]
  simp [count, saved, setChan_setCheckFault_comm, setChan_setFaulted_comm]

/-- Settles O19: the channel's state decides what a rail code does, and the context of another channel leaves it. -/
theorem railSampleJudged : Obligations.RailSampleJudged := by
  intro c r s ready inv out other i k n
  have rail := isRail_eq_true out
  have takenInv : ChanInv (s.take i) := inv
  refine ⟨fun ok => ?_, fun suspect few => ⟨?_, ?_⟩, fun suspect two => ⟨?_, ?_⟩, fun fault => ?_, fun dropped => ?_⟩
  · exact arrival_eq ready (by rw [ok]; rfl) other (chanSample_ok_rail takenInv rail ok) rfl rfl
  · exact arrival_eq ready (by rw [suspect]; rfl) other
      ((chanSample_suspect_rail (s := s.take i) rail suspect few).trans (State.sendAll_nil _).symm) rfl rfl
  · have early : isRailFault s c r.toNat = false := by
      simp [isRailFault, suspect, rail]
      omega
    show onlyWhen (isRailFault s c r.toNat) s _ = _
    rw [early]
    rfl
  · exact arrival_eq ready (by rw [suspect]; rfl) other (chanSample_suspect_third takenInv rail suspect two) rfl rfl
  · have third : isRailFault s c r.toNat = true := by simp [isRailFault, suspect, rail, two]
    show onlyWhen (isRailFault s c r.toNat) s _ = _
    rw [third]
    rfl
  · exact arrival_eq ready (by rw [fault]; rfl) other
      ((chanSample_fault_rail (s := s.take i) rail fault).trans (State.sendAll_nil _).symm) rfl rfl
  · refine arrival_discarded r ready ?_
    rcases dropped with state | state | state <;> rw [state] <;> rfl

/-- Settles O20: the code restores the channel first and is then passed on. -/
theorem goodSampleRestores : Obligations.GoodSampleRestores := by
  intro c r s ready inv lo hi i x k n
  have good := isRail_eq_false lo hi
  have takenInv : ChanInv (s.take i) := inv
  refine ⟨fun suspect => ?_, fun fault few => ⟨?_, ?_⟩, fun fault seven => ⟨?_, ?_⟩⟩
  · exact arrival_eq ready (by rw [suspect]; rfl) (inv.not_calibrating (by simp [suspect]))
      (chanSample_suspect_good takenInv good suspect) rfl rfl
  · exact arrival_eq ready (by rw [fault]; rfl) (inv.not_calibrating (by simp [fault]))
      ((chanSample_fault_good (s := s.take i) good fault few).trans (State.sendAll_nil _).symm) rfl rfl
  · have early : isRailRecovery s c r.toNat = false := by
      simp [isRailRecovery, fault, good]
      omega
    show onlyWhen (isRailRecovery s c r.toNat) s _ = _
    rw [early]
    rfl
  · exact arrival_eq ready (by rw [fault]; rfl) (inv.not_calibrating (by simp [fault]))
      (chanSample_fault_eighth takenInv good fault seven) rfl rfl
  · have eighth : isRailRecovery s c r.toNat = true := by simp [isRailRecovery, fault, good, seven]
    show onlyWhen (isRailRecovery s c r.toNat) s _ = _
    rw [eighth]
    rfl

/-! ## The channel under calibration -/

theorem sampled_eq (s : State) (c : Chan) (r : Nat) :
    s.sampled c r = (s.setChan c { s.chan c with
      lastRaw := some r, lastCorrected := some (correct (s.cfg c) c.k r) }).sendAll
        [.correctedSampleNotice c (correct (s.cfg c) c.k r)] := rfl

/-- A good sample before the sixteenth adds to the sum (R15). -/
theorem calSample_adds {s : State} {x : CalContext} {r : Nat} (cal : s.acq.cal = some x) (few : x.count < 15)
    (good : isRail r = false) :
    s.calSample x.chan r = s.setCal (some { x with
      count := x.count + 1, sum := x.sum + (if x.op = .zero then r else offsetCode (s.cfg x.chan) r) }) := by
  unfold State.calSample
  rw [cal]
  dsimp only
  rw [if_neg (not_not.2 rfl), if_neg (by simp [good]), if_pos (by omega)]
  cases x.op <;> rfl

/-- A rail code ends the calibration of its channel (R15, R18). -/
theorem calSample_rail {s : State} {x : CalContext} {r : Nat} (cal : s.acq.cal = some x) (rail : isRail r = true) :
    s.calSample x.chan r = s.endCal x.chan .aborted none := by
  unfold State.calSample
  rw [cal]
  dsimp only
  rw [if_neg (not_not.2 rfl), if_pos rail]

theorem cal_endCal (s : State) (c : Chan) (res : CalResult) (new : Option Int) : (s.endCal c res new).acq.cal = none := by
  rw [endCal_eq]
  rfl

/-- The sixteenth good sample leaves the context idle, whichever calibration it completes (R16, R17). -/
theorem calSample_sixteenth {s : State} {x : CalContext} {r : Nat} (cal : s.acq.cal = some x) (last : x.count = 15)
    (good : isRail r = false) : (s.calSample x.chan r).acq.cal = none := by
  have applied (u : State) (c : Chan) (cfg : ChanCfg) (v : Int) (b : Bool) : (u.applyCal c cfg v b).acq.cal = none := by
    rw [applyCal_eq]
    rfl
  cases op : x.op
  case zero =>
    rw [calSample_completes_zero cal op last good]
    exact applied _ _ _ _ _
  case span =>
    rw [calSample_completes_span cal op last good, completeSpan_eq]
    dsimp only
    split
    · exact cal_endCal _ _ _ _
    · exact applied _ _ _ _ _

/-- Settles O21: the channel's state machine takes the sample first and then the context. -/
theorem calibrationSampleTaken : Obligations.CalibrationSampleTaken := by
  rintro _ r s x ready inv cal rfl i y d k
  obtain ⟨-, -, context, -⟩ := id inv
  obtain ⟨-, ok⟩ := context x cal
  refine ⟨fun lo hi few => ?_, fun out => ?_, fun lo hi last => ?_⟩
  · have good := isRail_eq_false lo hi
    rw [arrival_under_calibration ready inv cal good]
    have still : ((s.take i).sampled x.chan r.toNat).acq.cal = some x := cal
    rw [calSample_adds still few good]
    exact congrArg _ (seal_sendAll_take (r := (s.setChan x.chan _).setCal _) rfl i _)
  · have rail := isRail_eq_true out
    have made := chanSample_ok_rail (s := s.take i) inv rail ok
    show arrival x.chan r s = _
    unfold arrival
    refine deliver_sends ready ?_
    show (if discards (s.chan x.chan).state = true then _ else _) = _
    rw [if_neg (by rw [ok]; exact nofun), made]
    refine (calSample_rail (x := x) ?_ rail).trans ?_
    · exact cal
    rw [endCal_eq, attention_congr (t := s) rfl]
    simp
    rfl
  · have good := isRail_eq_false lo hi
    have arrives := arrival_under_calibration ready inv cal good
    have done := calSample_sixteenth (s := (s.take i).sampled x.chan r.toNat) cal last good
    have completes : completesCal s x.op x.chan r.toNat = true := by
      simp [completesCal, cal, last, ok, discards, good]
    refine ⟨_, ?_, arrives, done⟩
    refine Eq.trans ?_ arrives
    cases op : x.op
    case zero =>
      rw [op] at completes
      exact if_pos completes
    case span =>
      rw [op] at completes
      exact if_pos completes

/-! ## CALIBRATE -/

/-- What a CALIBRATE comes to (R14). -/
theorem calibrate_eq {q : Req} {s : State} (ready : Ready s .acquisition) (i : Instr) (op : CalOp) :
    calibrate i op q s = .next (
      match galleryOf q.gallery.toNat, q.port with
      | none, .conservation => after s i s (reply q 0x1A .range 0)
      | some g, .conservation =>
        let c : Chan := ⟨g, subKind q⟩
        if s.acq.cal ≠ none ∨ (s.chan c).state ≠ .ok then after s i s (reply q 0x1A .busy 0)
        else
          after s i ((s.setCal (some ⟨c, op, q.value.toNat, 0, 0⟩)).setChan c { s.chan c with
            cal := ⟨some op, .running, some (match op with | .zero => (s.cfg c).offset | .span => ((s.cfg c).gain : Int)),
              none⟩ }) (reply q 0x1A .accepted 0)
      | _, _ => after s i s (reply q 0x1A .notPermitted 0)) := by
  unfold calibrate
  cases port : q.port
  case conservation =>
    have permitted : conservationOnly q.port = true := by rw [port]; rfl
    cases sel : galleryOf q.gallery.toNat with
    | none =>
      refine request_answers ready permitted rfl ?_
      obtain ⟨g, one, num⟩ | ⟨all, -⟩ | ⟨bad, -⟩ := gallerySel_cases q.gallery
      · rw [galleryOf_eq_some.2 num] at sel
        cases sel
      · rw [all]
        rfl
      · rw [bad]
        rfl
    | some g =>
      have one : gallerySel q.gallery = .one g := by rw [gallerySel, sel]
      rw [one]
      dsimp only
      cases cal : s.acq.cal with
      | some x =>
        rw [if_pos (.inl nofun)]
        refine request_answers ready permitted rfl (if_pos ?_)
        show s.acq.cal.isSome = true
        rw [cal]
        rfl
      | none =>
        have idle : ¬(s.take i).acq.cal.isSome = true := by
          show ¬s.acq.cal.isSome = true
          rw [cal]
          exact nofun
        by_cases ok : (s.chan ⟨g, subKind q⟩).state = .ok
        · rw [if_neg (by simp [ok])]
          refine request_answers ready permitted ?_ ((if_neg idle).trans ((if_neg (not_not.2 ok)).trans ?_))
          · rfl
          · rfl
        · rw [if_pos (.inr ok)]
          exact request_answers ready permitted rfl ((if_neg idle).trans (if_pos ok))
  all_goals
    have barred : conservationOnly q.port = false := by rw [port]; rfl
    refine (request_refused ready i 0x1A barred _).trans (congrArg _ ?_)
    cases galleryOf q.gallery.toNat <;> rfl

/-- Settles O28: both operations are one request, which differ in the value the calibration starts from. -/
theorem calibrateTaken : Obligations.CalibrateTaken := by
  intro q s ready answer
  refine ⟨(calibrate_eq ready (.calibrateZero q) .zero).trans ?_, (calibrate_eq ready (.calibrateSpan q) .span).trans ?_⟩
  · rfl
  · rfl

end Sys2Proof.Machine
end

section
/-! SUPPORT. The self-check sequencer's notices at the acquisition unit, and WRITE CHANNEL of ENABLE (O24, O27). -/

namespace Sys2Proof.Machine
open Sys2Proof

/-! ## A calibration that is aborted -/

/-- A running calibration that `hit` names ends ABORTED, with CALIBRATION_DONE (R18). -/
theorem abortCal_eq (s : State) (hit : Chan → Bool) :
    s.abortCal hit =
      match s.acq.cal with
      | some x =>
        if hit x.chan then
          ((s.setChan x.chan { s.chan x.chan with
            cal := { (s.chan x.chan).cal with result := .aborted, new := none } }).setCal none).sendAll
              (attention s .calibrationDone (some x.chan.g))
        else s
      | none => s := by
  unfold State.abortCal
  cases s.acq.cal with
  | none => rfl
  | some x => simp only [endCal_eq]

/-- Whether the running calibration is of a channel. -/
def calibrates (s : State) (c : Chan) : Bool := match s.acq.cal with | some x => x.chan == c | none => false

theorem calibrates_iff (s : State) (c : Chan) : calibrates s c = true ↔ ∃ x, s.acq.cal = some x ∧ x.chan = c := by
  unfold calibrates
  cases s.acq.cal <;> simp

/-- The record of a channel whose calibration, if one runs, is aborted (R18). -/
def ChanRec.aborted (r : ChanRec) (hit : Bool) : ChanRec :=
  { r with cal := if hit then { r.cal with result := .aborted, new := none } else r.cal }

theorem State.setCal_self (s : State) : s.setCal s.acq.cal = s := rfl

/-- The abort of a channel's own calibration, whether or not one runs. -/
theorem abortCal_own (s : State) (c : Chan) :
    s.abortCal (fun d => d = c) =
      ((s.setChan c ((s.chan c).aborted (calibrates s c))).setCal (if calibrates s c then none else s.acq.cal)).sendAll
        (if calibrates s c then attention s .calibrationDone (some c.g) else []) := by
  rw [abortCal_eq]
  cases hit : calibrates s c
  · have whole : (s.chan c).aborted false = s.chan c := rfl
    simp only [Bool.false_eq_true, if_false, whole, State.setChan_self, State.setCal_self, State.sendAll_nil]
    cases cal : s.acq.cal with
    | none => rfl
    | some x =>
      refine if_neg fun same => ?_
      rw [(calibrates_iff s c).2 ⟨x, cal, of_decide_eq_true same⟩] at hit
      cases hit
  · obtain ⟨x, cal, rfl⟩ := (calibrates_iff s c).1 hit
    rw [cal]
    exact if_pos (decide_eq_true rfl)

/-- A record that is faulted as the old one was leaves the count right. -/
theorem Counted.setChan {s : State} {g : Gallery} (h : Counted s g) {c : Chan} {r : ChanRec}
    (same : isFaulted r = isFaulted (s.chan c)) : Counted (s.setChan c r) g := by
  show s.acq.faulted.get g = countFaulted ((Machine.setChan s.acq.chans c r).get g)
  by_cases hg : g = c.g
  · subst hg
    have count := countFaulted_set (s.acq.chans.get c.g) c.k r
    have old : isFaulted ((s.acq.chans.get c.g).get c.k) = isFaulted r := same.symm
    rw [old] at count
    rw [chans_get_setChan, Nat.add_right_cancel count]
    exact h
  · rw [Machine.setChan, PerGallery.get_set_ne _ _ _ _ hg]
    exact h

theorem setChan_setCal_comm (s : State) (v : Option CalContext) (c : Chan) (r : ChanRec) :
    (s.setCal v).setChan c r = (s.setChan c r).setCal v := rfl

theorem setCheckFault_sendAll (s : State) (l : List Instr) (c : Chan) (b : Bool) :
    (s.sendAll l).setCheckFault c b = (s.setCheckFault c b).sendAll l := rfl

theorem checkFault_sendAll (s : State) (l : List Instr) (c : Chan) : (s.sendAll l).checkFault c = s.checkFault c := rfl

/-- A channel whose calibration is aborted then enters a state in which it counts as before. -/
theorem abort_enterState_same {s : State} {c : Chan} (counted : Counted s c.g) (r : ChanRec → ChanRec) (st : ChanState)
    (state : ∀ x, (r x).state = st) (same : isFaulted (r ((s.chan c).aborted (calibrates s c))) = isFaulted (s.chan c))
    (recovery uninit : Bool) :
    (s.abortCal fun d => d = c).enterState c (r ((s.abortCal fun d => d = c).chan c)) recovery uninit =
      (((s.setChan c (r ((s.chan c).aborted (calibrates s c)))).setCal
        (if calibrates s c then none else s.acq.cal)).setCheckFault c (checkFaultAfter st (s.checkFault c))).sendAll
        ((if calibrates s c then attention s .calibrationDone (some c.g) else []) ++
          stateNotices ⟨c, (s.chan c).state, st, recovery, uninit⟩) := by
  have count : Counted (s.setChan c ((s.chan c).aborted (calibrates s c))) c.g := counted.setChan rfl
  have own := abortCal_own s c
  have entered := enterState_same (s := s.abortCal fun d => d = c) (c := c)
    (r := r ((s.abortCal fun d => d = c).chan c)) (by rw [own]; exact count) recovery uninit
    (by rw [own]; simp only [State.chan_sendAll, State.chan_setCal, State.chan_setChan, if_true]; exact same)
  rw [entered, own]
  simp only [State.chan_sendAll, State.chan_setCal, State.chan_setChan, if_true, state, State.setChan_sendAll,
    setChan_setCal_comm, State.setChan_setChan, setCheckFault_sendAll, checkFault_sendAll, State.sendAll_sendAll]
  rfl

/-! ## The sequencer's notices -/

/-- GALLERY_START_NOTICE (R8, R18). -/
theorem exec_galleryStartNotice {s : State} (ready : Ready s .acquisition) (g : Gallery) :
    exec (.galleryStartNotice g) s = .next (
      match s.acq.cal with
      | some x =>
        if x.chan.g = g then
          after s (.galleryStartNotice g) ((s.setChan x.chan { s.chan x.chan with
            cal := { (s.chan x.chan).cal with result := .aborted, new := none } }).setCal none)
            (attention s .calibrationDone (some g))
        else after s (.galleryStartNotice g) s []
      | none => after s (.galleryStartNotice g) s []) := by
  show execGalleryStartNotice g s = _
  unfold execGalleryStartNotice
  cases cal : s.acq.cal with
  | none =>
    refine deliver_silent ready ?_
    rw [abortCal_eq]
    show (match s.acq.cal with | some x => _ | none => _) = _
    rw [cal]
  | some x =>
    dsimp only
    split
    next here =>
      refine deliver_sends ready ?_
      rw [abortCal_eq, ← here]
      show (match s.acq.cal with | some x => _ | none => _) = _
      rw [cal]
      exact if_pos (by simp)
    next away =>
      refine deliver_silent ready ?_
      rw [abortCal_eq]
      show (match s.acq.cal with | some x => _ | none => _) = _
      rw [cal]
      exact if_neg (by simpa using away)

/-- The saved state was FAULT of either cause (R8). -/
def wasFault (r : ChanRec) : Bool := r.saved == some (.fault .rail) || r.saved == some (.fault .check)

theorem savedFault_eq (r : ChanRec) : savedFault r.saved = wasFault r := by
  unfold savedFault wasFault
  split
  next x eq =>
    rw [eq]
    cases x <;> rfl
  next other =>
    cases eq : r.saved with
    | none => rfl
    | some v =>
      cases v with
      | fault x => exact absurd eq (other x)
      | _ => rfl

theorem isFaulted_checking {r : ChanRec} (state : r.state = .checking) : isFaulted r = wasFault r := by
  rw [← savedFault_eq]
  unfold isFaulted savedFault
  rw [state]
  cases r.saved with
  | none => rfl
  | some v => cases v <;> rfl

/-- The state a channel goes back to when its check is aborted (R8). -/
def backState (r : ChanRec) : ChanState :=
  match r.saved with
  | some .suspect => .suspect
  | some (.fault x) => .fault x
  | _ => .ok

theorem isFaulted_back (r : ChanRec) : isFaulted (r.moved (backState r)) = wasFault r := by
  rw [← savedFault_eq]
  unfold backState savedFault
  cases eq : r.saved with
  | none => rfl
  | some v => cases v <;> rfl

/-- A channel that leaves CHECKING keeps its counters, which are 0 (R4). -/
theorem ChanOk.moved_checking {r : ChanRec} (ok : ChanOk r) (state : r.state = .checking) (st : ChanState) :
    r.moved st = { r with state := st, saved := none } := by
  have rail := ok.rail_zero (by simp [state])
  have good := ok.good_zero (by simp [state])
  rw [ChanRec.moved, rail, good]

section
variable {s : State} (inv : ChanInv s) {c : Chan} (state : (s.chan c).state = .checking)
include inv state

/-- A CHECKING channel that passes (R8, R9, R10). -/
theorem enterState_passed :
    s.enterState c ((s.chan c).moved .ok) (savedFault (s.chan c).saved) false =
      (((if wasFault (s.chan c) then s.setFaulted c.g (s.acq.faulted.get c.g - 1) else s).setChan c
        { s.chan c with state := .ok, saved := none }).setCheckFault c false).sendAll
      (stateNotices ⟨c, .checking, .ok, wasFault (s.chan c), false⟩ ++
        (if wasFault (s.chan c) ∧ s.acq.faulted.get c.g = 1 then [.closeNotice c.g .sensorFault] else [])) := by
  have was := isFaulted_checking state
  rw [savedFault_eq, (inv.chan c).moved_checking state .ok]
  cases fault : wasFault (s.chan c)
  · rw [enterState_same (inv.counted c.g) _ _ (by rw [was, fault]; rfl), state]
    simp
    rfl
  · rw [enterState_clears (inv.counted c.g) _ _ (by rw [was, fault]) rfl, state]
    simp
    rfl

/-- A CHECKING channel that fails (R8, R9, R10). -/
theorem enterState_failed :
    s.enterState c ((s.chan c).moved (.fault .check)) false false =
      (((if wasFault (s.chan c) then s else s.setFaulted c.g (s.acq.faulted.get c.g + 1)).setChan c
        { s.chan c with state := .fault .check, saved := none }).setCheckFault c true).sendAll
      (stateNotices ⟨c, .checking, .fault .check, false, false⟩ ++
        (if wasFault (s.chan c) then [] else if s.acq.faulted.get c.g = 0 then [.openNotice c.g .sensorFault 0 1]
          else [.valueNotice c.g .sensorFault (s.acq.faulted.get c.g + 1)])) := by
  have was := isFaulted_checking state
  rw [(inv.chan c).moved_checking state (.fault .check)]
  cases fault : wasFault (s.chan c)
  · rw [enterState_faults (inv.counted c.g) _ _ (by rw [was, fault]) rfl, state]
    by_cases zero : s.acq.faulted.get c.g = 0 <;> simp [zero] <;> rfl
  · rw [enterState_same (inv.counted c.g) _ _ (by rw [was, fault]; rfl), state]
    simp
    rfl

/-- A CHECKING channel whose check is aborted (R8, R9). -/
theorem enterState_back :
    s.enterState c ((s.chan c).moved (backState (s.chan c))) false false =
      ((s.setChan c { s.chan c with state := backState (s.chan c), saved := none }).setCheckFault c
        (checkFaultAfter (backState (s.chan c)) (s.checkFault c))).sendAll
      (stateNotices ⟨c, .checking, backState (s.chan c), false, false⟩) := by
  rw [enterState_same (inv.counted c.g) _ _ ((isFaulted_back _).trans (isFaulted_checking state).symm), state,
    (inv.chan c).moved_checking state (backState (s.chan c))]

end

section
variable {s : State} (ready : Ready s .acquisition) (c : Chan)
include ready

/-- CHANNEL_ENTER_NOTICE at a channel that can be checked (R8, R9). -/
theorem exec_channelEnterNotice (inv : ChanInv s) {sv : SavedState} (saved : savedOf (s.chan c).state = some sv) :
    exec (.channelEnterNotice c) s = .next (after s (.channelEnterNotice c)
      (((s.setChan c { (s.chan c).aborted (calibrates s c) with
        state := .checking, railCount := 0, goodRun := 0, saved := some sv }).setCal
          (if calibrates s c then none else s.acq.cal)).setCheckFault c (s.checkFault c))
      ((if calibrates s c then attention s .calibrationDone (some c.g) else []) ++
        stateNotices ⟨c, (s.chan c).state, .checking, false, false⟩)) := by
  show execChannelEnterNotice c s = _
  unfold execChannelEnterNotice
  refine deliver_sends ready ?_
  show (match savedOf (s.chan c).state with | some sv => _ | none => _) = _
  rw [saved]
  refine (abort_enterState_same (s := s.take (.channelEnterNotice c)) (inv.counted c.g)
    (fun r => { r with state := .checking, railCount := 0, goodRun := 0, saved := some sv }) .checking (fun _ => rfl) ?_
    false false).trans ?_
  · show isFaulted { (s.chan c).aborted (calibrates s c) with
      state := .checking, railCount := 0, goodRun := 0, saved := some sv } = isFaulted (s.chan c)
    unfold savedOf at saved
    unfold isFaulted
    split at saved <;> cases saved <;> simp [*]
  · rfl

/-- The same at a channel that cannot. -/
theorem exec_channelEnterNotice_ignored (saved : savedOf (s.chan c).state = none) :
    exec (.channelEnterNotice c) s = .next (after s (.channelEnterNotice c) s []) := by
  show execChannelEnterNotice c s = _
  unfold execChannelEnterNotice
  refine deliver_silent ready ?_
  show (match savedOf (s.chan c).state with | some sv => _ | none => _) = _
  rw [saved]

/-- A verdict other than FAIL at a CHECKING channel (R8, R9, R10). -/
theorem exec_verdictNotice_pass (inv : ChanInv s) {v : ChannelVerdict} (state : (s.chan c).state = .checking) (pass : v ≠ .fail) :
    exec (.verdictNotice c v) s = .next (after s (.verdictNotice c v)
      (((if wasFault (s.chan c) then s.setFaulted c.g (s.acq.faulted.get c.g - 1) else s).setChan c
        { s.chan c with state := .ok, saved := none }).setCheckFault c false)
      (stateNotices ⟨c, .checking, .ok, wasFault (s.chan c), false⟩ ++
        (if wasFault (s.chan c) ∧ s.acq.faulted.get c.g = 1 then [.closeNotice c.g .sensorFault] else []))) := by
  show execVerdictNotice c v s = _
  unfold execVerdictNotice
  refine deliver_sends ready ?_ (by split <;> rfl)
  refine (if_pos state).trans ?_
  have passed := enterState_passed (s := s.take (.verdictNotice c v)) inv state
  cases v
  case fail => exact absurd rfl pass
  all_goals
    refine passed.trans ?_
    cases fault : wasFault (s.chan c) <;> simp [fault] <;> rfl

/-- The verdict FAIL at a CHECKING channel (R8, R9, R10). -/
theorem exec_verdictNotice_fail (inv : ChanInv s) (state : (s.chan c).state = .checking) :
    exec (.verdictNotice c .fail) s = .next (after s (.verdictNotice c .fail)
      (((if wasFault (s.chan c) then s else s.setFaulted c.g (s.acq.faulted.get c.g + 1)).setChan c
        { s.chan c with state := .fault .check, saved := none }).setCheckFault c true)
      (stateNotices ⟨c, .checking, .fault .check, false, false⟩ ++
        (if wasFault (s.chan c) then [] else if s.acq.faulted.get c.g = 0 then [.openNotice c.g .sensorFault 0 1]
          else [.valueNotice c.g .sensorFault (s.acq.faulted.get c.g + 1)]) ++
        attention s .channelFault (some c.g))) := by
  show execVerdictNotice c .fail s = _
  unfold execVerdictNotice
  refine deliver_sends ready ?_ (by split <;> rfl)
  refine (if_pos state).trans ?_
  dsimp only
  rw [attend_eq_sendAll, enterState_failed (s := s.take (.verdictNotice c .fail)) inv state, State.sendAll_sendAll]
  cases fault : wasFault (s.chan c) <;> simp [fault] <;> rfl

/-- CHANNEL_ABORT_NOTICE at a CHECKING channel (R8, R9). -/
theorem exec_channelAbortNotice (inv : ChanInv s) (state : (s.chan c).state = .checking) :
    exec (.channelAbortNotice c) s = .next (after s (.channelAbortNotice c)
      ((s.setChan c { s.chan c with state := backState (s.chan c), saved := none }).setCheckFault c
        (checkFaultAfter (backState (s.chan c)) (s.checkFault c)))
      (stateNotices ⟨c, .checking, backState (s.chan c), false, false⟩)) := by
  have back : (match (s.chan c).saved with | some sv => stateOf sv | none => ChanState.ok) = backState (s.chan c) := by
    unfold backState
    cases (s.chan c).saved with
    | none => rfl
    | some v => cases v <;> rfl
  show execChannelAbortNotice c s = _
  unfold execChannelAbortNotice
  refine deliver_sends ready ?_
  refine (if_pos state).trans ?_
  refine Eq.trans (congrArg (fun st => (s.take (.channelAbortNotice c)).enterState c ((s.chan c).moved st) false false) back) ?_
  exact enterState_back (s := s.take (.channelAbortNotice c)) inv state

/-- A verdict or an abort at a channel that is not CHECKING (R8). -/
theorem exec_verdictNotice_ignored (v : ChannelVerdict) (state : (s.chan c).state ≠ .checking) :
    exec (.verdictNotice c v) s = .next (after s (.verdictNotice c v) s []) := by
  show execVerdictNotice c v s = _
  unfold execVerdictNotice
  exact deliver_silent ready (if_neg state)

theorem exec_channelAbortNotice_ignored (state : (s.chan c).state ≠ .checking) :
    exec (.channelAbortNotice c) s = .next (after s (.channelAbortNotice c) s []) := by
  show execChannelAbortNotice c s = _
  unfold execChannelAbortNotice
  exact deliver_silent ready (if_neg state)

end

/-- The saved state that a check takes from a state it can take one from (R8). -/
theorem savedOf_eq (st : ChanState) : st ≠ .checking → st ≠ .disabled →
    savedOf st = some (match st with | .suspect => .suspect | .fault x => .fault x | _ => .ok) := by
  intro check off
  cases st
  case checking => exact absurd rfl check
  case disabled => exact absurd rfl off
  all_goals rfl

/-- The check-fault flag of a channel that goes back to its saved state (R4). -/
theorem checkFaultAfter_back (r : ChanRec) (b : Bool) :
    checkFaultAfter (backState r) b = match backState r with | .ok => false | .fault .check => true | _ => b := by
  unfold backState
  cases r.saved with
  | none => rfl
  | some v =>
    cases v with
    | fault x => cases x <;> rfl
    | _ => rfl

/-- Settles O24: a channel enters CHECKING with its own calibration aborted, and leaves it as the verdict or the saved state
says. -/
theorem checkNoticesTaken : Obligations.CheckNoticesTaken := by
  intro c v s ready inv k n fault counted back
  obtain ⟨-, -, -, flags⟩ := id inv
  refine ⟨?_, fun idle => ?_, fun check off => ?_, fun state pass => ?_, fun state => ?_, fun state => ?_,
    fun state => ⟨?_, ?_⟩⟩
  · exact exec_galleryStartNotice ready c.g
  · refine exec_channelEnterNotice_ignored ready c ?_
    rcases idle with state | state <;> rw [show (s.chan c).state = _ from state] <;> rfl
  · intro saved hit entered
    refine (exec_channelEnterNotice ready c inv (savedOf_eq _ check off)).trans ?_
    have flag : s.checkFault c = if k.state = .fault .check then true else s.checkFault c := by
      split
      next faulted => exact (flags ready c).2 faulted
      next => rfl
    refine congrArg _ ?_
    rw [← flag]
    rfl
  · exact exec_verdictNotice_pass ready c inv state pass
  · exact exec_verdictNotice_fail ready c inv state
  · refine (exec_channelAbortNotice ready c inv state).trans ?_
    rw [checkFaultAfter_back]
    rfl
  · exact exec_verdictNotice_ignored ready c v state
  · exact exec_channelAbortNotice_ignored ready c state

end Sys2Proof.Machine
end

section
/-! SUPPORT. WRITE CHANNEL of ENABLE: what it makes of one channel, and of the channels named in turn (O27). -/

namespace Sys2Proof.Machine
open Sys2Proof

/-! ## Tables over the channels -/

/-- A table of a value for each channel. -/
def chanTable {α : Type} (f : Chan → α) : PerChan α := .ofFn fun g => .ofFn fun k => f ⟨g, k⟩

theorem getChan_chanTable {α : Type} (f : Chan → α) (c : Chan) : getChan (chanTable f) c = f c := by
  rw [getChan, chanTable, PerGallery.get_ofFn, PerKind.get_ofFn]

theorem chanTable_getChan {α : Type} (t : PerChan α) : chanTable (getChan t) = t := by
  refine PerGallery.ext_get fun g => PerKind.ext_get fun k => ?_
  exact getChan_chanTable _ ⟨g, k⟩

/-- A table with one entry written is the table of the values after it. -/
theorem setChan_chanTable {α : Type} {f f' : Chan → α} {c : Chan} {a : α} (at_ : f' c = a)
    (off : ∀ d, d ≠ c → f' d = f d) : setChan (chanTable f) c a = chanTable f' := by
  obtain ⟨g, k⟩ := c
  refine PerGallery.ext_get fun h => ?_
  by_cases hg : h = g
  · subst hg
    refine PerKind.ext_get fun j => ?_
    simp only [setChan, PerGallery.get_set_self, chanTable, PerGallery.get_ofFn, PerKind.get_set, PerKind.get_ofFn]
    split
    next same => rw [same, at_]
    next other => exact (off ⟨h, j⟩ (by simpa using other)).symm
  · refine PerKind.ext_get fun j => ?_
    rw [setChan, PerGallery.get_set_ne _ _ _ _ hg]
    simp only [chanTable, PerGallery.get_ofFn, PerKind.get_ofFn]
    exact (off ⟨h, j⟩ (by simp [hg])).symm

theorem set_galleryTable {α : Type} {f f' : Gallery → α} {g : Gallery} {a : α} (at_ : f' g = a)
    (off : ∀ h, h ≠ g → f' h = f h) : (PerGallery.ofFn f).set g a = PerGallery.ofFn f' := by
  refine PerGallery.ext_get fun h => ?_
  rw [PerGallery.get_set, PerGallery.get_ofFn, PerGallery.get_ofFn]
  split
  next same => rw [same, at_]
  next other => exact (off h other).symm

/-! ## The galleries named, in turn -/

/-- A WRITE CHANNEL that is not refused writes the galleries its field names, 0 to 5 in turn. -/
theorem writeNamed_eq_foldl {q : Req} (field : q.gallery ≠ 6) (apply : Chan → State → State) (s : State) :
    writeNamed q apply s = (galleries.filter (addresses q.gallery)).foldl (fun s g => apply ⟨g, subKind q⟩ s) s := by
  unfold writeNamed
  obtain ⟨g, sel, num⟩ | ⟨sel, num⟩ | ⟨-, six⟩ := gallerySel_cases q.gallery
  · rw [sel, galleries_filter_addresses_one num]
    rfl
  · rw [sel, funext (addresses_all num)]
    rfl
  · exact absurd six field

/-- When each gallery in turn takes the state a list of galleries has built to the state it builds with that gallery at its
end, the galleries build the state of their list. -/
theorem foldl_builds {f : State → Gallery → State} {build : List Gallery → State} {news : Gallery → List Instr}
    (next : ∀ l g m, g ∉ l → f ((build l).sendAll m) g = (build (l ++ [g])).sendAll (m ++ news g)) {l : List Gallery}
    (distinct : l.Nodup) : l.foldl f (build []) = (build l).sendAll (l.flatMap news) := by
  induction l using List.reverseRecOn with
  | nil => exact (State.sendAll_nil _).symm
  | append_singleton l g ih =>
    obtain ⟨before, -, apart⟩ := List.nodup_append.1 distinct
    have fresh : g ∉ l := fun mem => apart g mem g (List.mem_singleton.2 rfl) rfl
    rw [List.foldl_append, ih before, List.foldl_cons, List.foldl_nil, next l g _ fresh]
    simp

theorem flatMap_filter_eq {α β : Type} (p : α → Bool) (f : α → List β) (l : List α) :
    (l.filter p).flatMap f = l.flatMap fun a => if p a then f a else [] := by
  induction l with
  | nil => rfl
  | cons a l ih => cases h : p a <;> simp [h, ih]

/-! ## One channel disabled or enabled -/

/-- A channel that enters a state in which it is not faulted (R4, R9, R10). -/
theorem enterState_sound {s : State} {c : Chan} (counted : Counted s c.g) {r : ChanRec} (recovery uninit : Bool)
    (sound : isFaulted r = false) :
    s.enterState c r recovery uninit =
      (((s.setChan c r).setCheckFault c (checkFaultAfter r.state (s.checkFault c))).setFaulted c.g
        (s.acq.faulted.get c.g - if isFaulted (s.chan c) then 1 else 0)).sendAll
        (stateNotices ⟨c, (s.chan c).state, r.state, recovery, uninit⟩ ++
          (if isFaulted (s.chan c) ∧ s.acq.faulted.get c.g = 1 then [.closeNotice c.g .sensorFault] else [])) := by
  cases was : isFaulted (s.chan c)
  · rw [enterState_same counted recovery uninit (sound.trans was.symm)]
    simp only [Bool.false_eq_true, if_false, Nat.sub_zero, false_and, List.append_nil]
    exact congrArg (State.sendAll · _)
      (State.setFaulted_self ((s.setChan c r).setCheckFault c (checkFaultAfter r.state (s.checkFault c))) c.g).symm
  · rw [enterState_clears counted recovery uninit was sound]
    simp

theorem setChan_setCfg_comm (s : State) (c d : Chan) (x : ChanCfg) (r : ChanRec) :
    (s.setCfg d x).setChan c r = (s.setChan c r).setCfg d x := rfl

theorem setFaulted_sendAll (s : State) (l : List Instr) (g : Gallery) (n : Nat) :
    (s.sendAll l).setFaulted g n = (s.setFaulted g n).sendAll l := rfl

/-- The same after notices, with the channel's record known. -/
theorem enterState_sound_after {u : State} {l : List Instr} {c : Chan} {x r : ChanRec} (counted : Counted u c.g)
    (chan : u.chan c = x) (recovery uninit : Bool) (sound : isFaulted r = false) :
    (u.sendAll l).enterState c r recovery uninit =
      (((u.setChan c r).setCheckFault c (checkFaultAfter r.state (u.checkFault c))).setFaulted c.g
        (u.acq.faulted.get c.g - if isFaulted x then 1 else 0)).sendAll
        (l ++ (stateNotices ⟨c, x.state, r.state, recovery, uninit⟩ ++
          (if isFaulted x ∧ u.acq.faulted.get c.g = 1 then [.closeNotice c.g .sensorFault] else []))) := by
  rw [enterState_sound (s := u.sendAll l) counted recovery uninit sound, ← chan]
  simp only [State.setChan_sendAll, setCheckFault_sendAll, setFaulted_sendAll, State.sendAll_sendAll]
  rfl

/-- The channel's record when it is disabled (R4, R11, R18). -/
def ChanRec.disabled (r : ChanRec) (hit : Bool) : ChanRec := (r.aborted hit).moved .disabled

/-- What the channel's disabling sends (R9, R10, R18). -/
def disableNews (s : State) (c : Chan) : List Instr :=
  (if calibrates s c then attention s .calibrationDone (some c.g) else []) ++
    stateNotices ⟨c, (s.chan c).state, .disabled, false, false⟩ ++
    (if isFaulted (s.chan c) ∧ s.acq.faulted.get c.g = 1 then [.closeNotice c.g .sensorFault] else [])

/-- The state in which a channel about to be disabled enters DISABLED: its calibration aborted and its enable off. -/
def State.switchedOff (s : State) (c : Chan) : State :=
  ((s.setChan c ((s.chan c).aborted (calibrates s c))).setCal (if calibrates s c then none else s.acq.cal)).setCfg c
    { s.cfg c with enabled := false }

theorem abortCal_setCfg (s : State) (c : Chan) :
    (s.abortCal fun d => d = c).setCfg c { (s.abortCal fun d => d = c).cfg c with enabled := false } =
      (s.switchedOff c).sendAll (if calibrates s c then attention s .calibrationDone (some c.g) else []) := by
  rw [abortCal_own]
  rfl

theorem chan_abortCal (s : State) (c : Chan) :
    (s.abortCal fun d => d = c).chan c = (s.chan c).aborted (calibrates s c) := by
  rw [abortCal_own]
  simp

theorem chan_switchedOff (s : State) (c : Chan) : (s.switchedOff c).chan c = (s.chan c).aborted (calibrates s c) := by
  simp [State.switchedOff]

theorem setChan_switchedOff (s : State) (c : Chan) (r : ChanRec) :
    (s.switchedOff c).setChan c r =
      ((s.setChan c r).setCal (if calibrates s c then none else s.acq.cal)).setCfg c { s.cfg c with enabled := false } :=
  congrArg (fun u => (State.setCal u (if calibrates s c then none else s.acq.cal)).setCfg c { s.cfg c with enabled := false })
    (State.setChan_setChan s c ((s.chan c).aborted (calibrates s c)) r)

/-- A channel that is not DISABLED is disabled (R11). -/
theorem disableChan_eq {s : State} {c : Chan} (counted : Counted s c.g) (live : (s.chan c).state ≠ .disabled) :
    s.disableChan c =
      (((((s.setChan c ((s.chan c).disabled (calibrates s c))).setCal (if calibrates s c then none else s.acq.cal)).setCfg c
        { s.cfg c with enabled := false }).setCheckFault c false).setFaulted c.g
          (s.acq.faulted.get c.g - if isFaulted (s.chan c) then 1 else 0)).sendAll (disableNews s c) := by
  have count : Counted (s.switchedOff c) c.g := counted.setChan (r := (s.chan c).aborted (calibrates s c)) rfl
  have entered := enterState_sound_after (l := if calibrates s c then attention s .calibrationDone (some c.g) else []) count
    (chan_switchedOff s c) false false (r := (s.chan c).disabled (calibrates s c)) rfl
  unfold State.disableChan
  rw [if_neg live]
  dsimp only
  rw [abortCal_setCfg, chan_abortCal]
  refine entered.trans ?_
  rw [setChan_switchedOff, disableNews, List.append_assoc]
  rfl

/-- A DISABLED channel is enabled (R11). -/
theorem enableChan_eq {s : State} {c : Chan} (counted : Counted s c.g) (off : (s.chan c).state = .disabled) :
    s.enableChan c =
      (((s.setChan c { (s.chan c).moved .ok with lastRaw := none, lastCorrected := none }).setCfg c
        { s.cfg c with enabled := true }).setCheckFault c false).sendAll (stateNotices ⟨c, .disabled, .ok, false, true⟩) := by
  have sound : isFaulted (s.chan c) = false := by simp [isFaulted, off]
  have entered := enterState_same (s := s.setCfg c { s.cfg c with enabled := true }) (c := c)
    (r := { (s.chan c).moved .ok with lastRaw := none, lastCorrected := none }) counted false true sound.symm
  unfold State.enableChan
  rw [if_pos off]
  refine entered.trans ?_
  rw [State.chan_setCfg, off]
  rfl

/-! ## The channels named, disabled or enabled -/

/-- The channels of kind `k` of the galleries in a list. -/
def inTurn (k : Kind) (l : List Gallery) (c : Chan) : Bool := l.contains c.g && c.k == k

theorem inTurn_append (k : Kind) (l : List Gallery) (g : Gallery) (d : Chan) :
    inTurn k (l ++ [g]) d = (inTurn k l d || decide (d = ⟨g, k⟩)) := by
  obtain ⟨h, j⟩ := d
  by_cases hg : h = g <;> by_cases hk : j = k <;> simp [inTurn, hg, hk]

theorem inTurn_fresh {k : Kind} {l : List Gallery} {g : Gallery} (fresh : g ∉ l) (j : Kind) : inTurn k l ⟨g, j⟩ = false := by
  simp [inTurn, fresh]

/-- The state with the channels that `off` names disabled, which are of kind `k` (R11). -/
def disabledAll (k : Kind) (off : Chan → Bool) (s : State) : State :=
  { s with
    ret := { s.ret with
      cfg := chanTable fun c => if off c then { s.cfg c with enabled := false } else s.cfg c
      checkFault := chanTable fun c => if off c then false else s.checkFault c }
    acq := {
      chans := chanTable fun c => if off c then (s.chan c).disabled (calibrates s c) else s.chan c
      cal := match s.acq.cal with | some x => if off x.chan then none else some x | none => none
      faulted := .ofFn fun g => s.acq.faulted.get g - if off ⟨g, k⟩ && isFaulted (s.chan ⟨g, k⟩) then 1 else 0 } }

/-- The state with the channels that `on` names enabled (R11). -/
def enabledAll (on : Chan → Bool) (s : State) : State :=
  { s with
    ret := { s.ret with
      cfg := chanTable fun c => if on c then { s.cfg c with enabled := true } else s.cfg c
      checkFault := chanTable fun c => if on c then false else s.checkFault c }
    acq := { s.acq with
      chans := chanTable fun c =>
        if on c then { (s.chan c).moved .ok with lastRaw := none, lastCorrected := none } else s.chan c } }

theorem chanTable_none {α : Type} (t : PerChan α) (f : Chan → α) :
    (chanTable fun c => if false = true then f c else getChan t c) = t := by
  simpa using chanTable_getChan t

theorem disabledAll_none (k : Kind) (s : State) : disabledAll k (fun _ => false) s = s := by
  have cfg := chanTable_none s.ret.cfg fun c => { s.cfg c with enabled := false }
  have flags := chanTable_none s.ret.checkFault fun _ => false
  have chans := chanTable_none s.acq.chans fun c => (s.chan c).disabled (calibrates s c)
  have cal : (match s.acq.cal with | some x => if false = true then none else some x | none => none) = s.acq.cal := by
    cases s.acq.cal <;> rfl
  have faulted : (PerGallery.ofFn fun g => s.acq.faulted.get g - if (false && isFaulted (s.chan ⟨g, k⟩)) = true then 1 else 0) =
      s.acq.faulted := by
    refine PerGallery.ext_get fun g => ?_
    rw [PerGallery.get_ofFn]
    rfl
  unfold disabledAll
  rw [cal, faulted]
  simp only [State.cfg, State.checkFault, State.chan] at cfg flags chans ⊢
  rw [cfg, flags, chans]

theorem enabledAll_none (s : State) : enabledAll (fun _ => false) s = s := by
  have cfg := chanTable_none s.ret.cfg fun c => { s.cfg c with enabled := true }
  have flags := chanTable_none s.ret.checkFault fun _ => false
  have chans := chanTable_none s.acq.chans fun c =>
    { (s.chan c).moved .ok with lastRaw := none, lastCorrected := none }
  unfold enabledAll
  simp only [State.cfg, State.checkFault, State.chan] at cfg flags chans ⊢
  rw [cfg, flags, chans]

/-- The channels of the galleries in a list that `p` holds of, with one gallery more at its end. -/
theorem and_inTurn_append {p : Chan → Bool} {k : Kind} {l : List Gallery} {g : Gallery} (holds : p ⟨g, k⟩ = true) (d : Chan) :
    (inTurn k (l ++ [g]) d && p d) = if d = ⟨g, k⟩ then true else inTurn k l d && p d := by
  rw [inTurn_append]
  by_cases same : d = ⟨g, k⟩
  · rw [same, holds]
    simp
  · simp [same]

theorem and_inTurn_skip {p : Chan → Bool} {k : Kind} {l : List Gallery} {g : Gallery} (fails : p ⟨g, k⟩ = false) :
    (fun d => inTurn k (l ++ [g]) d && p d) = fun d => inTurn k l d && p d := by
  funext d
  rw [inTurn_append]
  by_cases same : d = ⟨g, k⟩
  · rw [same, fails]
    simp
  · simp [same]

theorem chan_disabledAll (k : Kind) (off : Chan → Bool) (s : State) (c : Chan) :
    (disabledAll k off s).chan c = if off c then (s.chan c).disabled (calibrates s c) else s.chan c := getChan_chanTable _ c

theorem cfg_disabledAll (k : Kind) (off : Chan → Bool) (s : State) (c : Chan) :
    (disabledAll k off s).cfg c = if off c then { s.cfg c with enabled := false } else s.cfg c := getChan_chanTable _ c

theorem chan_enabledAll (on : Chan → Bool) (s : State) (c : Chan) :
    (enabledAll on s).chan c =
      if on c then { (s.chan c).moved .ok with lastRaw := none, lastCorrected := none } else s.chan c := getChan_chanTable _ c

theorem cfg_enabledAll (on : Chan → Bool) (s : State) (c : Chan) :
    (enabledAll on s).cfg c = if on c then { s.cfg c with enabled := true } else s.cfg c := getChan_chanTable _ c

/-- Galleries whose channels a table leaves keep their row of it. -/
theorem chanTable_row {off : Chan → Bool} {g : Gallery} (away : ∀ j, off ⟨g, j⟩ = false) {α : Type} (t : PerChan α)
    (f : Chan → α) : (chanTable fun c => if off c then f c else getChan t c).get g = t.get g := by
  refine PerKind.ext_get fun j => ?_
  rw [chanTable, PerGallery.get_ofFn, PerKind.get_ofFn, away j]
  rfl

section
variable {s : State} {off off' : Chan → Bool} {c : Chan} (away : ∀ j, off ⟨c.g, j⟩ = false)
  (more : ∀ d, off' d = if d = c then true else off d)
include away

theorem faulted_disabledAll : (disabledAll c.k off s).acq.faulted.get c.g = s.acq.faulted.get c.g := by
  show (PerGallery.ofFn _).get c.g = _
  rw [PerGallery.get_ofFn, away c.k]
  rfl

theorem counted_disabledAll (counted : Counted s c.g) : Counted (disabledAll c.k off s) c.g := by
  have row := chanTable_row away s.acq.chans fun c => (s.chan c).disabled (calibrates s c)
  show (disabledAll c.k off s).acq.faulted.get c.g = _
  rw [faulted_disabledAll away]
  exact (counted : s.acq.faulted.get c.g = _).trans (congrArg countFaulted row.symm)

theorem calibrates_disabledAll (k : Kind) : calibrates (disabledAll k off s) c = calibrates s c := by
  unfold calibrates disabledAll
  dsimp only
  cases s.acq.cal with
  | none => rfl
  | some x =>
    dsimp only
    by_cases same : x.chan = c
    · have kept : off x.chan = false := same ▸ away c.k
      simp [kept]
    · cases off x.chan <;> simp [same]

theorem disableNews_disabledAll : disableNews (disabledAll c.k off s) c = disableNews s c := by
  have chan := chan_disabledAll c.k off s c
  rw [away c.k] at chan
  rw [disableNews, calibrates_disabledAll away, faulted_disabledAll away, chan]
  rfl

include more

/-- One channel more is disabled (R11). -/
theorem disableChan_disabledAll (counted : Counted s c.g) (live : (s.chan c).state ≠ .disabled) :
    (disabledAll c.k off s).disableChan c = (disabledAll c.k off' s).sendAll (disableNews s c) := by
  have chan : (disabledAll c.k off s).chan c = s.chan c := by rw [chan_disabledAll, away c.k]; rfl
  have cfg : (disabledAll c.k off s).cfg c = s.cfg c := by rw [cfg_disabledAll, away c.k]; rfl
  have here : off' c = true := by simp [more]
  have other {d : Chan} (ne : d ≠ c) : off' d = off d := by simp [more, ne]
  rw [disableChan_eq (counted_disabledAll away counted) (by rwa [chan]), chan, cfg, calibrates_disabledAll away,
    faulted_disabledAll away, disableNews_disabledAll away]
  refine congrArg (State.sendAll · _) ?_
  have cfgs : setChan (disabledAll c.k off s).ret.cfg c { s.cfg c with enabled := false } =
      (disabledAll c.k off' s).ret.cfg := by
    dsimp only [disabledAll]
    exact setChan_chanTable (by simp [here]) fun d ne => by simp [other ne]
  have flags : setChan (disabledAll c.k off s).ret.checkFault c false = (disabledAll c.k off' s).ret.checkFault := by
    dsimp only [disabledAll]
    exact setChan_chanTable (by simp [here]) fun d ne => by simp [other ne]
  have chans : setChan (disabledAll c.k off s).acq.chans c ((s.chan c).disabled (calibrates s c)) =
      (disabledAll c.k off' s).acq.chans := by
    dsimp only [disabledAll]
    exact setChan_chanTable (by simp [here]) fun d ne => by simp [other ne]
  have counts : (disabledAll c.k off s).acq.faulted.set c.g (s.acq.faulted.get c.g - if isFaulted (s.chan c) then 1 else 0) =
      (disabledAll c.k off' s).acq.faulted := by
    dsimp only [disabledAll]
    refine set_galleryTable ?_ fun h ne => ?_
    · simp [here]
    · rw [other (d := ⟨h, c.k⟩) fun same => ne (congrArg Chan.g same)]
  have cal : (if calibrates s c then none else (disabledAll c.k off s).acq.cal) = (disabledAll c.k off' s).acq.cal := by
    unfold calibrates disabledAll
    dsimp only
    cases s.acq.cal with
    | none => rfl
    | some x =>
      dsimp only
      by_cases same : x.chan = c
      · simp [same, here]
      · simp [same, other same]
  simp only [State.setChan, State.setCal, State.setCfg, State.setCheckFault, State.setFaulted]
  rw [cfgs, flags, chans, counts, cal]
  rfl

/-- One channel more is enabled (R11). -/
theorem enableChan_enabledAll (counted : Counted s c.g) (dead : (s.chan c).state = .disabled) :
    (enabledAll off s).enableChan c = (enabledAll off' s).sendAll (stateNotices ⟨c, .disabled, .ok, false, true⟩) := by
  have chan : (enabledAll off s).chan c = s.chan c := by rw [chan_enabledAll, away c.k]; rfl
  have cfg : (enabledAll off s).cfg c = s.cfg c := by rw [cfg_enabledAll, away c.k]; rfl
  have here : off' c = true := by simp [more]
  have other {d : Chan} (ne : d ≠ c) : off' d = off d := by simp [more, ne]
  have count : Counted (enabledAll off s) c.g := by
    have row := chanTable_row away s.acq.chans fun c => { (s.chan c).moved .ok with lastRaw := none, lastCorrected := none }
    exact (counted : s.acq.faulted.get c.g = _).trans (congrArg countFaulted row.symm)
  rw [enableChan_eq count (by rwa [chan]), chan, cfg]
  refine congrArg (State.sendAll · _) ?_
  have cfgs : setChan (enabledAll off s).ret.cfg c { s.cfg c with enabled := true } = (enabledAll off' s).ret.cfg := by
    dsimp only [enabledAll]
    exact setChan_chanTable (by simp [here]) fun d ne => by simp [other ne]
  have flags : setChan (enabledAll off s).ret.checkFault c false = (enabledAll off' s).ret.checkFault := by
    dsimp only [enabledAll]
    exact setChan_chanTable (by simp [here]) fun d ne => by simp [other ne]
  have chans : setChan (enabledAll off s).acq.chans c
      { (s.chan c).moved .ok with lastRaw := none, lastCorrected := none } = (enabledAll off' s).acq.chans := by
    dsimp only [enabledAll]
    exact setChan_chanTable (by simp [here]) fun d ne => by simp [other ne]
  simp only [State.setChan, State.setCfg, State.setCheckFault]
  rw [cfgs, flags, chans]
  rfl

end

/-- Whether a channel is not DISABLED. -/
def State.live (s : State) (c : Chan) : Bool := (s.chan c).state != .disabled

/-- The galleries in turn disable their channels of kind `k` (R11). -/
theorem foldl_disableChan {s : State} (counted : ∀ g, Counted s g) (k : Kind) {l : List Gallery} (distinct : l.Nodup) :
    l.foldl (fun s g => s.disableChan ⟨g, k⟩) s =
      (disabledAll k (fun c => inTurn k l c && s.live c) s).sendAll
        (l.flatMap fun g => if s.live ⟨g, k⟩ then disableNews s ⟨g, k⟩ else []) := by
  have built := foldl_builds (f := fun s g => s.disableChan ⟨g, k⟩)
    (build := fun l => disabledAll k (fun c => inTurn k l c && s.live c) s)
    (news := fun g => if s.live ⟨g, k⟩ then disableNews s ⟨g, k⟩ else []) (fun l g m fresh => ?_) distinct
  · have none : (fun c => inTurn k [] c && s.live c) = fun _ => false := by
      funext c
      simp [inTurn]
    rwa [none, disabledAll_none] at built
  have away (j : Kind) : (inTurn k l ⟨g, j⟩ && s.live ⟨g, j⟩) = false := by rw [inTurn_fresh fresh]; rfl
  cases live : s.live ⟨g, k⟩
  · have still : ((disabledAll k (fun c => inTurn k l c && s.live c) s).chan ⟨g, k⟩).state = .disabled := by
      rw [chan_disabledAll, away k]
      simpa [State.live] using live
    rw [and_inTurn_skip live]
    simp only [Bool.false_eq_true, if_false, List.append_nil]
    exact if_pos still
  · rw [if_pos rfl, ← State.sendAll_sendAll]
    exact disableChan_disabledAll (s := s.sendAll m) (c := ⟨g, k⟩) away (fun d => and_inTurn_append live d) (counted g)
      (by simpa [State.live] using live)

/-- The galleries in turn enable theirs (R11). -/
theorem foldl_enableChan {s : State} (counted : ∀ g, Counted s g) (k : Kind) {l : List Gallery} (distinct : l.Nodup) :
    l.foldl (fun s g => s.enableChan ⟨g, k⟩) s =
      (enabledAll (fun c => inTurn k l c && !s.live c) s).sendAll
        (l.flatMap fun g => if !s.live ⟨g, k⟩ then stateNotices ⟨⟨g, k⟩, .disabled, .ok, false, true⟩ else []) := by
  have built := foldl_builds (f := fun s g => s.enableChan ⟨g, k⟩)
    (build := fun l => enabledAll (fun c => inTurn k l c && !s.live c) s)
    (news := fun g => if !s.live ⟨g, k⟩ then stateNotices ⟨⟨g, k⟩, .disabled, .ok, false, true⟩ else [])
    (fun l g m fresh => ?_) distinct
  · have none : (fun c => inTurn k [] c && !s.live c) = fun _ => false := by
      funext c
      simp [inTurn]
    rwa [none, enabledAll_none] at built
  have away (j : Kind) : (inTurn k l ⟨g, j⟩ && !s.live ⟨g, j⟩) = false := by rw [inTurn_fresh fresh]; rfl
  cases dead : !s.live ⟨g, k⟩
  · have still : ((enabledAll (fun c => inTurn k l c && !s.live c) s).chan ⟨g, k⟩).state ≠ .disabled := by
      rw [chan_enabledAll, away k]
      simpa [State.live] using dead
    rw [and_inTurn_skip dead]
    simp only [Bool.false_eq_true, if_false, List.append_nil]
    exact if_neg still
  · rw [if_pos rfl, ← State.sendAll_sendAll]
    exact enableChan_enabledAll (s := s.sendAll m) (c := ⟨g, k⟩) away (fun d => and_inTurn_append (p := fun c => !s.live c) dead d) (counted g)
      (by simpa [State.live] using dead)

theorem inTurn_filter (q : Req) : inTurn (subKind q) (galleries.filter (addresses q.gallery)) = namesChan q := by
  funext c
  have mem : c.g ∈ galleries := by cases c.g <;> decide
  simp [inTurn, namesChan, mem]

theorem named_ite (q : Req) (g : Gallery) (b : Bool) (l : List Instr) :
    (if addresses q.gallery g then (if b then l else []) else []) =
      if (namesChan q ⟨g, subKind q⟩ && b) = true then l else [] := by
  cases h : addresses q.gallery g <;> simp [namesChan, h]

/-- Settles O27: the channels named are written in turn, each by its own gallery's count and the one context. -/
theorem channelEnableWritten : Obligations.ChannelEnableWritten := by
  intro q s ready inv port i hit off on map disabled enabled
  have counted := inv.counted
  have distinct : (galleries.filter (addresses q.gallery)).Nodup := galleries_nodup.filter _
  have nobody : firstAddressed q.gallery (fun _ => false) = none := by simp [firstAddressed]
  have written := writeChannel_eq ready port i 0x18 neverRefused
    (fun c s => if q.value = 0 then s.disableChan c else s.enableChan c) .ok (if q.value = 0 then 0 else 1) (fun _ => false)
    .ok fun _ => rfl
  rw [nobody] at written
  refine Eq.trans (written : exec (.writeChannelEnable q) s = _) ?_
  refine congrArg _ (ite_congr rfl (fun _ => rfl) fun field => ?_)
  dsimp only
  rw [writeNamed_eq_foldl field]
  by_cases zero : q.value = 0
  · simp only [zero, if_true]
    rw [foldl_disableChan (s := s.take i) counted _ distinct, inTurn_filter, flatMap_filter_eq, State.sendAll_sendAll]
    refine (seal_sendAll_take (r := disabled) rfl i _).trans (congrArg (after s i disabled) ?_)
    refine congrArg (· ++ _) (congrArg (List.flatMap · galleries) (funext fun g => ?_))
    exact named_ite q g (s.live ⟨g, subKind q⟩) _
  · simp only [zero, if_false]
    rw [foldl_enableChan (s := s.take i) counted _ distinct, inTurn_filter, flatMap_filter_eq, State.sendAll_sendAll]
    have dead (c : Chan) : (!s.live c) = ((s.chan c).state == .disabled) := Bool.not_not _
    have same : enabledAll (fun c => namesChan q c && !(s.take i).live c) (s.take i) = enabled.take i := by
      show enabledAll (fun c => namesChan q c && !s.live c) (s.take i) = enabled.take i
      simp only [dead]
      rfl
    rw [same]
    refine (seal_sendAll_take (r := enabled) rfl i _).trans (congrArg (after s i enabled) ?_)
    refine congrArg (· ++ _) (congrArg (List.flatMap · galleries) (funext fun g => ?_))
    refine Eq.trans ?_ (named_ite q g ((s.chan ⟨g, subKind q⟩).state == .disabled) _)
    rw [← dead]
    rfl

end Sys2Proof.Machine
end

section
/-! SUPPORT. What keeps the acquisition unit's channels, counts, flags and calibration context consistent (O14). -/

namespace Sys2Proof.Machine
open Sys2Proof

/-- A channel's enable and check-fault flag agree with its state (R2, R4). -/
def Flagged (s : State) (c : Chan) : Prop :=
  ((s.chan c).state = .disabled ↔ (s.cfg c).enabled = false) ∧ ((s.chan c).state = .fault .check → s.checkFault c = true)

/-- The channels of an acquisition unit that has started are consistent, the calibration context aside (R2, R4, R10). -/
structure ChanCore (s : State) : Prop where
  chans : ∀ c, ChanOk (s.chan c)
  counted : ∀ g, Counted s g
  flags : ∀ c, Flagged s c

/-- The calibration context is on a channel that is OK, with fewer than 16 samples taken (R15, R18). -/
def CalOk (s : State) : Prop := ∀ x, s.acq.cal = some x → x.count < 16 ∧ (s.chan x.chan).state = .ok

theorem ChanInv.core {s : State} (h : ChanInv s) (ready : Ready s .acquisition) : ChanCore s ∧ CalOk s := by
  obtain ⟨chans, counted, context, flags⟩ := h
  exact ⟨⟨chans, counted, flags ready⟩, context⟩

theorem ChanCore.inv {s : State} (h : ChanCore s) (context : CalOk s) : ChanInv s :=
  ⟨h.chans, h.counted, context, fun _ => h.flags⟩

theorem CalOk.of_none {s : State} (h : s.acq.cal = none) : CalOk s := fun x eq => by
  rw [h] at eq
  cases eq

/-! ## Records written -/

theorem ChanCore.sendAll {s : State} (h : ChanCore s) (l : List Instr) : ChanCore (s.sendAll l) :=
  ⟨h.chans, h.counted, h.flags⟩

theorem ChanCore.setCal {s : State} (h : ChanCore s) (x : Option CalContext) : ChanCore (s.setCal x) :=
  ⟨h.chans, h.counted, h.flags⟩

theorem ChanCore.setTracker {s : State} (h : ChanCore s) (c : Chan) (t : Tracker) : ChanCore (s.setTracker c t) :=
  ⟨h.chans, h.counted, h.flags⟩

/-- A record rewritten in its own state. -/
theorem ChanCore.setChan {s : State} (h : ChanCore s) {c : Chan} {r : ChanRec} (ok : ChanOk r)
    (state : r.state = (s.chan c).state) (faulted : isFaulted r = isFaulted (s.chan c)) : ChanCore (s.setChan c r) where
  chans d := by
    rw [State.chan_setChan]
    split
    · exact ok
    · exact h.chans d
  counted g := (h.counted g).setChan faulted
  flags d := by
    have same : ((s.setChan c r).chan d).state = (s.chan d).state := by
      rw [State.chan_setChan]
      split
      next at_ => rw [at_, state]
      next => rfl
    unfold Flagged
    rw [same]
    exact h.flags d

/-- A record rewritten but for its state, counters and saved state. -/
theorem ChanCore.touched {s : State} (h : ChanCore s) {c : Chan} {r : ChanRec}
    (same : r.state = (s.chan c).state ∧ r.railCount = (s.chan c).railCount ∧ r.goodRun = (s.chan c).goodRun ∧
      r.saved = (s.chan c).saved) : ChanCore (s.setChan c r) := by
  obtain ⟨state, rail, good, saved⟩ := same
  refine h.setChan ?_ state ?_
  · unfold ChanOk
    rw [state, rail, good, saved]
    exact h.chans c
  · unfold isFaulted
    rw [state, saved]

/-- A configuration rewritten but for its enable. -/
theorem ChanCore.setCfg {s : State} (h : ChanCore s) {c : Chan} {x : ChanCfg} (same : x.enabled = (s.cfg c).enabled) :
    ChanCore (s.setCfg c x) where
  chans := h.chans
  counted := h.counted
  flags d := by
    have enabled : ((s.setCfg c x).cfg d).enabled = (s.cfg d).enabled := by
      rw [State.cfg_setCfg]
      split
      next at_ => rw [at_, same]
      next => rfl
    unfold Flagged
    rw [enabled]
    exact h.flags d

/-- A channel that enters a state, the others being consistent. -/
theorem chanCore_enterState {s : State} {c : Chan} {r : ChanRec} (chans : ∀ d, d ≠ c → ChanOk (s.chan d))
    (counted : ∀ g, Counted s g) (flags : ∀ d, d ≠ c → Flagged s d) (ok : ChanOk r)
    (enable : r.state = .disabled ↔ (s.cfg c).enabled = false) (recovery uninit : Bool) :
    ChanCore (s.enterState c r recovery uninit) := by
  rw [enterState_eq]
  refine ChanCore.sendAll ⟨fun d => ?_, fun g => ?_, fun d => ?_⟩ _
  · rw [State.chan_setFaulted, State.chan_setCheckFault, State.chan_setChan]
    split
    · exact ok
    next other => exact chans d other
  · show (s.acq.faulted.set c.g _).get g = countFaulted ((Machine.setChan s.acq.chans c r).get g)
    by_cases hg : g = c.g
    · rw [hg, PerGallery.get_set_self, chans_get_setChan]
    · rw [PerGallery.get_set_ne _ _ _ _ hg, Machine.setChan, PerGallery.get_set_ne _ _ _ _ hg]
      exact counted g
  · unfold Flagged
    rw [State.chan_setFaulted, State.chan_setCheckFault, State.chan_setChan, State.checkFault_setFaulted,
      State.checkFault_setCheckFault]
    by_cases at_ : d = c
    · rw [if_pos at_, if_pos at_, at_]
      exact ⟨enable, fun state => by rw [state]; rfl⟩
    · rw [if_neg at_, if_neg at_]
      exact flags d at_

theorem ChanCore.enterState {s : State} (h : ChanCore s) {c : Chan} {r : ChanRec} (ok : ChanOk r)
    (enable : r.state = .disabled ↔ (s.cfg c).enabled = false) (recovery uninit : Bool) :
    ChanCore (s.enterState c r recovery uninit) :=
  chanCore_enterState (fun d _ => h.chans d) h.counted (fun d _ => h.flags d) ok enable recovery uninit

/-- A channel that is not DISABLED enters a state other than DISABLED. -/
theorem ChanCore.enterLive {s : State} (h : ChanCore s) {c : Chan} {r : ChanRec} (ok : ChanOk r)
    (live : (s.chan c).state ≠ .disabled) {st : ChanState} (enters : r.state = st) (stays : st ≠ .disabled)
    (recovery uninit : Bool) :
    ChanCore (s.enterState c r recovery uninit) :=
  h.enterState ok ⟨fun off => absurd (enters.symm.trans off) stays, fun off => absurd ((h.flags c).1.2 off) live⟩ recovery uninit

theorem chanOk_moved (r : ChanRec) {st : ChanState} (other : st ≠ .checking) : ChanOk (r.moved st) :=
  ⟨Nat.zero_le _, Nat.zero_le _, fun _ => rfl, fun _ => rfl, nofun, fun state => absurd state other⟩

theorem ChanCore.endCal {s : State} (h : ChanCore s) (c : Chan) (res : CalResult) (new : Option Int) :
    ChanCore (s.endCal c res new) := by
  rw [endCal_eq]
  refine ChanCore.sendAll (ChanCore.setCal (h.touched ?_) _) _
  exact ⟨rfl, rfl, rfl, rfl⟩

theorem ChanCore.abortCal {s : State} (h : ChanCore s) (hit : Chan → Bool) : ChanCore (s.abortCal hit) := by
  unfold State.abortCal
  split
  · split
    · exact h.endCal _ _ _
    · exact h
  · exact h

theorem ChanCore.applyCal {s : State} (h : ChanCore s) (c : Chan) {cfg : ChanCfg} (same : cfg.enabled = (s.cfg c).enabled)
    (v : Int) (b : Bool) : ChanCore (s.applyCal c cfg v b) := by
  rw [applyCal_eq]
  refine ChanCore.sendAll (ChanCore.setCfg (ChanCore.setCal (h.touched ?_) _) same) _
  exact ⟨rfl, rfl, rfl, rfl⟩

/-! ## Sample arrivals -/

theorem ChanCore.passOn {s : State} (h : ChanCore s) (c : Chan) (r : Nat) : ChanCore (s.passOn c r) := by
  rw [passOn_eq]
  refine ChanCore.sendAll (h.touched ?_) _
  exact ⟨rfl, rfl, rfl, rfl⟩

theorem ChanCore.chanSample {s : State} (h : ChanCore s) (c : Chan) (r : Nat) : ChanCore (s.chanSample c r) := by
  obtain ⟨few, run, rail, good, saved⟩ := h.chans c
  have toOk (r : ChanRec) (live : (s.chan c).state ≠ .disabled) (a b : Bool) : ChanCore (s.enterState c (r.moved .ok) a b) :=
    h.enterLive (chanOk_moved r (st := .ok) nofun) live (st := .ok) rfl nofun a b
  unfold State.chanSample
  dsimp only
  split
  next state =>
    have live : (s.chan c).state ≠ .disabled := by simp [state]
    split
    · refine h.enterLive ?_ live (st := .suspect) rfl nofun _ _
      exact ⟨Nat.le_succ 1, Nat.zero_le _, fun other => absurd rfl other, fun _ => rfl, nofun, nofun⟩
    · refine ChanCore.passOn (h.setChan ?_ ?_ ?_) c r
      · exact ⟨Nat.zero_le _, run, fun _ => rfl, good, saved⟩
      · rfl
      · rfl
  next state =>
    have live : (s.chan c).state ≠ .disabled := by simp [state]
    split
    · split
      next small =>
        refine h.setChan ?_ ?_ ?_
        · exact ⟨Nat.le_of_lt_succ small, run, fun other => absurd state other, good, saved⟩
        · rfl
        · rfl
      next =>
        rw [attend_eq_sendAll]
        exact (h.enterLive (chanOk_moved _ (st := .fault .rail) nofun) live (st := .fault .rail) rfl nofun _ _).sendAll _
    · exact (toOk _ live _ _).passOn c r
  next state =>
    have live : (s.chan c).state ≠ .disabled := by simp [state]
    split
    · refine h.setChan ?_ ?_ ?_
      · exact ⟨few, Nat.zero_le _, rail, fun _ => rfl, saved⟩
      · rfl
      · rfl
    · split
      next small =>
        refine h.setChan ?_ ?_ ?_
        · exact ⟨few, Nat.le_of_lt_succ small, rail, fun other => absurd state other, saved⟩
        · rfl
        · rfl
      next => exact (toOk _ live _ _).passOn c r
  next => exact h

theorem ChanCore.completeSpan {s : State} (h : ChanCore s) (x : CalContext) : ChanCore (s.completeSpan x) := by
  rw [completeSpan_eq]
  dsimp only
  split
  · exact h.endCal _ _ _
  · refine h.applyCal x.chan ?_ _ _
    rfl

theorem ChanCore.completeZero {s : State} (h : ChanCore s) (x : CalContext) : ChanCore (s.completeZero x) := by
  refine h.applyCal x.chan ?_ _ _
  rfl

theorem ChanCore.calSample {s : State} (h : ChanCore s) (c : Chan) (r : Nat) : ChanCore (s.calSample c r) := by
  unfold State.calSample
  split
  · exact h
  next x cal =>
    split
    · exact h
    split
    · exact h.endCal _ _ _
    dsimp only
    split
    · exact h.setCal _
    · cases x.op
      · exact h.completeZero _
      · exact h.completeSpan _

/-! ## The calibration context -/

theorem cal_enterState (s : State) (c : Chan) (r : ChanRec) (a b : Bool) : (s.enterState c r a b).acq.cal = s.acq.cal := by
  rw [enterState_eq]
  rfl

theorem chan_enterState (s : State) (c : Chan) (r : ChanRec) (a b : Bool) (d : Chan) :
    (s.enterState c r a b).chan d = if d = c then r else s.chan d := by
  rw [enterState_eq]
  exact State.chan_setChan s c d r

/-- A state with the same context and the same record of its channel. -/
theorem CalOk.congr {s t : State} (h : CalOk s) (cal : t.acq.cal = s.acq.cal)
    (chan : ∀ x, s.acq.cal = some x → (t.chan x.chan).state = (s.chan x.chan).state) : CalOk t := fun x eq => by
  rw [cal] at eq
  rw [chan x eq]
  exact h x eq

/-- A channel that is not under calibration enters a state. -/
theorem CalOk.enterState {s : State} (h : CalOk s) {c : Chan} (away : ∀ x, s.acq.cal = some x → x.chan ≠ c) (r : ChanRec)
    (a b : Bool) : CalOk (s.enterState c r a b) :=
  h.congr (cal_enterState s c r a b) fun x eq => by rw [chan_enterState, if_neg (away x eq)]

/-- A channel that is not OK is not under calibration (R14). -/
theorem CalOk.away {s : State} (h : CalOk s) {c : Chan} (other : (s.chan c).state ≠ .ok) :
    ∀ x, s.acq.cal = some x → x.chan ≠ c := by
  rintro x cal rfl
  exact other (h x cal).2

theorem cal_abortCal (s : State) (hit : Chan → Bool) : (s.abortCal hit).acq.cal = none ∨
    (s.abortCal hit = s ∧ ∀ x, s.acq.cal = some x → hit x.chan = false) := by
  rw [abortCal_eq]
  cases cal : s.acq.cal with
  | none => exact .inr ⟨rfl, nofun⟩
  | some x =>
    dsimp only
    cases named : hit x.chan
    · exact .inr ⟨rfl, fun y eq => by cases eq; exact named⟩
    · exact .inl rfl

theorem CalOk.abortCal {s : State} (h : CalOk s) (hit : Chan → Bool) : CalOk (s.abortCal hit) := by
  rcases cal_abortCal s hit with none | ⟨same, -⟩
  · exact .of_none none
  · rwa [same]

theorem abortCal_away (s : State) (c : Chan) :
    ∀ x, (s.abortCal fun d => d = c).acq.cal = some x → x.chan ≠ c := by
  intro x cal
  rcases cal_abortCal s fun d => d = c with none | ⟨same, other⟩
  · rw [none] at cal
    cases cal
  · rw [same] at cal
    simpa using other x cal

/-- What the channel's state machine makes of a sample leaves the context and the other channels. -/
theorem chanSample_frame (s : State) (c : Chan) (r : Nat) :
    (s.chanSample c r).acq.cal = s.acq.cal ∧ ∀ d, d ≠ c → (s.chanSample c r).chan d = s.chan d := by
  have entered (s : State) (r : ChanRec) (a b : Bool) :
      (s.enterState c r a b).acq.cal = s.acq.cal ∧ ∀ d, d ≠ c → (s.enterState c r a b).chan d = s.chan d :=
    ⟨cal_enterState s c r a b, fun d ne => by rw [chan_enterState, if_neg ne]⟩
  have wrote (s : State) (r : ChanRec) : (s.setChan c r).acq.cal = s.acq.cal ∧ ∀ d, d ≠ c → (s.setChan c r).chan d = s.chan d :=
    ⟨rfl, fun d ne => by rw [State.chan_setChan, if_neg ne]⟩
  have passed (u : State) (h : u.acq.cal = s.acq.cal ∧ ∀ d, d ≠ c → u.chan d = s.chan d) :
      (u.passOn c r).acq.cal = s.acq.cal ∧ ∀ d, d ≠ c → (u.passOn c r).chan d = s.chan d := by
    obtain ⟨cal, chan⟩ := h
    refine ⟨cal, fun d ne => Eq.trans ?_ (chan d ne)⟩
    rw [passOn_eq, State.chan_sendAll, State.chan_setChan, if_neg ne]
  unfold State.chanSample
  dsimp only
  split
  · split
    · exact entered _ _ _ _
    · exact passed _ (wrote _ _)
  · split
    · split
      · exact wrote _ _
      · rw [attend_eq_sendAll]
        exact entered _ _ _ _
    · exact passed _ (entered _ _ _ _)
  · split
    · exact wrote _ _
    · split
      · exact wrote _ _
      · exact passed _ (entered _ _ _ _)
  · exact ⟨rfl, fun _ _ => rfl⟩

/-- The channels of a started unit and its context are consistent. -/
structure ChanRun (s : State) : Prop where
  core : ChanCore s
  context : CalOk s

theorem ChanInv.run {s : State} (h : ChanInv s) (ready : Ready s .acquisition) : ChanRun s :=
  ⟨(h.core ready).1, (h.core ready).2⟩

theorem ChanRun.inv {s : State} (h : ChanRun s) : ChanInv s := h.core.inv h.context

/-- A sample arrival keeps the channels and the context consistent (R1, R5, R6, R15, R18). -/
theorem ChanRun.arrive {s : State} (h : ChanRun s) (c : Chan) (r : Nat) : ChanRun (s.arrive c r) := by
  unfold State.arrive
  split
  · exact h
  refine ⟨(h.core.chanSample c r).calSample c r, ?_⟩
  obtain ⟨cal, others⟩ := chanSample_frame s c r
  by_cases on : ∃ x, s.acq.cal = some x ∧ x.chan = c
  · obtain ⟨x, eq, rfl⟩ := on
    obtain ⟨few, ok⟩ := h.context x eq
    have still := cal.trans eq
    cases rail : isRail r
    · by_cases last : x.count = 15
      · exact .of_none (calSample_sixteenth still last rail)
      · rw [calSample_adds still (by omega) rail, chanSample_good ok ((h.core.chans x.chan).rail_zero (by simp [ok])) rail]
        intro y made
        cases made
        refine ⟨by dsimp only; omega, ?_⟩
        rw [State.chan_setCal, State.chan_sampled]
        exact ok
    · rw [calSample_rail still rail]
      exact .of_none (cal_endCal _ _ _ _)
  · have away : ∀ x, s.acq.cal = some x → x.chan ≠ c := fun x eq same => on ⟨x, eq, same⟩
    rw [calSample_other (cal ▸ away)]
    exact h.context.congr cal fun x eq => by rw [others _ (away x eq)]

/-! ## Notices and requests -/

theorem ChanRun.abortCal {s : State} (h : ChanRun s) (hit : Chan → Bool) : ChanRun (s.abortCal hit) :=
  ⟨h.core.abortCal hit, h.context.abortCal hit⟩

theorem ChanRun.sendAll {s : State} (h : ChanRun s) (l : List Instr) : ChanRun (s.sendAll l) :=
  ⟨h.core.sendAll l, h.context⟩

theorem ChanRun.setCfg {s : State} (h : ChanRun s) {c : Chan} {x : ChanCfg} (same : x.enabled = (s.cfg c).enabled) :
    ChanRun (s.setCfg c x) := ⟨h.core.setCfg same, h.context⟩

/-- A channel that is not under calibration goes from one live state to another. -/
theorem ChanRun.enterLive {s : State} (h : ChanRun s) {c : Chan} (away : ∀ x, s.acq.cal = some x → x.chan ≠ c)
    {r : ChanRec} (ok : ChanOk r) (live : (s.chan c).state ≠ .disabled) {st : ChanState} (enters : r.state = st)
    (stays : st ≠ .disabled) (a b : Bool) : ChanRun (s.enterState c r a b) :=
  ⟨h.core.enterLive ok live enters stays a b, h.context.enterState away r a b⟩

/-- A CHECKING channel leaves CHECKING. -/
theorem ChanRun.leaveCheck {s : State} (h : ChanRun s) {c : Chan} (state : (s.chan c).state = .checking) {st : ChanState}
    (check : st ≠ .checking) (off : st ≠ .disabled) (a : Bool) : ChanRun (s.enterState c ((s.chan c).moved st) a false) :=
  h.enterLive (h.context.away (by simp [state])) (chanOk_moved _ check) (by simp [state]) (st := st) rfl off a false

/-- A channel that is not under calibration enters a state with its configuration written to match. -/
theorem ChanRun.enterSet {s : State} (h : ChanRun s) {c : Chan} (away : ∀ x, s.acq.cal = some x → x.chan ≠ c) {x : ChanCfg}
    {r : ChanRec} (ok : ChanOk r) (enable : r.state = .disabled ↔ x.enabled = false) (a b : Bool) :
    ChanRun ((s.setCfg c x).enterState c r a b) := by
  have context : CalOk (s.setCfg c x) := h.context
  have counted : ∀ g, Counted (s.setCfg c x) g := h.core.counted
  refine ⟨chanCore_enterState (s := s.setCfg c x) (fun d _ => h.core.chans d) counted (fun d other => ?_) ok ?_ a b,
    context.enterState away r a b⟩
  · unfold Flagged
    rw [State.cfg_setCfg, if_neg other]
    exact h.core.flags d
  · rw [State.cfg_setCfg, if_pos rfl]
    exact enable

theorem ChanRun.disableChan {s : State} (h : ChanRun s) (c : Chan) : ChanRun (s.disableChan c) := by
  unfold State.disableChan
  split
  · exact h
  · refine ChanRun.enterSet (h.abortCal fun d => d = c) (abortCal_away s c) ?_ ?_ _ _
    · exact chanOk_moved _ (st := .disabled) nofun
    · exact ⟨fun _ => rfl, fun _ => rfl⟩

theorem ChanRun.enableChan {s : State} (h : ChanRun s) (c : Chan) : ChanRun (s.enableChan c) := by
  unfold State.enableChan
  split
  next off =>
    refine h.enterSet (h.context.away (by simp [off])) ?_ ?_ _ _
    · exact chanOk_moved (s.chan c) (st := .ok) nofun
    · exact ⟨fun on => absurd (on : ChanState.ok = .disabled) nofun, fun on => absurd (on : true = false) nofun⟩
  · exact h

theorem ChanRun.setLimits {s : State} (h : ChanRun s) (c : Chan) (fast slow : Nat) : ChanRun (s.setLimits c fast slow) :=
  have run : ChanRun (s.setCfg c { s.cfg c with fast := fast, slow := slow }) := h.setCfg rfl
  ⟨run.core.setTracker c _, run.context⟩

theorem chanInv_own (s : State) : ChanInv s ↔ ChanInv (s.own .acquisition) := by
  unfold ChanInv
  rw [ready_own]
  rfl

/-- What the write of one channel keeps, a WRITE CHANNEL keeps. -/
theorem writeChannel_keeps {i : Instr} {code : Nat} {q : Req} {s t : State} {judge : State → Chan → Option Result}
    {apply : Chan → State → State} {r : Result} {d : Nat} (one : ∀ c s, ChanRun s → ChanRun (apply c s)) (hs : ChanInv s)
    (h : writeChannel i code q s judge apply r d = .next t) : ChanInv t := by
  refine request_keeps chanInv_own hs (fun s ready hs => ?_) h
  split
  · exact hs
  · split
    · exact hs
    · exact (one _ s (hs.run ready)).inv
  · unfold judgeAll
    split
    · exact hs
    · refine ChanRun.inv ?_
      dsimp only
      refine forGalleries_keeps (P := ChanRun) (fun g s hs => ?_) (hs.run ready)
      exact one ⟨g, subKind q⟩ s hs

theorem calibrate_keeps {i : Instr} {op : CalOp} {q : Req} {s t : State} (hs : ChanInv s)
    (h : calibrate i op q s = .next t) : ChanInv t := by
  refine request_keeps chanInv_own hs (fun s ready hs => ?_) h
  have run := hs.run ready
  dsimp only
  split
  next g _ =>
    split
    · exact hs
    split
    · exact hs
    next idle busy =>
      have ok := not_not.1 busy
      refine ChanRun.inv ⟨?_, ?_⟩
      · refine ChanCore.touched (run.core.setCal _) ?_
        exact ⟨rfl, rfl, rfl, rfl⟩
      · intro x eq
        cases eq
        refine ⟨Nat.succ_pos 15, ?_⟩
        rw [State.chan_setChan, if_pos rfl]
        exact ok
  · exact hs

theorem arrival_keeps {c : Chan} {r : Half} {s t : State} (hs : ChanInv s) (h : arrival c r s = .next t) : ChanInv t := by
  refine deliver_keeps chanInv_own hs (fun s ready hs => ?_) h
  exact ((hs.run ready).arrive c r.toNat).inv

/-- What the acquisition unit does with a command keeps its records consistent. -/
theorem chanInv_taken {c : Instr} {s t : State} (hb : blockOf c = some .acquisition) (hs : ChanInv s)
    (h : exec c s = .next t) : ChanInv t := by
  cases c <;> cases hb <;> dsimp only [exec] at h
  case sampleArrival.refl => exact arrival_keeps hs h
  case railFault.refl => exact onlyWhen_keeps hs (arrival_keeps hs) h
  case railRecovery.refl => exact onlyWhen_keeps hs (arrival_keeps hs) h
  case spanCompletion.refl => exact onlyWhen_keeps hs (arrival_keeps hs) h
  case zeroCompletion.refl => exact onlyWhen_keeps hs (arrival_keeps hs) h
  case galleryStartNotice.refl g =>
    refine deliver_keeps chanInv_own hs (fun s ready hs => ?_) h
    exact ((hs.run ready).abortCal _).inv
  case channelEnterNotice.refl c =>
    refine deliver_keeps chanInv_own hs (fun s ready hs => ?_) h
    have run := hs.run ready
    dsimp only
    split
    next sv saved =>
      have live : ((s.abortCal fun d => d = c).chan c).state ≠ .disabled := by
        rw [chan_abortCal]
        intro off
        have off : (s.chan c).state = .disabled := off
        rw [off] at saved
        cases saved
      refine ((run.abortCal _).enterLive (abortCal_away s c) ?_ live (st := .checking) rfl nofun _ _).inv
      exact ⟨Nat.zero_le _, Nat.zero_le _, fun _ => rfl, fun _ => rfl, fun _ => rfl, fun _ => rfl⟩
    · exact hs
  case verdictNotice.refl c v =>
    refine deliver_keeps chanInv_own hs (fun s ready hs => ?_) h
    have run := hs.run ready
    dsimp only
    split
    next state =>
      split
      · rw [attend_eq_sendAll]
        exact ((run.leaveCheck state (st := .fault .check) nofun nofun false).sendAll _).inv
      · exact (run.leaveCheck state (st := .ok) nofun nofun _).inv
    · exact hs
  case channelAbortNotice.refl c =>
    refine deliver_keeps chanInv_own hs (fun s ready hs => ?_) h
    have run := hs.run ready
    dsimp only
    split
    next state =>
      refine (run.leaveCheck state ?_ ?_ false).inv
      · split
        next sv _ => cases sv <;> exact nofun
        next => exact nofun
      · split
        next sv _ => cases sv <;> exact nofun
        next => exact nofun
    · exact hs
  case writeChannelEnable.refl q =>
    unfold execWriteChannelEnable at h
    refine writeChannel_keeps (fun c s hs => ?_) hs h
    split
    · exact hs.disableChan c
    · exact hs.enableChan c
  case writeChannelGain.refl =>
    unfold execWriteChannelGain at h
    refine writeChannel_keeps (fun c s hs => ?_) hs h
    exact hs.setCfg rfl
  case writeChannelOffset.refl =>
    unfold execWriteChannelOffset at h
    refine writeChannel_keeps (fun c s hs => ?_) hs h
    exact hs.setCfg rfl
  case writeChannelCorrectionLimit.refl =>
    unfold execWriteChannelCorrectionLimit at h
    refine writeChannel_keeps (fun c s hs => ?_) hs h
    exact hs.setCfg rfl
  case writeChannelDeviationUnit.refl =>
    unfold execWriteChannelDeviationUnit at h
    refine writeChannel_keeps (fun c s hs => ?_) hs h
    exact hs.setCfg rfl
  case writeChannelFilterMode.refl =>
    unfold execWriteChannelFilterMode at h
    refine writeChannel_keeps (fun c s hs => ?_) hs h
    exact hs.setCfg rfl
  case writeChannelHold.refl =>
    unfold execWriteChannelHold at h
    refine writeChannel_keeps (fun c s hs => ?_) hs h
    exact hs.setCfg rfl
  case writeChannelFastLimit.refl =>
    unfold execWriteChannelFastLimit at h
    refine writeChannel_keeps (fun c s hs => ?_) hs h
    exact hs.setLimits c _ _
  case writeChannelSlowLimit.refl =>
    unfold execWriteChannelSlowLimit at h
    refine writeChannel_keeps (fun c s hs => ?_) hs h
    exact hs.setLimits c _ _
  case calibrateZero.refl => exact calibrate_keeps hs h
  case calibrateSpan.refl => exact calibrate_keeps hs h

/-! ## Starts -/

theorem acq_started (s : State) (b : Block) :
    (s.started b).acq = s.acq ∧ (s.started b).ret.cfg = s.ret.cfg ∧ (s.started b).ret.checkFault = s.ret.checkFault := by
  unfold State.started
  dsimp only
  split <;> exact ⟨rfl, rfl, rfl⟩

theorem acq_starting (s : State) (b : Block) :
    (s.starting b).acq = s.acq ∧ (s.starting b).ret.cfg = s.ret.cfg ∧ (s.starting b).ret.checkFault = s.ret.checkFault := by
  unfold State.starting
  split <;> exact ⟨rfl, rfl, rfl⟩

theorem ChanRun.congr {s t : State} (h : ChanRun s) (same : t.acq = s.acq ∧ t.ret.cfg = s.ret.cfg ∧
    t.ret.checkFault = s.ret.checkFault) : ChanRun t := by
  obtain ⟨acq, cfg, flags⟩ := same
  refine ⟨⟨fun c => ?_, fun g => ?_, fun c => ?_⟩, fun x eq => ?_⟩
  · rw [State.chan, acq]
    exact h.core.chans c
  · rw [Counted, acq]
    exact h.core.counted g
  · rw [Flagged, State.chan, State.cfg, State.checkFault, acq, cfg, flags]
    exact h.core.flags c
  · rw [State.chan, acq]
    rw [acq] at eq
    exact h.context x eq

/-- A channel's start agrees with its enable and its check-fault flag (R20, R21). -/
theorem startState_flags (s : State) (c : Chan) :
    (s.startState c = .disabled ↔ (s.cfg c).enabled = false) ∧ (s.startState c = .fault .check → s.checkFault c = true) := by
  unfold State.startState
  cases (s.cfg c).enabled <;> cases s.checkFault c <;> decide

theorem isFaulted_start (s : State) (c : Chan) :
    isFaulted (.start (s.startState c)) = decide (s.startState c = .fault .check) := by
  unfold State.startState
  cases (s.cfg c).enabled <;> cases s.checkFault c <;> rfl

/-- The acquisition unit's start puts its records in order (R20, R21). -/
theorem chanRun_startAcquisition (s : State) (i : StartInfo) : ChanRun (s.startAcquisition i) := by
  have fresh (s : State) : ChanRun { s with
      acq := ⟨.ofFn fun g => .ofFn fun k => .start (s.startState ⟨g, k⟩), none, .ofFn s.startFaulted⟩ } := by
    have chan (c : Chan) : getChan (PerGallery.ofFn fun g => PerKind.ofFn fun k => ChanRec.start (s.startState ⟨g, k⟩)) c =
        .start (s.startState c) := getChan_chanTable (fun c => ChanRec.start (s.startState c)) c
    have live (c : Chan) : s.startState c ≠ .checking := by
      unfold State.startState
      split
      · exact nofun
      · split <;> exact nofun
    refine ⟨⟨fun c => ?_, fun g => ?_, fun c => ?_⟩, nofun⟩
    · rw [State.chan, chan]
      exact ⟨Nat.zero_le _, Nat.zero_le _, fun _ => rfl, fun _ => rfl, nofun, fun state => absurd state (live c)⟩
    · show (PerGallery.ofFn s.startFaulted).get g = countFaulted ((PerGallery.ofFn _).get g)
      rw [PerGallery.get_ofFn, PerGallery.get_ofFn]
      simp only [State.startFaulted, countFaulted, PerKind.ofFn, isFaulted_start, kinds]
      rw [← List.countP_eq_length_filter]
      simp only [List.countP_cons, List.countP_nil]
      cases decide (s.startState ⟨g, .lux⟩ = .fault .check) <;> cases decide (s.startState ⟨g, .uv⟩ = .fault .check) <;>
        cases decide (s.startState ⟨g, .rh⟩ = .fault .check) <;> cases decide (s.startState ⟨g, .temp⟩ = .fault .check) <;> rfl
    · rw [Flagged, State.chan, chan]
      exact startState_flags s c
  unfold State.startAcquisition
  cases i.kind with
  | cold => exact fresh _
  | warm => exact fresh _

/-- The notices of a start leave everything but what is in flight. -/
def SentOnly (s t : State) : Prop := t = { s with inFlight := t.inFlight }

theorem SentOnly.send {s t : State} (h : SentOnly s t) (c : Instr) : SentOnly s (t.send c) := by
  rw [SentOnly, h]
  rfl

theorem SentOnly.startUpdate {s t : State} (h : SentOnly s t) (c : Chan) : SentOnly s (t.startUpdate c) := by
  unfold State.startUpdate State.sendTracked
  dsimp only
  split
  · exact ((h.send _).send _).send _
  · exact (h.send _).send _
  · exact (h.send _).send _
  · exact (h.send _).send _

theorem SentOnly.chanInv {s t : State} (h : SentOnly s t) (hs : ChanInv s) : ChanInv t := by
  obtain ⟨chans, counted, context, flags⟩ := hs
  rw [h]
  exact ⟨chans, counted, context, flags⟩

/-- The tracked updates of a start. -/
def startUpdates (g : Gallery) (s : State) : State := kinds.foldl (fun s k => s.startUpdate ⟨g, k⟩) s

theorem SentOnly.startUpdates {s t : State} (h : SentOnly s t) (g : Gallery) : SentOnly s (startUpdates g t) :=
  (((h.startUpdate ⟨g, .lux⟩).startUpdate ⟨g, .uv⟩).startUpdate ⟨g, .rh⟩).startUpdate ⟨g, .temp⟩

theorem sentOnly_startUpdates (s : State) : SentOnly s (forGalleries startUpdates s) :=
  forGalleries_keeps (fun g _ h => h.startUpdates g) rfl

/-- The filter bank's start writes the filter fields of the configuration alone, the trackers aside (R36). -/
theorem ChanInv.startFilter {s : State} (h : ChanInv s) (i : StartInfo) : ChanInv (s.startFilter i) := by
  obtain ⟨chans, counted, context, flags⟩ := h
  have sent (u : State) (hu : ChanInv u) : ChanInv (forGalleries startUpdates u) := (sentOnly_startUpdates u).chanInv hu
  have enabled (c : Chan) : getChan (PerGallery.ofFn fun g => PerKind.ofFn fun k => (s.cfg ⟨g, k⟩).defaultFilter k) c =
      (s.cfg c).defaultFilter c.k := getChan_chanTable (fun c => (s.cfg c).defaultFilter c.k) c
  unfold State.startFilter
  cases i.kind with
  | warm => exact sent _ ⟨chans, counted, context, flags⟩
  | cold =>
    refine sent _ ⟨chans, counted, context, fun ready c => ?_⟩
    rw [State.cfg, enabled]
    exact flags ready c

/-- Settles O14: what a channel does keeps its gallery's count and the context, and no other block touches them. -/
theorem channelsKept : Obligations.ChannelsKept := by
  intro s t hs h
  refine step_keeps_own (o := .acquisition) (by simp) (by simp) chanInv_own (fun hb _ hs h => chanInv_taken hb hs h)
    (fun e => by cases e) (fun e => by cases e) (fun e => by cases e) (fun {s} b i e running hs => ?starts)
    (fun {s} last off hs => ?_) (fun {s} off hs => ?_) (fun {s} hs => ?_) (fun {s} hs => ?_) hs h
  case starts =>
    by_cases filter : b = .filter
    · subst filter
      have begun : ChanInv (s.starting .filter) := by
        rwa [chanInv_own, own_starting (by simp), ← chanInv_own]
      rw [chanInv_own, own_started (by simp) (by simp), ← chanInv_own]
      exact begun.startFilter i
    · have same : b = .acquisition := by cases b <;> simp_all [startOwner]
      subst same
      exact ((chanRun_startAcquisition _ i).congr (acq_started _ _)).inv
  · obtain ⟨chans, counted, context, -⟩ := hs
    exact ⟨chans, counted, context, fun ready => absurd ready (not_ready_beginStart _ _ _ _)⟩
  · obtain ⟨chans, counted, context, -⟩ := hs
    exact ⟨chans, counted, context, fun ready => absurd ready (not_ready_beginStart _ _ _ _)⟩
  · obtain ⟨chans, counted, context, -⟩ := chanInv_reset
    exact ⟨chans, counted, context, fun ready => nomatch ready.1⟩
  · obtain ⟨chans, counted, context, -⟩ := chanInv_reset
    exact ⟨chans, counted, context, fun ready => nomatch ready.1⟩

end Sys2Proof.Machine
end

section
/-! SUPPORT. The time base: what an advance and a clock write make of the clock and send, and the ranges of the clock and the
check code through every step (O15, O31, O32). -/

namespace Sys2Proof.Machine
open Sys2Proof

/-- A request that a ready block takes, known by the records its action leaves, the notices it sends and its answer. -/
theorem request_sends {b : Block} {q : Req} {s t : State} {i : Instr} {code d : Nat} {permitted : Port → Bool}
    {act : State → Taken} {x : Result} {l : List Instr} (ready : Ready s b) (allowed : permitted q.port = true)
    (same : t.inFlight = s.inFlight) (acts : act (s.take i) = ((t.take i).sendAll l, x, d)) :
    request b i code permitted q s act = .next (after s i t (l ++ reply q code x d)) := by
  rw [request_ready ready i code allowed, acts]
  refine congrArg _ (Eq.trans ?_ (seal_sendAll_take same i _))
  rw [← State.sendAll_sendAll]
  rfl

/-! ## Hour marks -/

/-- What an hour mark sends (R39). -/
def hourNews (s : State) (m : HourMark) : List Instr :=
  [.hourMarkAtLight m, .hourMarkAtEnvelope m] ++ (if m.dayFlag then [.dayMarkAtHistory m] else []) ++
    attention s .hourMark none

/-- The clock once an hour mark is issued (R39). -/
def Clock.marked (c : Clock) (m : HourMark) : Clock :=
  { c with lastMarkDay := m.beginning.day, lastMarkHour := m.beginning.hour }

theorem sendHourMark_eq (s : State) (m : HourMark) :
    s.sendHourMark m = s.sendAll ([.hourMarkAtLight m, .hourMarkAtEnvelope m] ++
      (if m.dayFlag then [.dayMarkAtHistory m] else [])) := by
  unfold State.sendHourMark
  cases m.dayFlag <;> simp [send_eq_sendAll]

theorem issueHourMark_eq (s : State) (m : HourMark) :
    s.issueHourMark m = (s.setClock (s.clock.marked m)).sendAll (hourNews s m) := by
  unfold State.issueHourMark
  dsimp only
  rw [attend_eq_sendAll, sendHourMark_eq]
  exact State.sendAll_sendAll (s.setClock (s.clock.marked m)) _ (attention s .hourMark none)

/-! ## The advance -/

/-- What an advance sends as second marks (R38). -/
def tickNews (t : SecondStamp) : List Instr :=
  [.secondMarkAtLight t, .secondMarkAtDarkening t, .secondMarkAtPort .climate t, .secondMarkAtPort .lighting t,
    .secondMarkAtPort .conservation t, .secondMarkAtSequencer t]

theorem sendSecondMarks_eq (s : State) : s.sendSecondMarks = s.sendAll (tickNews (secondStamp s.clock)) := by
  simp only [State.sendSecondMarks, send_eq_sendAll, State.sendAll_sendAll]
  rfl

/-- A tick of a clock that runs (R38, R39). -/
theorem advance_eq_sent {s : State} (runs : s.clockRuns = true) :
    s.advance =
      if s.startComplete then
        if atHour s.clock.advance then
          (s.setClock (s.clock.advance.marked (naturalMark s.clock s.clock.advance))).sendAll
            (tickNews (secondStamp s.clock.advance) ++ hourNews s (naturalMark s.clock s.clock.advance))
        else (s.setClock s.clock.advance).sendAll (tickNews (secondStamp s.clock.advance))
      else s.setClock s.clock.advance := by
  unfold State.advance
  rw [if_pos runs]
  dsimp only
  refine ite_congr rfl (fun _ => ?_) fun _ => rfl
  rw [sendSecondMarks_eq]
  refine ite_congr rfl (fun _ => ?_) fun _ => rfl
  rw [issueHourMark_eq, ← State.sendAll_sendAll]
  rfl

theorem clock_advance_eq (c : Clock) :
    c.advance = if c.second < 59 then { c with second := c.second + 1 }
      else if c.minute < 1439 then { c with second := 0, minute := c.minute + 1 }
      else { c with second := 0, minute := 0, day := (c.day + 1) % 65536, weekday := (c.weekday + 1) % 7 } := by
  unfold Clock.advance
  refine ite_congr (propext (by omega)) (fun _ => rfl) fun _ => ?_
  exact ite_congr (propext (by omega)) (fun _ => rfl) fun _ => rfl

/-- Settles O31: the clock goes on first; then the second marks, and the hour mark of an hour that ended. -/
theorem clockAdvances : Obligations.ClockAdvances := by
  intro s supplied c n t seconds hour m marks marked left
  have runs : s.clockRuns = true := by
    unfold State.clockRuns
    rcases supplied with on | on <;> simp [on]
  have next : s.clock.advance = n := clock_advance_eq c
  have ticks : exec .clockAdvance s = .next s.advance.seal := by
    show tick s = _
    unfold tick
    rw [if_pos runs]
  refine ⟨?_, ?_⟩
  · rw [ticks, advance_eq_sent runs, next]
    refine congrArg _ ?_
    by_cases complete : s.startComplete = true
    · rw [if_pos complete, if_pos complete]
      by_cases ends : atHour n = true
      · rw [if_pos ends, if_pos (show hour = true from ends)]
        rfl
      · rw [if_neg ends, if_neg (show ¬hour = true from ends)]
        rfl
    · rw [if_neg complete, if_neg complete]
      exact congrArg State.seal (State.sendAll_nil (s.setClock n)).symm
  · show onlyWhen (endsHour s) s (tick s) = _
    unfold onlyWhen endsHour
    rw [next]
    rfl

/-! ## Clock writes -/

/-- The clock a SET TIME writes (R42). -/
def Clock.withTime (c : Clock) (v : Nat) : Clock :=
  { c with minute := v, second := 0, timeReceived := true, isSet := c.isSet || c.dateReceived }

/-- A SET TIME that is taken (R42, R43, R44). -/
theorem writeTime_eq (s : State) (v : Nat) :
    s.writeTime v =
      if v / 60 = s.clock.minute / 60 then s.setClock (s.clock.withTime v)
      else (s.setClock ((s.clock.withTime v).marked (changedMark s.clock (s.clock.withTime v)))).sendAll
        (hourNews s (changedMark s.clock (s.clock.withTime v))) := by
  unfold State.writeTime
  dsimp only
  refine ite_congr rfl (fun _ => rfl) fun _ => ?_
  rw [issueHourMark_eq]
  rfl

/-- Settles O32: the writes are judged and taken by the time base, SET TIME with the mark of a changed hour. -/
theorem clockWritten : Obligations.ClockWritten := by
  intro q s ready port c v
  have permitted : conservationOnly q.port = true := by rw [port]; rfl
  refine ⟨?_, ?_, ?_⟩
  · show execSetDate q s = _
    unfold execSetDate
    by_cases wide : 7 ≤ q.sub.toNat
    · rw [if_pos wide]
      exact request_answers ready permitted rfl (if_pos wide)
    rw [if_neg wide]
    by_cases locked : c.isSet = true
    · rw [if_pos locked]
      exact request_answers ready permitted rfl ((if_neg wide).trans (if_pos locked))
    · rw [if_neg locked]
      refine request_answers ready permitted ?_ ((if_neg wide).trans ((if_neg locked).trans ?_))
      · rfl
      · rfl
  · show execSetTime q s = _
    unfold execSetTime
    have apart : 60 < minuteDiff v c.minute ↔ v + 60 < c.minute ∨ c.minute + 60 < v := by
      unfold minuteDiff
      omega
    have refuses (t : State) : (if 1439 < v then refuse t .range else if c.isSet = true ∧ 60 < minuteDiff v c.minute then
        refuse t .range else (t.writeTime v, .ok, v)) =
        if 1439 < v ∨ (c.isSet = true ∧ (v + 60 < c.minute ∨ c.minute + 60 < v)) then refuse t .range
        else (t.writeTime v, .ok, v) := by
      simp only [apart, ite_or]
    by_cases refused : 1439 < v ∨ (c.isSet = true ∧ (v + 60 < c.minute ∨ c.minute + 60 < v))
    · rw [if_pos refused]
      exact request_answers ready permitted rfl ((refuses _).trans (if_pos refused))
    rw [if_neg refused]
    dsimp only
    by_cases same : v / 60 = c.minute / 60
    · rw [if_pos same]
      refine request_answers ready permitted ?_ ((refuses _).trans ((if_neg refused).trans ?_))
      · rfl
      · rw [writeTime_eq]
        exact congrArg (·, Result.ok, v) (if_pos same)
    · rw [if_neg same]
      refine request_sends ready permitted ?_ ((refuses _).trans ((if_neg refused).trans ?_))
      · rfl
      · rw [writeTime_eq]
        exact congrArg (·, Result.ok, v) (if_neg same)
  · show execUnsetClock q s = _
    unfold execUnsetClock
    refine request_answers ready permitted ?_ ?_
    · exact rfl
    · exact rfl

/-! ## The clock's ranges -/

/-- The clock's fields lie within their ranges (R37). -/
structure ClockOk (c : Clock) : Prop where
  day : c.day < 65536
  weekday : c.weekday < 7
  minute : c.minute < 1440
  second : c.second < 60
  markDay : c.lastMarkDay < 65536
  markHour : c.lastMarkHour < 24

theorem clockInv_iff (s : State) : ClockInv s ↔ ClockOk s.clock :=
  ⟨fun ⟨day, weekday, minute, second, markDay, markHour⟩ => ⟨day, weekday, minute, second, markDay, markHour⟩,
    fun h => ⟨h.day, h.weekday, h.minute, h.second, h.markDay, h.markHour⟩⟩

theorem ClockOk.advance {c : Clock} (h : ClockOk c) : ClockOk c.advance := by
  obtain ⟨day, weekday, minute, second, markDay, markHour⟩ := h
  unfold Clock.advance
  split
  · exact ⟨day, weekday, minute, by assumption, markDay, markHour⟩
  split
  · exact ⟨day, weekday, by assumption, Nat.succ_pos 59, markDay, markHour⟩
  · exact ⟨Nat.mod_lt _ (Nat.succ_pos _), Nat.mod_lt _ (Nat.succ_pos _), Nat.succ_pos _, Nat.succ_pos _, markDay, markHour⟩

/-- An hour mark of the clock's own day and hour, or of another in range, becomes the last mark stamp (R39, R44). -/
theorem ClockOk.marked {c : Clock} (h : ClockOk c) {m : HourMark} (day : m.beginning.day < 65536) (hour : m.beginning.hour < 24) :
    ClockOk (c.marked m) := ⟨h.day, h.weekday, h.minute, h.second, day, hour⟩

theorem ClockOk.hourOf_lt {c : Clock} (h : ClockOk c) : hourOf c < 24 := by
  have := h.minute
  unfold hourOf
  omega

theorem ClockOk.withTime {c : Clock} (h : ClockOk c) {v : Nat} (small : v ≤ 1439) : ClockOk (c.withTime v) :=
  ⟨h.day, h.weekday, Nat.lt_succ_of_le small, Nat.succ_pos 59, h.markDay, h.markHour⟩

/-- The clock is what the time base alone owns. -/
theorem clock_own (s : State) : (s.own .timeBase).clock = s.clock := rfl

theorem clockInv_own (s : State) : ClockInv s ↔ ClockInv (s.own .timeBase) := Iff.rfl

theorem clockInv_of_blank {b : Block} (ne : b ≠ .timeBase) {s t : State} (same : t.blank b = s.blank b) (h : ClockInv s) :
    ClockInv t := by
  have clock := congrArg State.clock (own_of_blank ne same)
  rw [clock_own, clock_own] at clock
  rw [clockInv_iff, clock]
  exact (clockInv_iff s).1 h

theorem clockInv_advance {s : State} (h : ClockInv s) : ClockInv s.advance := by
  have ok := (clockInv_iff s).1 h
  by_cases runs : s.clockRuns = true
  · rw [advance_eq_sent runs, clockInv_iff]
    split
    · split
      · exact ok.advance.marked ok.advance.day ok.advance.hourOf_lt
      · exact ok.advance
    · exact ok.advance
  · rwa [State.advance, if_neg runs]

/-- What the time base does with a clock write keeps the clock within its ranges. -/
theorem clockInv_taken {c : Instr} {s t : State} (hb : blockOf c = some .timeBase) (hs : ClockInv s)
    (h : exec c s = .next t) : ClockInv t := by
  cases c <;> cases hb <;> dsimp only [exec] at h
  case setDate.refl q =>
    refine request_keeps clockInv_own hs (fun s ready hs => ?_) h
    have ok := (clockInv_iff s).1 hs
    split
    · exact hs
    split
    · exact hs
    next weekday _ =>
      exact (clockInv_iff _).2 ⟨q.value.isLt, Nat.not_le.1 weekday, ok.minute, ok.second, ok.markDay, ok.markHour⟩
  case setTime.refl q =>
    refine request_keeps clockInv_own hs (fun s ready hs => ?_) h
    have ok := (clockInv_iff s).1 hs
    split
    · exact hs
    split
    · exact hs
    next small _ =>
      have written := ok.withTime (Nat.not_lt.1 small)
      show ClockInv (s.writeTime q.value.toNat)
      rw [writeTime_eq, clockInv_iff]
      split
      · exact written
      · exact written.marked ok.day written.hourOf_lt
  case unsetClock.refl q =>
    refine request_keeps clockInv_own hs (fun s ready hs => ?_) h
    exact hs

theorem clockInv_started {s : State} (h : ClockInv s) (b : Block) : ClockInv (s.started b) := by
  have ok := (clockInv_iff s).1 h
  unfold State.started
  dsimp only
  split
  · exact (clockInv_iff _).2 ⟨ok.day, ok.weekday, ok.minute, ok.second, ok.day, ok.hourOf_lt⟩
  · exact h

theorem clockInv_starting {s : State} (h : ClockInv s) (b : Block) : ClockInv (s.starting b) := by
  unfold State.starting
  split <;> exact h

theorem clockOk_cold : ClockOk { Retained.cold.clock with lastStart := .cold } :=
  ⟨by decide, by decide, by decide, by decide, by decide, by decide⟩

/-- Every command keeps the clock within its ranges. -/
theorem clockInv_exec {c : Instr} {s t : State} (hs : ClockInv s) (h : exec c s = .next t) : ClockInv t := by
  rcases exec_effect h with _ | ⟨hb, running, awaits⟩ | ⟨hb, ready, keeps⟩ | _ | ⟨p, w⟩ | ⟨p, w, bits, complete⟩ | ⟨x, v⟩ |
    ⟨x, ready⟩ | ⟨x, ready⟩ | ⟨last, off⟩ | off | _ | _ | _ | ⟨b, i, running⟩
  case taken b u =>
    by_cases own : b = .timeBase
    · subst own
      exact clockInv_taken hb hs h
    · exact clockInv_of_blank own keeps (hs : ClockInv (s.take _))
  case ticks => exact (clockInv_advance hs : ClockInv s.advance)
  case judged => exact clockInv_of_blank (b := .port p) nofun (State.blank_judgeFrame _ p bits) (hs : ClockInv (s.setLines p w))
  case rises => exact clockInv_of_blank (b := .darkening) nofun (State.blank_rise _ x) (hs : ClockInv (s.setTriggerLevel x true))
  case falls => exact clockInv_of_blank (b := .darkening) nofun (State.blank_fall _ x) (hs : ClockInv (s.setTriggerLevel x false))
  case colds => exact (clockInv_iff _).2 clockOk_cold
  case starts =>
    refine clockInv_started ?_ b
    have begun : ClockInv ((s.take (.startNotice b i)).starting b) := clockInv_starting (s := s.take _) hs b
    by_cases own : startOwner b = .timeBase
    · have same : b = .timeBase := by cases b <;> simp_all [startOwner]
      subst same
      exact begun
    · exact clockInv_of_blank own (State.blank_startBlock _ b i) begun
  all_goals exact hs

/-- Every command leaves the check code in agreement where it was (R49). -/
theorem checkCode_exec {c : Instr} {s t : State} (hs : s.checkCode = Config.checkCodeOf s.ret) (h : exec c s = .next t) :
    t.checkCode = Config.checkCodeOf t.ret := by
  cases exec_effect h
  case taken => rfl
  case ticks => rfl
  case judged => rfl
  case rises => rfl
  case falls => rfl
  case warms => rfl
  case colds => rfl
  case starts => rfl
  all_goals exact hs

/-- Settles O15: only the clock's own advance, its writes and a start's end move it; and what changes the retained domain
brings the check code up to date. -/
theorem timeBaseKept : Obligations.TimeBaseKept := by
  intro s t h
  exact ⟨fun hs => step_keeps (P := ClockInv) (fun _ _ hs => hs) (fun _ _ _ hs h => clockInv_exec hs h) hs h,
    fun hs => step_keeps (P := fun s => s.checkCode = Config.checkCodeOf s.ret) (fun _ _ hs => hs)
      (fun _ _ _ hs h => checkCode_exec hs h) hs h⟩

end Sys2Proof.Machine
end

section
/-! SUPPORT. The self-check sequencer: what the turns of channels, the ends of galleries and the heads of the queue make of its
record, and what they send (R172, R173, R175). -/

namespace Sys2Proof.Machine
open Sys2Proof

/-! ## The record and the notices in flight -/

/-- The state with the sequencer's record replaced and notices sent. -/
def State.seqAt (s : State) (q : Sequencer) (l : List Instr) : State := (s.setSeq q).sendAll l

section
variable (s : State) (q : Sequencer) (l : List Instr)

theorem seqAt_self : s.seqAt s.seq [] = s := State.sendAll_nil _

@[simp] theorem seq_seqAt : (s.seqAt q l).seq = q := rfl

@[simp] theorem chan_seqAt (c : Chan) : (s.seqAt q l).chan c = s.chan c := rfl

@[simp] theorem cfg_seqAt (c : Chan) : (s.seqAt q l).cfg c = s.cfg c := rfl

@[simp] theorem setup_seqAt : (s.seqAt q l).ret.setup = s.ret.setup := rfl

@[simp] theorem checkResult_seqAt (g : Gallery) : (s.seqAt q l).checkResult g = q.results.get g := rfl

@[simp] theorem sendAll_seqAt (m : List Instr) : (s.seqAt q l).sendAll m = s.seqAt q (l ++ m) := State.sendAll_sendAll _ _ _

@[simp] theorem send_seqAt (c : Instr) : (s.seqAt q l).send c = s.seqAt q (l ++ [c]) := sendAll_seqAt s q l [c]

@[simp] theorem attend_seqAt (c : Cause) (g : Option Gallery) : (s.seqAt q l).attend c g = s.seqAt q (l ++ attention s c g) := by
  rw [attend_eq_sendAll]
  exact sendAll_seqAt s q l (attention s c g)

@[simp] theorem setSeq_seqAt (q' : Sequencer) : (s.seqAt q l).setSeq q' = s.seqAt q' l := rfl

@[simp] theorem setRun_seqAt (r : Option CheckRun) : (s.seqAt q l).setRun r = s.seqAt { q with run := r } l := rfl

@[simp] theorem setQueue_seqAt (w : List Gallery) : (s.seqAt q l).setQueue w = s.seqAt { q with queue := w } l := rfl

@[simp] theorem setCondition_seqAt (c : Option (Chan × CheckStep)) :
    (s.seqAt q l).setCondition c = s.seqAt { q with condition := c } l := rfl

end

/-- The record with a gallery's check result rewritten. -/
def Sequencer.withResult (q : Sequencer) (g : Gallery) (r : CheckResult) : Sequencer := { q with results := q.results.set g r }

section
variable (s : State) (q : Sequencer) (l : List Instr) (g : Gallery)

@[simp] theorem setCheckResult_seqAt (r : CheckResult) : (s.seqAt q l).setCheckResult g r = s.seqAt (q.withResult g r) l := rfl

@[simp] theorem setChanVerdict_seqAt (k : Kind) (v : Verdict) :
    (s.seqAt q l).setChanVerdict g k v =
      s.seqAt (q.withResult g { q.results.get g with chans := (q.results.get g).chans.set k v }) l := rfl

@[simp] theorem setStepVerdict_seqAt (k : Kind) (x : CheckStep) (v : Verdict) :
    (s.seqAt q l).setStepVerdict g k x v = s.seqAt (q.withResult g { q.results.get g with
      steps := (q.results.get g).steps.set k (((q.results.get g).steps.get k).set x v) }) l := rfl

@[simp] theorem setSummary_seqAt (v : Summary) :
    (s.seqAt q l).setSummary g v = s.seqAt (q.withResult g { q.results.get g with summary := v }) l := rfl

@[simp] theorem get_withResult (h : Gallery) (r : CheckResult) :
    (q.withResult g r).results.get h = if h = g then r else q.results.get h := PerGallery.get_set _ _ _ _

@[simp] theorem withResult_withResult (a b : CheckResult) : (q.withResult g a).withResult g b = q.withResult g b :=
  congrArg (fun t => { q with results := t }) (PerGallery.set_set _ _ _ _)

end

/-! ## The turns of channels -/

/-- A channel is DISABLED, so that its turn makes it SKIPPED (R173). -/
def State.off (s : State) (g : Gallery) (k : Kind) : Bool := decide ((s.chan ⟨g, k⟩).state = .disabled)

/-- The channel verdicts with those of some kinds SKIPPED (R173). -/
def skip (t : PerKind Verdict) (l : List Kind) : PerKind Verdict := .ofFn fun k => if k ∈ l then .skipped else t.get k

theorem skip_nil (t : PerKind Verdict) : skip t [] = t := PerKind.ext_get fun k => by simp [skip]

theorem skip_cons (t : PerKind Verdict) (k : Kind) (l : List Kind) : skip (t.set k .skipped) l = skip t (k :: l) := by
  refine PerKind.ext_get fun j => ?_
  simp only [skip, PerKind.get_ofFn, PerKind.get_set, List.mem_cons]
  by_cases same : j = k <;> simp [same]

/-- A step is enabled (R178). -/
def someStep (s : State) : Prop := ∃ x, s.ret.setup.enables.get x = true

theorem SeqInv.someStep {s : State} (h : SeqInv s) : someStep s := by
  obtain ⟨-, -, -, -, -, enabled, -⟩ := h
  exact enabled

/-- The first enabled step is there when one is (R173, R178). -/
theorem enabledFrom_eq {s : State} (h : someStep s) : ∃ x, enabledFrom s 0 = some x := by
  obtain ⟨x, on⟩ := h
  refine Option.isSome_iff_exists.1 (List.find?_isSome.2 ⟨x, ?_, on⟩)
  cases x <;> decide

theorem firstEnabled_seqAt (s : State) (q : Sequencer) (l : List Instr) :
    (s.seqAt q l).firstEnabled checkSteps = enabledFrom s 0 := rfl

/-- The record when the turn of a channel has begun (R173). -/
def Sequencer.begun (q : Sequencer) (s : State) (g : Gallery) (k : Kind) : Sequencer :=
  { q with run := some (turnOf s g k), condition := some (⟨g, k⟩, (turnOf s g k).step) }

/-- The turn of a channel (R173). -/
theorem turn_seqAt {s : State} (enabled : someStep s) (q : Sequencer) (l : List Instr) (g : Gallery) (k : Kind) :
    (s.seqAt q l).turn g k =
      if s.off g k then
        (s.seqAt (q.withResult g { q.results.get g with chans := (q.results.get g).chans.set k .skipped }) l, false)
      else (s.seqAt (q.begun s g k) (l ++ [.channelEnterNotice ⟨g, k⟩]), true) := by
  obtain ⟨x, first⟩ := enabledFrom_eq enabled
  unfold State.turn State.off
  by_cases off : (s.chan ⟨g, k⟩).state = .disabled
  · simp [off]
  · simp only [chan_seqAt, off, decide_false, Bool.false_eq_true, if_false, send_seqAt, State.steps, firstEnabled_seqAt, first]
    simp [State.beginStep, Sequencer.begun, turnOf, first]

/-- The record with the DISABLED channels among some kinds, up to the first that is not DISABLED, made SKIPPED (R173). -/
def Sequencer.skipped (q : Sequencer) (s : State) (g : Gallery) (ks : List Kind) : Sequencer :=
  q.withResult g { q.results.get g with chans := skip (q.results.get g).chans (ks.takeWhile (s.off g)) }

theorem skipped_nil (q : Sequencer) (g : Gallery) :
    (q.withResult g { q.results.get g with chans := skip (q.results.get g).chans [] }) = q := by
  rw [skip_nil]
  exact congrArg (fun t => { q with results := t }) (PerGallery.set_get_self _ _)

/-- The turns of some channels: the DISABLED ones up to the first that is not are SKIPPED, and that one's turn begins (R173). -/
theorem turns_seqAt {s : State} (enabled : someStep s) (g : Gallery) (ks : List Kind) (q : Sequencer) (l : List Instr) :
    (s.seqAt q l).turns g ks =
      match firstKind s g ks with
      | some k => (s.seqAt ((q.skipped s g ks).begun s g k) (l ++ [.channelEnterNotice ⟨g, k⟩]), true)
      | none => (s.seqAt (q.skipped s g ks) l, false) := by
  induction ks generalizing q with
  | nil => simp [State.turns, firstKind, Sequencer.skipped, skipped_nil]
  | cons k ks ih =>
    unfold State.turns
    rw [turn_seqAt enabled]
    cases off : s.off g k
    · have live : ¬(s.chan ⟨g, k⟩).state = .disabled := by simpa [State.off] using off
      simp [firstKind, live, Sequencer.skipped, off, skipped_nil]
    · have dead : (s.chan ⟨g, k⟩).state = .disabled := by simpa [State.off] using off
      have rest : firstKind s g (k :: ks) = firstKind s g ks := by simp [firstKind, dead]
      simp only [if_true, Bool.false_eq_true, if_false, ih, rest, Sequencer.skipped, get_withResult, withResult_withResult,
        skip_cons, List.takeWhile_cons, off]

/-! ## The ends of galleries and the heads of the queue -/

/-- The record when a gallery is complete (R175). -/
def Sequencer.completed (q : Sequencer) (g : Gallery) : Sequencer :=
  { q.withResult g { q.results.get g with summary := summaryOf (q.results.get g).chans } with run := none }

/-- The turns of some channels, or the end of the gallery (R173, R175). -/
theorem turnsOrComplete_seqAt {s : State} (enabled : someStep s) (g : Gallery) (ks : List Kind) (q : Sequencer)
    (l : List Instr) :
    (s.seqAt q l).turnsOrComplete g ks =
      match firstKind s g ks with
      | some k => (s.seqAt ((q.skipped s g ks).begun s g k) (l ++ [.channelEnterNotice ⟨g, k⟩]), true)
      | none => (s.seqAt ((q.skipped s g ks).completed g) (l ++ attention s .checkDone (some g)), false) := by
  unfold State.turnsOrComplete
  rw [turns_seqAt enabled]
  cases firstKind s g ks <;> simp [State.completeGallery, Sequencer.completed]

theorem firstKind_none_iff (s : State) (g : Gallery) (l : List Kind) : firstKind s g l = none ↔ ∀ k ∈ l, s.off g k = true := by
  simp [firstKind, State.off]

/-- The channel verdicts of a gallery whose check begins are those of the result it takes as head (R172, R173). -/
theorem skip_notRun (s : State) (g : Gallery) :
    skip (.all .notRun) (kinds.takeWhile (s.off g)) =
      .ofFn fun k => if (firstKind s g (kinds.take (kindNum k + 1))).isSome then .notRun else .skipped := by
  refine PerKind.ext_get fun k => ?_
  have before : k ∈ kinds.takeWhile (s.off g) ↔ firstKind s g (kinds.take (kindNum k + 1)) = none := by
    rw [firstKind_none_iff]
    cases k <;> simp [kinds, kindNum, List.takeWhile_cons]
  rw [skip, PerKind.get_ofFn, PerKind.get_ofFn, PerKind.get_all]
  by_cases mem : k ∈ kinds.takeWhile (s.off g)
  · rw [if_pos mem, before.1 mem]
    rfl
  · rw [if_neg mem, if_pos (Option.isSome_iff_ne_none.2 fun none => mem (before.2 none))]

/-- A gallery whose channels are all SKIPPED is PASSED (R175). -/
theorem summaryOf_skip {s : State} {g : Gallery} (none : firstKind s g kinds = none) :
    summaryOf (skip (.all .notRun) (kinds.takeWhile (s.off g))) = .passed := by
  rw [skip_notRun]
  have all (k : Kind) : firstKind s g (kinds.take (kindNum k + 1)) = Option.none :=
    (firstKind_none_iff _ _ _).2 fun j mem => (firstKind_none_iff _ _ _).1 none j (List.mem_of_mem_take mem)
  simp only [all]
  rfl

/-- What taking a gallery from the head of the queue sends (R172, R173, R175). -/
def headNews (s : State) (g : Gallery) : List Instr :=
  (if s.seq.dark.get g then [] else [.galleryStartNotice g]) ++ attention s .checkDone (some g)

/-- The head of the queue is taken by an IDLE sequencer (R172). -/
theorem startGallery_seqAt {s : State} (enabled : someStep s) {q : Sequencer} (idle : q.run = none) (dark : q.dark = s.seq.dark)
    (g : Gallery) (l : List Instr) :
    (s.seqAt q l).startGallery g =
      if runsCheck s g then
        (s.seqAt ((q.withResult g (headResult s g)).begun s g ((firstKind s g kinds).getD .lux))
          (l ++ [.galleryStartNotice g, .channelEnterNotice ⟨g, (firstKind s g kinds).getD .lux⟩]), true)
      else (s.seqAt (q.withResult g (headResult s g)) (l ++ headNews s g), false) := by
  unfold State.startGallery
  simp only [seq_seqAt, dark]
  by_cases darkened : s.seq.dark.get g = true
  · have result : headResult s g = notRunResult .abortedDarkening := if_pos darkened
    rw [if_pos darkened, if_neg (by simp [runsCheck, darkened]), result, headNews, if_pos darkened]
    simp
  · have skipped : ((q.withResult g (notRunResult .running)).skipped s g kinds) =
        q.withResult g { notRunResult .running with chans := skip (.all .notRun) (kinds.takeWhile (s.off g)) } := by
      simp [Sequencer.skipped]
      rfl
    rw [if_neg darkened, setCheckResult_seqAt, send_seqAt, turnsOrComplete_seqAt enabled, skipped]
    cases first : firstKind s g kinds with
    | some k =>
      have result : headResult s g =
          { notRunResult .running with chans := skip (.all .notRun) (kinds.takeWhile (s.off g)) } := by
        rw [headResult, if_neg darkened, skip_notRun, first]
        rfl
      rw [if_pos (by simp [runsCheck, darkened, first]), result]
      simp
    | none =>
      have result : headResult s g =
          { notRunResult .passed with chans := skip (.all .notRun) (kinds.takeWhile (s.off g)) } := by
        rw [headResult, if_neg darkened, skip_notRun, first]
        rfl
      rw [if_neg (by simp [runsCheck, first]), result, headNews, if_neg darkened]
      simp only [Sequencer.completed, get_withResult, if_true, withResult_withResult, summaryOf_skip first, List.append_assoc]
      refine congrArg (·, false) (congrArg (s.seqAt · _) ?_)
      rw [← idle]
      rfl

/-! ## Heads taken in turn -/

theorem queueOf_cons (s : State) (g : Gallery) (l : List Gallery) :
    queueOf s (g :: l) = if runsCheck s g then l else queueOf s l := by
  unfold queueOf
  cases runs : runsCheck s g <;> simp [runs]

theorem runOf_cons (s : State) (g : Gallery) (l : List Gallery) :
    runOf s (g :: l) = if runsCheck s g then some (turnOf s g ((firstKind s g kinds).getD .lux)) else runOf s l := by
  unfold runOf
  cases runs : runsCheck s g <;> simp [runs]

theorem headsNews_cons (s : State) (g : Gallery) (l : List Gallery) :
    headsNews s (g :: l) =
      if runsCheck s g then [.galleryStartNotice g, .channelEnterNotice ⟨g, (firstKind s g kinds).getD .lux⟩]
      else headNews s g ++ headsNews s l := by
  unfold headsNews
  rw [runOf_cons]
  cases runs : runsCheck s g
  · simp [runs, headNews]
  · simp [runs, turnOf]

theorem queueOf_subset (s : State) (l : List Gallery) : queueOf s l ⊆ l := by
  unfold queueOf
  exact fun g mem => (List.dropWhile_sublist _).subset ((List.drop_sublist _ _).subset mem)

theorem headsTaken_nil {s : State} {q : Sequencer} (idle : q.run = none) : headsTaken s [] q = { q with queue := [] } := by
  obtain ⟨run, queue, dark, results, condition⟩ := q
  obtain rfl : run = none := idle
  have same : (PerGallery.ofFn fun g => results.get g) = results := PerGallery.ext_get fun g => by simp
  simp only [headsTaken, List.not_mem_nil, false_and, if_false, same]
  rfl

theorem headsTaken_skips {s : State} {g : Gallery} {l : List Gallery} (fresh : g ∉ l) (waits : runsCheck s g = false)
    (q : Sequencer) :
    headsTaken s l (Sequencer.withResult { q with queue := l } g (headResult s g)) = headsTaken s (g :: l) q := by
  have run := runOf_cons s g l
  have queue := queueOf_cons s g l
  rw [waits] at run queue
  simp only [Bool.false_eq_true, if_false] at run queue
  unfold headsTaken
  rw [run, queue]
  have same : (PerGallery.ofFn fun h => if h ∈ l ∧ h ∉ queueOf s l then headResult s h
      else (Sequencer.withResult { q with queue := l } g (headResult s g)).results.get h) =
      PerGallery.ofFn fun h => if h ∈ g :: l ∧ h ∉ queueOf s l then headResult s h else q.results.get h := by
    refine PerGallery.ext_get fun h => ?_
    rw [PerGallery.get_ofFn, PerGallery.get_ofFn, get_withResult]
    by_cases at_ : h = g
    · have out : g ∉ queueOf s l := fun mem => fresh (queueOf_subset s l mem)
      simp [at_, fresh, out]
    · simp [at_]
  rw [same]
  rfl

theorem headsTaken_runs {s : State} {g : Gallery} {l : List Gallery} (fresh : g ∉ l) (runs : runsCheck s g = true)
    (q : Sequencer) :
    (Sequencer.withResult { q with queue := l } g (headResult s g)).begun s g ((firstKind s g kinds).getD .lux) =
      headsTaken s (g :: l) q := by
  have run := runOf_cons s g l
  have queue := queueOf_cons s g l
  rw [runs] at run queue
  simp only [if_true] at run queue
  unfold headsTaken
  rw [run, queue]
  have same : q.results.set g (headResult s g) =
      PerGallery.ofFn fun h => if h ∈ g :: l ∧ h ∉ l then headResult s h else q.results.get h := by
    refine PerGallery.ext_get fun h => ?_
    rw [PerGallery.get_ofFn, PerGallery.get_set]
    by_cases at_ : h = g
    · simp [at_, fresh]
    · simp [at_]
  rw [← same]
  rfl

/-- The heads of the queue are taken until one runs (R172). -/
theorem runQueue_seqAt {s : State} (enabled : someStep s) {l : List Gallery} (distinct : l.Nodup) {q : Sequencer}
    (idle : q.run = none) (dark : q.dark = s.seq.dark) (m : List Instr) :
    (s.seqAt q m).runQueue l = s.seqAt (headsTaken s l q) (m ++ headsNews s l) := by
  induction l generalizing q m with
  | nil =>
    rw [headsTaken_nil idle]
    simp [State.runQueue, headsNews, runOf]
  | cons g l ih =>
    obtain ⟨fresh, rest⟩ := List.nodup_cons.1 distinct
    unfold State.runQueue
    rw [setQueue_seqAt, startGallery_seqAt enabled (q := { q with queue := l }) idle dark, headsNews_cons]
    cases runs : runsCheck s g
    · simp only [Bool.false_eq_true, if_false]
      rw [ih rest (q := Sequencer.withResult { q with queue := l } g (headResult s g)) idle dark, List.append_assoc,
        headsTaken_skips fresh runs]
    · simp only [if_true]
      rw [headsTaken_runs fresh runs]

/-- An IDLE sequencer takes the heads of its queue (R172). -/
theorem takeHead_seqAt {s : State} (enabled : someStep s) {q : Sequencer} (distinct : q.queue.Nodup) (idle : q.run = none)
    (dark : q.dark = s.seq.dark) (m : List Instr) :
    (s.seqAt q m).takeHead = s.seqAt (headsTaken s q.queue q) (m ++ headsNews s q.queue) := by
  unfold State.takeHead
  rw [seq_seqAt, idle]
  exact runQueue_seqAt enabled distinct idle dark m

/-- A RUNNING sequencer takes nothing from its queue. -/
theorem takeHead_running {s : State} {q : Sequencer} (runs : q.run ≠ none) (m : List Instr) :
    (s.seqAt q m).takeHead = s.seqAt q m := if_pos (Option.isSome_iff_ne_none.2 runs)

end Sys2Proof.Machine
end

section
/-! SUPPORT. The course of a check: the dwell, readings not awaited and the abort by darkening (O53). -/

namespace Sys2Proof.Machine
open Sys2Proof

/-- A notice that the sequencer takes, known by its record and the notices sent. -/
theorem deliver_seqAt {c : Instr} {s : State} {q : Sequencer} {l : List Instr} {act : State → State}
    (ready : Ready s .sequencer) (acts : act (s.take c) = (s.take c).seqAt q l) :
    deliver .sequencer c s act = .next (after s c (s.setSeq q) l) := deliver_sends ready acts

/-- A request that the sequencer takes. -/
theorem request_seqAt {q : Req} {s : State} {i : Instr} {code d : Nat} {permitted : Port → Bool} {act : State → Taken}
    {x : Result} {w : Sequencer} {l : List Instr} (ready : Ready s .sequencer) (allowed : permitted q.port = true)
    (acts : act (s.take i) = ((s.take i).seqAt w l, x, d)) :
    request .sequencer i code permitted q s act = .next (after s i (s.setSeq w) (l ++ reply q code x d)) :=
  request_sends ready allowed rfl acts

/-- The abort of the running check (R176). -/
theorem abortRun_seqAt (s : State) (q : Sequencer) (l : List Instr) (run : CheckRun) (sm : Summary) :
    (s.seqAt q l).abortRun run sm =
      s.seqAt (abortedWith sm run q) (l ++ .channelAbortNotice ⟨run.g, run.k⟩ :: attention s .checkDone (some run.g)) := by
  unfold State.abortRun
  simp only [send_seqAt, setChanVerdict_seqAt, setSummary_seqAt, attend_seqAt, setRun_seqAt, setCondition_seqAt,
    get_withResult, if_true, withResult_withResult, List.append_assoc]
  rfl

/-- The abort of the running check, with the heads of the queue taken after it (R172, R176). -/
theorem abortRun_takeHead {s : State} (enabled : someStep s) {q : Sequencer} (distinct : q.queue.Nodup)
    (dark : q.dark = s.seq.dark) (l : List Instr) (run : CheckRun) (sm : Summary) :
    ((s.seqAt q l).abortRun run sm).takeHead =
      s.seqAt (headsTaken s q.queue (abortedWith sm run q)) (l ++ abortNews s run q.queue) := by
  rw [abortRun_seqAt, takeHead_seqAt enabled (q := abortedWith sm run q) distinct rfl dark, List.append_assoc]
  rfl

theorem SeqInv.distinct {s : State} (h : SeqInv s) : s.seq.queue.Nodup := h.1

/-- A dwell has a second left at least (R173). -/
theorem SeqInv.dwell {s : State} (h : SeqInv s) {r : CheckRun} {n : Nat} (runs : s.seq.run = some r) (phase : r.phase = .dwell n) :
    1 ≤ n := by
  obtain ⟨-, -, -, dwell, -⟩ := h
  exact (dwell r n runs phase).1

/-- The running context after a second mark (R173). -/
theorem second_eq {s : State} (h : SeqInv s) :
    s.seq.run.map CheckRun.second = s.seq.run.map fun y =>
      match y.phase with
      | .dwell n => { y with phase := if n = 1 then .awaiting else .dwell (n - 1) }
      | .awaiting => y := by
  cases runs : s.seq.run with
  | none => rfl
  | some r =>
    refine congrArg some ?_
    obtain ⟨g, k, step, phase⟩ := r
    cases phase with
    | awaiting => rfl
    | dwell n =>
      have := h.dwell runs rfl
      have same : (n ≤ 1) = (n = 1) := propext (by omega)
      simp only [CheckRun.second, same]

theorem dwellEnds_eq {s : State} (h : SeqInv s) :
    dwellEnds s = match s.seq.run with | some y => y.phase == .dwell 1 | none => false := by
  unfold dwellEnds
  cases runs : s.seq.run with
  | none => rfl
  | some r =>
    obtain ⟨g, k, step, phase⟩ := r
    cases phase with
    | awaiting => rfl
    | dwell n =>
      have := h.dwell runs rfl
      by_cases one : n = 1
      · subst one
        rfl
      · have more : ¬n ≤ 1 := by omega
        simp [one, more]

/-- A reading that is not awaited (R173, R174). -/
theorem awaited_eq_none {s : State} {c : Chan} {x : CheckStep}
    (other : ∀ y, s.seq.run = some y → ¬(y.g = c.g ∧ y.k = c.k ∧ y.step = x ∧ y.phase = .awaiting)) : awaited s c x = none := by
  unfold awaited
  split
  next y runs => exact if_neg (other y runs)
  next => rfl

/-- Settles O53: the second counts the dwell of the current step, and a gallery that darkens ends its own check. -/
theorem checkTimed : Obligations.CheckTimed := by
  intro m c x r g yes s ready inv i left expires dark
  have ticks : exec i s = .next (after s i { s with seq := { s.seq with run := left } } []) := by
    show seqMark m s = _
    unfold seqMark
    refine (deliver_seqAt (q := { s.seq with run := left }) (l := []) ready ?_).trans rfl
    refine Eq.trans ?_ (State.sendAll_nil _).symm
    show (s.take i).setRun (s.seq.run.map CheckRun.second) = _
    rw [second_eq inv] <;> rfl
  refine ⟨ticks, ?_, fun other => ?_, ?_⟩
  · show onlyWhen (dwellEnds s) s (exec i s) = _
    unfold onlyWhen
    rw [dwellEnds_eq inv] <;> rfl
  · show execStepReading c x r s = _
    unfold execStepReading
    refine (deliver_seqAt (q := { s.seq with condition := if s.seq.condition = some (c, x) then none else s.seq.condition })
      (l := []) ready ?_).trans rfl
    refine Eq.trans ?_ (State.sendAll_nil _).symm
    have away : awaited (s.take (.stepReading c x r)) c x = none := awaited_eq_none other
    rw [away]
    dsimp only
    by_cases named : s.seq.condition = some (c, x)
    · rw [if_pos named]
      exact if_pos named
    · rw [if_neg named]
      exact if_neg named
  · show Next (execDarkeningStateAtSequencer g yes s) _
    unfold execDarkeningStateAtSequencer
    have start : (s.take (.darkeningStateAtSequencer g yes)).setSeq dark =
        State.seqAt { s.take (.darkeningStateAtSequencer g yes) with seq := dark } dark [] := (State.sendAll_nil _).symm
    cases runs : s.seq.run with
    | none =>
      refine ⟨_, deliver_seqAt (q := dark) (l := []) ready ?_, rfl, rfl, rfl⟩
      refine Eq.trans ?_ (State.sendAll_nil _).symm
      show (match s.seq.run with | some run => _ | none => _) = _
      rw [runs] <;> rfl
    | some y =>
      by_cases ends : yes = true ∧ y.g = g
      · refine ⟨_, deliver_seqAt (q := headsTaken { s with seq := dark } s.seq.queue (abortedWith .abortedDarkening y dark))
          (l := abortNews { s with seq := dark } y s.seq.queue) ready ?_, rfl, (if_pos ends).symm,
          congrArg (_ ++ ·) (if_pos ends).symm⟩
        have aborted := abortRun_takeHead (s := { s.take (.darkeningStateAtSequencer g yes) with seq := dark }) inv.someStep
          (q := dark) inv.distinct rfl [] y .abortedDarkening
        show (match s.seq.run with | some run => _ | none => _) = _
        rw [runs]
        dsimp only
        rw [if_pos ends]
        show (State.abortRun (State.setSeq _ dark) y .abortedDarkening).takeHead = _
        rw [start, aborted] <;> rfl
      · refine ⟨_, deliver_seqAt (q := dark) (l := []) ready ?_, rfl, (if_neg ends).symm,
          congrArg (_ ++ ·) (if_neg ends).symm⟩
        refine Eq.trans ?_ (State.sendAll_nil _).symm
        show (match s.seq.run with | some run => _ | none => _) = _
        rw [runs]
        exact if_neg ends

end Sys2Proof.Machine
end

section
/-! SUPPORT. CHECK, CANCEL CHECK and CHECK SETUP (O52). -/

namespace Sys2Proof.Machine
open Sys2Proof

/-! ## The galleries marked in turn -/

/-- When each gallery in turn takes the state a list of galleries has built to the state it builds with that gallery at its
end, the six build the state of their list and mark themselves. -/
theorem forMask_builds {f : Gallery → State → State × Bool} {build : List Gallery → State} {mark : Gallery → Bool}
    (next : ∀ l g, g ∉ l → f g (build l) = (build (l ++ [g]), mark g)) :
    forMask f (build []) = (build galleries, maskOf mark) := by
  rw [← galleryMask_ofFn]
  unfold forMask
  rw [next [] Gallery.g0 (by decide)]
  dsimp only
  rw [next ([] ++ [Gallery.g0]) Gallery.g1 (by decide)]
  dsimp only
  rw [next ([] ++ [Gallery.g0] ++ [Gallery.g1]) Gallery.g2 (by decide)]
  dsimp only
  rw [next ([] ++ [Gallery.g0] ++ [Gallery.g1] ++ [Gallery.g2]) Gallery.g3 (by decide)]
  dsimp only
  rw [next ([] ++ [Gallery.g0] ++ [Gallery.g1] ++ [Gallery.g2] ++ [Gallery.g3]) Gallery.g4 (by decide)]
  dsimp only
  rw [next ([] ++ [Gallery.g0] ++ [Gallery.g1] ++ [Gallery.g2] ++ [Gallery.g3] ++ [Gallery.g4]) Gallery.g5 (by decide)]
  rfl

/-! ## Queueing -/

/-- The running check is of the gallery. -/
def runsGallery (s : State) (g : Gallery) : Bool := match s.seq.run with | some r => r.g == g | none => false

theorem inCheck_eq (s : State) (g : Gallery) : s.inCheck g = (runsGallery s g || s.seq.queue.contains g) := by
  unfold State.inCheck runsGallery
  cases s.seq.run <;> rfl

/-- The record with the galleries of a list queued, those apart that run or wait already (R171). -/
def enqueued (s : State) (l : List Gallery) : Sequencer :=
  { s.seq with
    queue := s.seq.queue ++ l.filter fun g => !s.inCheck g
    results := .ofFn fun g =>
      if l.contains g && !s.inCheck g then { s.checkResult g with summary := .queued } else s.checkResult g }

theorem results_self (q : Sequencer) : (PerGallery.ofFn fun g => q.results.get g) = q.results :=
  PerGallery.ext_get fun g => by simp

theorem enqueued_nil (s : State) : enqueued s [] = s.seq := by
  have same : (PerGallery.ofFn fun g => s.checkResult g) = s.seq.results := results_self s.seq
  simp [enqueued, same]

theorem enqueue_enqueued (s : State) (l : List Gallery) (g : Gallery) (fresh : g ∉ l) :
    State.enqueue g (s.seqAt (enqueued s l) []) = (s.seqAt (enqueued s (l ++ [g])) [], !s.inCheck g) := by
  have out : g ∉ l.filter fun g => !s.inCheck g := fun mem => fresh (List.mem_of_mem_filter mem)
  have inside : (s.seqAt (enqueued s l) []).inCheck g = s.inCheck g := by
    rw [inCheck_eq, inCheck_eq]
    show (runsGallery s g || (s.seq.queue ++ _).contains g) = _
    rw [List.contains_append, List.contains_eq_mem (as := l.filter _)]
    simp [out]
  unfold State.enqueue
  rw [inside]
  cases old : s.inCheck g
  · simp only [Bool.false_eq_true, if_false, setQueue_seqAt, setSummary_seqAt, seq_seqAt, Bool.not_false]
    refine congrArg (·, true) (congrArg (s.seqAt · []) ?_)
    have results : (enqueued s l).results.set g { (enqueued s l).results.get g with summary := .queued } =
        (enqueued s (l ++ [g])).results := by
      refine PerGallery.ext_get fun h => ?_
      simp only [PerGallery.get_set, enqueued, PerGallery.get_ofFn]
      by_cases same : h = g
      · simp [same, fresh, old]
      · simp [same]
    have queue : (enqueued s l).queue ++ [g] = (enqueued s (l ++ [g])).queue := by
      simp [enqueued, old]
    show ({ enqueued s l with queue := _, results := _ } : Sequencer) = _
    rw [queue, results]
    rfl
  · simp only [if_true, Bool.not_true]
    refine congrArg (·, false) (congrArg (s.seqAt · []) ?_)
    have member (h : Gallery) : ((l ++ [g]).contains h && !s.inCheck h) = (l.contains h && !s.inCheck h) := by
      by_cases same : h = g
      · simp [same, old]
      · simp [same]
    simp only [enqueued, member]
    simp [old]

/-! ## Cancelling -/

/-- The record with the queued galleries of a list cancelled (R177). -/
def cancelledBy (s : State) (l : List Gallery) : Sequencer :=
  { s.seq with
    queue := s.seq.queue.filter fun g => !(l.contains g && s.seq.queue.contains g)
    results := .ofFn fun g => if l.contains g && s.seq.queue.contains g then notRunResult .cancelled else s.checkResult g }

/-- What their cancelling sends. -/
def cancelNews (s : State) (l : List Gallery) : List Instr :=
  (l.filter s.seq.queue.contains).flatMap fun g => attention s .checkDone (some g)

theorem cancelledBy_nil (s : State) : cancelledBy s [] = s.seq := by
  have same : (PerGallery.ofFn fun g => s.checkResult g) = s.seq.results := results_self s.seq
  simp [cancelledBy, same]

theorem cancelQueued_cancelledBy {s : State} (distinct : s.seq.queue.Nodup) (l : List Gallery) (g : Gallery) (fresh : g ∉ l) :
    State.cancelQueued g (s.seqAt (cancelledBy s l) (cancelNews s l)) =
      (s.seqAt (cancelledBy s (l ++ [g])) (cancelNews s (l ++ [g])), s.seq.queue.contains g) := by
  have inside : (cancelledBy s l).queue.contains g = s.seq.queue.contains g := by
    rw [Bool.eq_iff_iff]
    simp [cancelledBy, fresh]
  unfold State.cancelQueued
  rw [seq_seqAt, inside]
  cases queued : s.seq.queue.contains g
  · simp only [Bool.false_eq_true, if_false]
    have member (h : Gallery) : ((l ++ [g]).contains h && s.seq.queue.contains h) = (l.contains h && s.seq.queue.contains h) := by
      by_cases same : h = g
      · rw [same, queued]
        simp
      · simp [same]
    have news : cancelNews s (l ++ [g]) = cancelNews s l := by
      simp only [cancelNews, List.filter_append, List.filter_cons, List.filter_nil, queued, Bool.false_eq_true, if_false,
        List.append_nil]
    simp only [cancelledBy, member, news]
  · simp only [if_true, setQueue_seqAt, setCheckResult_seqAt, attend_seqAt]
    have news : cancelNews s l ++ attention s .checkDone (some g) = cancelNews s (l ++ [g]) := by
      simp only [cancelNews, List.filter_append, List.filter_cons, List.filter_nil, queued, if_true, List.flatMap_append,
        List.flatMap_cons, List.flatMap_nil, List.append_nil]
    have results : (cancelledBy s l).results.set g (notRunResult .cancelled) = (cancelledBy s (l ++ [g])).results := by
      refine PerGallery.ext_get fun h => ?_
      simp only [PerGallery.get_set, cancelledBy, PerGallery.get_ofFn]
      by_cases same : h = g
      · rw [same, queued]
        simp
      · simp [same]
    have queue : (cancelledBy s l).queue.erase g = (cancelledBy s (l ++ [g])).queue := by
      show (s.seq.queue.filter _).erase g = _
      rw [(distinct.filter _).erase_eq_filter]
      simp only [cancelledBy, List.filter_filter]
      refine List.filter_congr fun h mem => ?_
      by_cases same : h = g
      · rw [same, queued]
        simp
      · simp [same]
    rw [news]
    refine congrArg (·, true) (congrArg (s.seqAt · _) ?_)
    show ({ cancelledBy s l with queue := _, results := _ } : Sequencer) = _
    rw [queue, results]
    rfl

/-- The running check is cancelled, if it is of a gallery that `p` names (R177). -/
theorem cancelRunning_seqAt {s : State} (enabled : someStep s) {q : Sequencer} (distinct : q.queue.Nodup)
    (dark : q.dark = s.seq.dark) (l : List Instr) (p : Gallery → Bool) :
    (s.seqAt q l).cancelRunning p =
      match q.run with
      | some run =>
        if p run.g then
          (s.seqAt (headsTaken s q.queue (abortedWith .cancelled run q)) (l ++ abortNews s run q.queue), 2 ^ galleryNum run.g)
        else (s.seqAt q l, 0)
      | none => (s.seqAt q l, 0) := by
  unfold State.cancelRunning
  rw [seq_seqAt]
  cases q.run with
  | none => rfl
  | some run => simp only [abortRun_takeHead enabled distinct dark]

/-! ## CHECK -/

/-- The galleries a CHECK queues (R171). -/
def newcomers (s : State) (b : BitVec 3) : List Gallery := (galleries.filter (addresses b)).filter fun g => !s.inCheck g

theorem newcomers_eq (s : State) (b : BitVec 3) :
    galleries.filter (fun g => addresses b g && !runsGallery s g && !s.seq.queue.contains g) = newcomers s b := by
  rw [newcomers, List.filter_filter]
  refine List.filter_congr fun g _ => ?_
  rw [inCheck_eq, Bool.not_or, Bool.and_assoc (addresses b g), Bool.and_comm]

theorem newcomers_one {b : BitVec 3} {g : Gallery} (h : b.toNat = galleryNum g) (s : State) :
    newcomers s b = if s.inCheck g then [] else [g] := by
  rw [newcomers, galleries_filter_addresses_one h]
  cases inside : s.inCheck g <;> simp [inside]

theorem galleries_filter_addresses_all {b : BitVec 3} (h : b.toNat = 7) : galleries.filter (addresses b) = galleries := by
  rw [funext (addresses_all h)]
  rfl

theorem galleries_filter_addresses_bad {b : BitVec 3} (h : b = 6) : galleries.filter (addresses b) = [] := by
  subst h
  rfl

theorem contains_filter_addresses (b : BitVec 3) (g : Gallery) : (galleries.filter (addresses b)).contains g = addresses b g := by
  rw [Bool.eq_iff_iff, List.contains_iff_mem, List.mem_filter]
  exact ⟨fun h => h.2, fun h => ⟨mem_galleries g, h⟩⟩

theorem maskOf_eq_zero (p : Gallery → Bool) : maskOf p = 0 ↔ galleries.filter p = [] := by
  rw [maskOf_eq_zero_iff, List.any_eq_false, List.filter_eq_nil_iff]

theorem SeqInv.waiting {s : State} (h : SeqInv s) (idle : s.seq.run = none) : s.seq.queue = [] := by
  obtain ⟨-, -, -, -, rest, -⟩ := h
  exact (rest idle).2

/-- An IDLE sequencer has the galleries just queued alone in its queue, and takes their heads (R171, R172). -/
theorem enqueued_takeHead {s : State} (inv : SeqInv s) {l : List Gallery} (distinct : l.Nodup) :
    (s.seqAt (enqueued s l) []).takeHead =
      if s.seq.run = none then
        s.seqAt (headsTaken s (l.filter fun g => !s.inCheck g) (enqueued s l)) (headsNews s (l.filter fun g => !s.inCheck g))
      else s.seqAt (enqueued s l) [] := by
  by_cases idle : s.seq.run = none
  · have queue : (enqueued s l).queue = l.filter fun g => !s.inCheck g := by
      show s.seq.queue ++ _ = _
      rw [inv.waiting idle]
      rfl
    have once : (enqueued s l).queue.Nodup := by
      rw [queue]
      exact distinct.filter _
    rw [if_pos idle, takeHead_seqAt inv.someStep once idle rfl, queue]
    rfl
  · rw [if_neg idle]
    exact takeHead_running (q := enqueued s l) idle []

/-- The record and the notices of a CHECK that queues a gallery at least. -/
theorem enqueued_heads {s : State} (inv : SeqInv s) {l : List Gallery} (distinct : l.Nodup) :
    (s.seqAt (enqueued s l) []).takeHead =
      s.seqAt (if s.seq.run = none then headsTaken s (l.filter fun g => !s.inCheck g) (enqueued s l) else enqueued s l)
        (if s.seq.run = none then headsNews s (l.filter fun g => !s.inCheck g) else []) := by
  rw [enqueued_takeHead inv distinct]
  by_cases idle : s.seq.run = none <;> simp only [idle, if_true, if_false]

/-- CHECK (R171). -/
theorem check_next {q : Req} {s : State} (ready : Ready s .sequencer) (inv : SeqInv s) (port : q.port = .conservation) :
    exec (.check q) s = .next (after s (.check q)
      (s.setSeq (if newcomers s q.gallery = [] then s.seq
        else if s.seq.run = none then headsTaken s (newcomers s q.gallery) (enqueued s (galleries.filter (addresses q.gallery)))
        else enqueued s (galleries.filter (addresses q.gallery))))
      ((if s.seq.run = none then headsNews s (newcomers s q.gallery) else []) ++
        (if q.gallery = 6 then reply q 0x1B .range 0
        else if newcomers s q.gallery = [] then reply q 0x1B .duplicate 0
        else reply q 0x1B .accepted
          (if q.gallery = 7 then maskOf (fun g => addresses q.gallery g && !s.inCheck g) else 0)))) := by
  have allowed : conservationOnly q.port = true := by rw [port]; rfl
  have silent : (if s.seq.run = none then headsNews s [] else []) = [] := ite_self _
  show execCheck q s = _
  unfold execCheck
  rcases gallerySel_cases q.gallery with ⟨g, sel, num⟩ | ⟨sel, num⟩ | ⟨sel, six⟩
  · have notSix : ¬q.gallery = 6 := by
      have := galleryNum_lt g
      bv_omega
    have notAll : ¬q.gallery = 7 := by
      have := galleryNum_lt g
      bv_omega
    have step : State.enqueue g (s.take (.check q)) =
        (State.seqAt (s.take (.check q)) (enqueued (s.take (.check q)) [g]) [], !s.inCheck g) := by
      have := enqueue_enqueued (s.take (.check q)) [] g List.not_mem_nil
      rw [enqueued_nil, seqAt_self] at this
      exact this
    rw [newcomers_one num, galleries_filter_addresses_one num, if_neg notSix, if_neg notAll]
    cases inside : s.inCheck g
    · simp only [Bool.false_eq_true, if_false, List.cons_ne_self]
      refine request_seqAt ready allowed ?_
      rw [sel]
      dsimp only
      rw [step, inside, Bool.not_false, if_pos rfl]
      have heads := enqueued_heads (s := s.take (.check q)) inv (List.nodup_singleton g)
      have new : [g].filter (fun g => !(s.take (.check q)).inCheck g) = [g] := by
        have : (s.take (.check q)).inCheck g = false := inside
        simp [this]
      rw [new] at heads
      exact congrArg (·, Result.accepted, 0) heads
    · simp only [if_true, silent]
      refine request_seqAt (w := s.seq) (l := []) ready allowed ?_
      rw [sel]
      dsimp only
      rw [step, inside, Bool.not_true, if_neg Bool.false_ne_true]
      exact congrArg (·, Result.duplicate, 0) (seqAt_self _).symm
  · have isAll : q.gallery = 7 := by bv_omega
    have notSix : ¬q.gallery = 6 := by bv_omega
    have marks : forMask State.enqueue (s.take (.check q)) =
        (State.seqAt (s.take (.check q)) (enqueued (s.take (.check q)) galleries) [], maskOf fun g => !s.inCheck g) := by
      have := forMask_builds (f := State.enqueue) (build := fun l => State.seqAt (s.take (.check q)) (enqueued _ l) [])
        (mark := fun g => !s.inCheck g) fun l g fresh => enqueue_enqueued (s.take (.check q)) l g fresh
      rw [enqueued_nil, seqAt_self] at this
      exact this
    have whole : newcomers s q.gallery = galleries.filter fun g => !s.inCheck g := by
      rw [newcomers, galleries_filter_addresses_all num]
    have mask : (fun g => addresses q.gallery g && !s.inCheck g) = fun g => !s.inCheck g :=
      funext fun g => by rw [addresses_all num, Bool.true_and]
    rw [galleries_filter_addresses_all num, if_neg notSix, if_pos isAll, mask, whole]
    by_cases none : galleries.filter (fun g => !s.inCheck g) = []
    · have zero : maskOf (fun g => !s.inCheck g) = 0 := (maskOf_eq_zero _).2 none
      rw [none, if_pos rfl, if_pos rfl, silent]
      refine request_seqAt (w := s.seq) (l := []) ready allowed ?_
      rw [sel]
      dsimp only
      rw [marks, zero, if_pos rfl]
      exact congrArg (·, Result.duplicate, 0) (seqAt_self _).symm
    · have some : maskOf (fun g => !s.inCheck g) ≠ 0 := fun zero => none ((maskOf_eq_zero _).1 zero)
      rw [if_neg none, if_neg none]
      refine request_seqAt ready allowed ?_
      rw [sel]
      dsimp only
      rw [marks, if_neg some]
      exact congrArg (·, Result.accepted, maskOf fun g => !s.inCheck g)
        (enqueued_heads (s := s.take (.check q)) inv galleries_nodup)
  · have none : newcomers s q.gallery = [] := by rw [newcomers, galleries_filter_addresses_bad six]; rfl
    rw [none, if_pos rfl, if_pos six, silent]
    refine request_seqAt (w := s.seq) (l := []) ready allowed ?_
    rw [sel]
    exact congrArg (·, Result.range, 0) (seqAt_self _).symm


/-! ## CANCEL CHECK -/

/-- The gallery of the running check counts once more in the set of the galleries a CANCEL CHECK takes (R177). -/
theorem maskOf_add_one {p : Gallery → Bool} {g : Gallery} (out : p g = false) :
    maskOf p + 2 ^ galleryNum g = maskOf fun i => p i || decide (g = i) := by
  rw [maskOf_eq_sum, maskOf_eq_sum]
  cases g <;> simp [galleries, galleryNum, out] <;> omega

/-- The record after a CANCEL CHECK (R176, R177). -/
def cancelSeq (s : State) (b : BitVec 3) (q : Sequencer) : Sequencer :=
  match s.seq.run with
  | some r => if addresses b r.g then headsTaken s q.queue (abortedWith .cancelled r q) else q
  | none => q

/-- What a CANCEL CHECK sends of the running check (R176, R177). -/
def cancelRunNews (s : State) (b : BitVec 3) (q : Sequencer) : List Instr :=
  match s.seq.run with
  | some r => if addresses b r.g then abortNews s r q.queue else []
  | none => []

/-- The running check's part of the set of the galleries a CANCEL CHECK takes (R177). -/
def runMask (s : State) (b : BitVec 3) : Nat :=
  match s.seq.run with
  | some r => if addresses b r.g then 2 ^ galleryNum r.g else 0
  | none => 0

theorem runMask_away {s : State} {b : BitVec 3} (away : ∀ r, s.seq.run = some r → addresses b r.g = false) :
    runMask s b = 0 := by
  unfold runMask
  cases runs : s.seq.run with
  | none => rfl
  | some r => simp [away r runs]

theorem runMask_pos {s : State} {b : BitVec 3} {r : CheckRun} (runs : s.seq.run = some r) (named : addresses b r.g = true) :
    runMask s b ≠ 0 := by
  simp [runMask, runs, named]

theorem runsGallery_eq_true {s : State} {g : Gallery} : runsGallery s g = true ↔ ∃ r, s.seq.run = some r ∧ r.g = g := by
  unfold runsGallery
  cases s.seq.run <;> simp

/-- The running check is cancelled, if the field names its gallery (R177). -/
theorem cancelRunning_addressed {s : State} (inv : SeqInv s) (b : BitVec 3) (l : List Gallery) (m : List Instr)
    {p : Gallery → Bool} (same : p = addresses b) :
    (s.seqAt (cancelledBy s l) m).cancelRunning p =
      (s.seqAt (cancelSeq s b (cancelledBy s l)) (m ++ cancelRunNews s b (cancelledBy s l)), runMask s b) := by
  subst same
  rw [cancelRunning_seqAt (q := cancelledBy s l) inv.someStep (inv.distinct.filter _) rfl, cancelSeq, cancelRunNews, runMask]
  show (match s.seq.run with | some run => _ | none => _) = _
  cases s.seq.run with
  | none => simp
  | some r => by_cases named : addresses b r.g = true <;> simp [named]

/-- The running check is not of a gallery that waits. -/
theorem SeqInv.runs_not_queued {s : State} (h : SeqInv s) {r : CheckRun} (runs : s.seq.run = some r) :
    s.seq.queue.contains r.g = false := by
  obtain ⟨-, run, -⟩ := h
  simpa using (run r runs).1

/-- A gallery that waits or runs. -/
def checkHit (s : State) (g : Gallery) : Bool := s.seq.queue.contains g || runsGallery s g

/-- The set of the galleries that a CANCEL CHECK of all of them takes (R177). -/
theorem maskOf_checkHit {s : State} (inv : SeqInv s) {b : BitVec 3} (all : ∀ g, addresses b g = true) :
    maskOf s.seq.queue.contains + runMask s b = maskOf (checkHit s) := by
  unfold runMask
  cases runs : s.seq.run with
  | none =>
    refine congrArg maskOf (funext fun g => ?_)
    rw [checkHit, runsGallery, runs, Bool.or_false]
  | some r =>
    dsimp only
    rw [if_pos (all r.g), maskOf_add_one (inv.runs_not_queued runs)]
    refine congrArg maskOf (funext fun g => ?_)
    rw [checkHit, runsGallery, runs] <;> rfl

theorem cancelSeq_away {s : State} {b : BitVec 3} (away : ∀ r, s.seq.run = some r → addresses b r.g = false)
    (q : Sequencer) : cancelSeq s b q = q ∧ cancelRunNews s b q = [] := by
  unfold cancelSeq cancelRunNews
  cases runs : s.seq.run with
  | none => exact ⟨rfl, rfl⟩
  | some r => simp [away r runs]

theorem cancelledBy_away {s : State} {l : List Gallery} (away : ∀ g ∈ l, s.seq.queue.contains g = false) :
    cancelledBy s l = s.seq ∧ cancelNews s l = [] := by
  have none (g : Gallery) : (l.contains g && s.seq.queue.contains g) = false := by
    by_cases mem : g ∈ l
    · rw [away g mem, Bool.and_false]
    · rw [List.contains_eq_mem, decide_eq_false mem, Bool.false_and]
  have same : (PerGallery.ofFn fun g => s.checkResult g) = s.seq.results := results_self s.seq
  refine ⟨?_, ?_⟩
  · unfold cancelledBy
    simp only [none, Bool.not_false, List.filter_true, Bool.false_eq_true, if_false, same]
  · unfold cancelNews
    rw [List.filter_eq_nil_iff.2 fun g mem => by rw [away g mem]; exact Bool.false_ne_true]
    rfl

/-- CANCEL CHECK (R177). -/
theorem cancelCheck_next {q : Req} {s : State} (ready : Ready s .sequencer) (inv : SeqInv s) (port : q.port = .conservation) :
    exec (.cancelCheck q) s = .next (after s (.cancelCheck q)
      (s.setSeq (cancelSeq s q.gallery (cancelledBy s (galleries.filter (addresses q.gallery)))))
      (cancelNews s (galleries.filter (addresses q.gallery)) ++
        cancelRunNews s q.gallery (cancelledBy s (galleries.filter (addresses q.gallery))) ++
        (if q.gallery = 6 then reply q 0x1C .range 0
        else if galleries.any (fun g => addresses q.gallery g && checkHit s g) then
          reply q 0x1C .ok (if q.gallery = 7 then maskOf (fun g => addresses q.gallery g && checkHit s g) else 0)
        else reply q 0x1C .notFound 0))) := by
  have allowed : conservationOnly q.port = true := by rw [port]; rfl
  show execCancelCheck q s = _
  unfold execCancelCheck
  rcases gallerySel_cases q.gallery with ⟨g, sel, num⟩ | ⟨sel, num⟩ | ⟨sel, six⟩
  · have notSix : ¬q.gallery = 6 := by
      have := galleryNum_lt g
      bv_omega
    have notAll : ¬q.gallery = 7 := by
      have := galleryNum_lt g
      bv_omega
    rw [galleries_filter_addresses_one num, galleries_any_addresses_one num, if_neg notSix, if_neg notAll]
    cases queued : s.seq.queue.contains g
    · obtain ⟨kept, silent⟩ := cancelledBy_away (s := s) (l := [g]) fun h mem => List.mem_singleton.1 mem ▸ queued
      rw [kept, silent, List.nil_append]
      have one : (fun h => decide (h = g)) = addresses q.gallery := (funext (addresses_one num)).symm
      have cancel := cancelRunning_addressed (s := s.take (.cancelCheck q)) inv q.gallery [] [] one
      rw [cancelledBy_nil, seqAt_self] at cancel
      have stays : ¬((s.take (.cancelCheck q)).seq.queue.contains g = true) := Bool.eq_false_iff.1 queued
      cases hit : runsGallery s g
      · have away (r : CheckRun) (runs : s.seq.run = some r) : addresses q.gallery r.g = false := by
          have other : (r.g == g) = false := by
            unfold runsGallery at hit
            rw [runs] at hit
            exact hit
          rw [addresses_one num]
          exact other
        obtain ⟨same, none⟩ := cancelSeq_away away s.seq
        rw [same, none, List.nil_append, checkHit, queued, hit, Bool.or_false, if_neg Bool.false_ne_true]
        refine request_seqAt (w := s.seq) (l := []) ready allowed ?_
        rw [sel]
        dsimp only
        rw [cancel, if_neg stays]
        refine (if_pos ?_).trans (congrArg (·, Result.notFound, 0) (seqAt_self _).symm)
        exact runMask_away away
      · obtain ⟨r, runs, named⟩ := runsGallery_eq_true.1 hit
        rw [checkHit, queued, hit, Bool.false_or, if_pos rfl]
        refine request_seqAt ready allowed ?_
        rw [sel]
        dsimp only
        rw [cancel, if_neg stays]
        refine (if_neg ?_).trans rfl
        have at_ : addresses q.gallery r.g = true := by rw [addresses_one num, named]; exact decide_eq_true rfl
        exact runMask_pos runs at_
    · have away (r : CheckRun) (runs : s.seq.run = some r) : addresses q.gallery r.g = false := by
        rw [addresses_one num]
        refine decide_eq_false fun same => ?_
        rw [← same, inv.runs_not_queued runs] at queued
        exact Bool.false_ne_true queued
      obtain ⟨same, none⟩ := cancelSeq_away away (cancelledBy s [g])
      rw [same, none, List.append_nil, checkHit, queued, Bool.true_or, if_pos rfl]
      refine request_seqAt ready allowed ?_
      rw [sel]
      have one := cancelQueued_cancelledBy (s := s.take (.cancelCheck q)) inv.distinct [] g List.not_mem_nil
      rw [cancelledBy_nil, show cancelNews (s.take (.cancelCheck q)) [] = [] from rfl, seqAt_self] at one
      dsimp only
      rw [one]
      exact if_pos queued
  · have isAll : q.gallery = 7 := by bv_omega
    have notSix : ¬q.gallery = 6 := by bv_omega
    have named (p : Gallery → Bool) : (fun g => addresses q.gallery g && p g) = p :=
      funext fun g => by rw [addresses_all num, Bool.true_and]
    have marks := forMask_builds (f := State.cancelQueued)
      (build := fun l => State.seqAt (s.take (.cancelCheck q)) (cancelledBy (s.take (.cancelCheck q)) l)
        (cancelNews (s.take (.cancelCheck q)) l))
      (mark := s.seq.queue.contains) (cancelQueued_cancelledBy (s := s.take (.cancelCheck q)) inv.distinct)
    rw [cancelledBy_nil, show cancelNews (s.take (.cancelCheck q)) [] = [] from rfl, seqAt_self] at marks
    have cancel := cancelRunning_addressed (s := s.take (.cancelCheck q)) inv q.gallery galleries
      (cancelNews (s.take (.cancelCheck q)) galleries) (p := fun _ => true) (funext (addresses_all num)).symm
    have total := maskOf_checkHit inv (addresses_all num)
    rw [galleries_filter_addresses_all num, named, if_neg notSix, if_pos isAll]
    cases hit : galleries.any (checkHit s)
    · have zero : maskOf (checkHit s) = 0 := (maskOf_eq_zero_iff _).2 hit
      have none (g : Gallery) : checkHit s g = false := by simpa using List.any_eq_false.1 hit g (mem_galleries g)
      have idle (r : CheckRun) (runs : s.seq.run = some r) : addresses q.gallery r.g = false := by
        have := none r.g
        rw [checkHit, runsGallery_eq_true.2 ⟨r, runs, rfl⟩, Bool.or_true] at this
        cases this
      obtain ⟨kept, silent⟩ := cancelledBy_away (s := s) (l := galleries) fun g _ => (Bool.or_eq_false_iff.1 (none g)).1
      obtain ⟨same, quiet⟩ := cancelSeq_away idle s.seq
      rw [kept, silent, same, quiet, List.nil_append, List.nil_append, if_neg Bool.false_ne_true]
      refine request_seqAt (w := s.seq) (l := []) ready allowed ?_
      rw [sel]
      dsimp only
      rw [marks]
      dsimp only
      rw [cancel]
      exact (if_pos (total.trans zero)).trans (congrArg (·, Result.notFound, 0) (seqAt_self _).symm)
    · have some : maskOf (checkHit s) ≠ 0 := fun zero => by
        rw [(maskOf_eq_zero_iff _).1 zero] at hit
        cases hit
      rw [if_pos rfl]
      refine request_seqAt ready allowed ?_
      rw [sel]
      dsimp only
      rw [marks]
      dsimp only
      rw [cancel]
      exact (if_neg fun zero => some (total.symm.trans zero)).trans (congrArg (_, Result.ok, ·) total)
  · have none : galleries.any (fun g => addresses q.gallery g && checkHit s g) = false := by
      rw [six]
      rfl
    have away (r : CheckRun) (_ : s.seq.run = some r) : addresses q.gallery r.g = false := by
      rw [six]
      cases r.g <;> rfl
    obtain ⟨same, quiet⟩ := cancelSeq_away away s.seq
    rw [galleries_filter_addresses_bad six, cancelledBy_nil, same, quiet, if_pos six]
    refine request_seqAt (w := s.seq) (l := []) ready allowed ?_
    rw [sel]
    exact congrArg (·, Result.range, 0) (seqAt_self _).symm

/-! ## CHECK SETUP -/

/-- The setup of a value within its layout is written bit by bit, and reads back as the value (R178, R192). -/
theorem setupOf_eq {v : Half} (small : v.toNat < 64) :
    setupOf v = ⟨⟨v.toNat.testBit 0, v.toNat.testBit 1, v.toNat.testBit 2, v.toNat.testBit 3⟩, v.toNat / 16⟩ :=
  congrArg (CheckSetup.mk _) (Nat.mod_eq_of_lt (by omega))

theorem setupValue_setupOf {v : Half} (small : v.toNat < 64) : setupValue (setupOf v) = v.toNat := by
  rw [setupOf_eq small, setupValue]
  simp only [bitsLow, Nat.toNat_testBit]
  omega

/-- Settles O52: a CHECK queues the galleries it names that neither run nor wait, a CANCEL CHECK takes those that do. -/
theorem checkRequestsTaken : Obligations.CheckRequestsTaken := by
  intro q s ready inv port v all runs queued fresh more waiting gone hit cancelled
  have allowed : conservationOnly q.port = true := by rw [port]; rfl
  have freshAre : more = newcomers s q.gallery := newcomers_eq s q.gallery
  have isFresh (g : Gallery) : fresh g = (addresses q.gallery g && !s.inCheck g) := by
    show (addresses q.gallery g && !runsGallery s g && !s.seq.queue.contains g) = _
    rw [inCheck_eq, Bool.not_or, Bool.and_assoc]
  have waits : waiting = enqueued s (galleries.filter (addresses q.gallery)) := by
    unfold waiting enqueued
    simp only [isFresh, contains_filter_addresses, freshAre] <;> rfl
  have goes : cancelled = cancelledBy s (galleries.filter (addresses q.gallery)) := by
    unfold cancelledBy
    simp only [contains_filter_addresses] <;> rfl
  have news : (galleries.filter gone).flatMap (fun g => attention s .checkDone (some g)) =
      cancelNews s (galleries.filter (addresses q.gallery)) := by
    rw [cancelNews, List.filter_filter]
    refine congrArg (List.flatMap _) (List.filter_congr fun g _ => Bool.and_comm _ _)
  refine ⟨⟨_, check_next ready inv port, rfl, ?_, ?_⟩, ⟨_, cancelCheck_next ready inv port, rfl, ?_, ?_⟩, ?_⟩
  · rw [freshAre, waits] <;> rfl
  · rw [freshAre, funext isFresh]
    simp only [all, decide_eq_true_eq, List.append_assoc] <;> rfl
  · rw [goes] <;> rfl
  · rw [news, goes]
    simp only [all, decide_eq_true_eq, List.append_assoc] <;> rfl
  · show execCheckSetup q s = _
    unfold execCheckSetup
    by_cases large : 64 ≤ v
    · rw [if_pos large]
      exact request_answers ready allowed rfl (if_pos large)
    · rw [if_neg large]
      by_cases none : v % 16 = 0
      · rw [if_pos none]
        exact request_answers ready allowed rfl ((if_neg large).trans (if_pos none))
      · rw [if_neg none, ← setupOf_eq (Nat.lt_of_not_le large)]
        refine request_answers ready allowed rfl ((if_neg large).trans ((if_neg none).trans ?_))
        rw [setupValue_setupOf (Nat.lt_of_not_le large)]
        rfl

end Sys2Proof.Machine
end

section
/-! SUPPORT. The awaited step reading: its verdict, the next step, the end of the channel and of the gallery (O54). -/

namespace Sys2Proof.Machine
open Sys2Proof

/-! ## Verdicts -/

theorem isFail_eq (v : Verdict) : isFail v = failed v := by cases v <;> rfl

/-- The verdict of a step whose reading has the step's shape (R174). -/
theorem stepVerdict_eq (f : ChanCfg) (k : Kind) {x : CheckStep} {r : Reading} (wf : readingWf x r = true) :
    stepVerdict f k x r = some (verdictOf f k x r) := by
  cases x with
  | openInput | shortInput =>
    cases r with
    | single y => rfl
    | pair a b => cases wf
  | reference =>
    cases r with
    | single y =>
      have inner : (dist y.toNat 32768 ≤ 655) = (32113 ≤ y.toNat ∧ y.toNat ≤ 33423) := propext (by unfold dist; omega)
      have outer : (dist y.toNat 32768 ≤ 1638) = (31130 ≤ y.toNat ∧ y.toNat ≤ 34406) := propext (by unfold dist; omega)
      simp only [stepVerdict, verdictOf, inner, outer]
    | pair a b => cases wf
  | response =>
    cases r with
    | single y => cases wf
    | pair a b =>
      refine congrArg some ?_
      have tol : ((4096 * f.gain / 1024 / 10 : Nat) : Int) = ((4096 * f.gain / 1024 : Nat) : Int) / 10 := by omega
      simp only [responseVerdict, verdictOf, tol]

theorem worstOf_eq (t : PerStep Verdict) : worstOf t = worst t := by
  unfold worstOf worst stepValues
  rw [funext isFail_eq]
  simp only [List.contains_iff_mem] <;> rfl

theorem summaryOf_eq (t : PerKind Verdict) :
    summaryOf t =
      if (kindValues t).any failed then .failed else if .warn ∈ kindValues t then .warned else .passed := by
  unfold summaryOf
  rw [funext isFail_eq]
  simp only [List.contains_iff_mem]

/-! ## The order of channels and steps -/

theorem firstEnabled_stepsAfter (s : State) (x : CheckStep) :
    s.firstEnabled (stepsAfter x) = enabledFrom s (stepCode x + 1) := by cases x <;> rfl

/-- The enabled steps after one follow one another (R173). -/
theorem steps_seqAt (s : State) (q : Sequencer) (l : List Instr) (g : Gallery) (k : Kind) (x : CheckStep) :
    (s.seqAt q l).steps g k (stepsAfter x) =
      match enabledFrom s (stepCode x + 1) with
      | some z => (s.seqAt { q with
          run := some ⟨g, k, z, .dwell (dwellSeconds s.ret.setup.dwellIdx)⟩
          condition := some (⟨g, k⟩, z) } l, true)
      | none => ((s.seqAt q l).endChannel g k, false) := by
  unfold State.steps
  rw [firstEnabled_stepsAfter] <;> rfl

theorem kindsAfter_eq (k : Kind) : kindsAfter k = kinds.drop (kindNum k + 1) := by cases k <;> rfl

/-- The channel verdicts when a channel has ended and the DISABLED ones after it were SKIPPED (R173, R175). -/
theorem skip_ended (s : State) (g : Gallery) (k : Kind) (t : PerKind Verdict) (ended : Verdict) :
    skip (t.set k ended) ((kindsAfter k).takeWhile (s.off g)) =
      .ofFn fun j => if j = k then ended
        else if j ∈ kinds.drop (kindNum k + 1) ∧
            (firstKind s g ((kinds.drop (kindNum k + 1)).take (kindNum j - kindNum k))).isNone then .skipped
        else t.get j := by
  have before (j : Kind) : j ∈ (kindsAfter k).takeWhile (s.off g) ↔
      j ∈ kinds.drop (kindNum k + 1) ∧
        firstKind s g ((kinds.drop (kindNum k + 1)).take (kindNum j - kindNum k)) = none := by
    rw [firstKind_none_iff]
    cases k <;> cases j <;> simp [kinds, kindsAfter, kindNum, List.takeWhile_cons]
  refine PerKind.ext_get fun j => ?_
  simp only [skip, PerKind.get_ofFn, PerKind.get_set, before, Option.isNone_iff_eq_none]
  by_cases same : j = k
  · subst same
    have out : ¬j ∈ kinds.drop (kindNum j + 1) := by cases j <;> decide
    simp [out]
  · simp [same]

/-- The end of a channel (R175). -/
theorem endChannel_seqAt (s : State) (q : Sequencer) (l : List Instr) (g : Gallery) (k : Kind) :
    (s.seqAt q l).endChannel g k =
      s.seqAt (q.withResult g { q.results.get g with
        chans := (q.results.get g).chans.set k (worst ((q.results.get g).steps.get k)) })
        (l ++ [.verdictNotice ⟨g, k⟩ (noticeOf (worst ((q.results.get g).steps.get k)))]) := by
  unfold State.endChannel
  simp only [checkResult_seqAt, worstOf_eq, setChanVerdict_seqAt, send_seqAt]

/-- The channels after one that is over take their turns, or the gallery completes and the next heads are taken (R172, R173,
R175). -/
theorem nextChannel_seqAt {s : State} (enabled : someStep s) {q : Sequencer} (distinct : q.queue.Nodup)
    (dark : q.dark = s.seq.dark) (g : Gallery) (k : Kind) (l : List Instr) :
    (s.seqAt q l).nextChannel g k =
      match firstKind s g (kindsAfter k) with
      | some j => s.seqAt ((q.skipped s g (kindsAfter k)).begun s g j) (l ++ [.channelEnterNotice ⟨g, j⟩])
      | none => s.seqAt (headsTaken s q.queue ((q.skipped s g (kindsAfter k)).completed g))
          (l ++ (attention s .checkDone (some g) ++ headsNews s q.queue)) := by
  unfold State.nextChannel
  rw [turnsOrComplete_seqAt enabled]
  cases firstKind s g (kindsAfter k) with
  | some j => rfl
  | none =>
    refine (takeHead_seqAt enabled (q := (q.skipped s g (kindsAfter k)).completed g) distinct rfl dark _).trans ?_
    rw [List.append_assoc]
    rfl

/-! ## The channel that is over -/

/-- The record when the current channel has ended with a verdict. -/
def Sequencer.over (q : Sequencer) (g : Gallery) (k : Kind) (ended : Verdict) (steps : PerKind (PerStep Verdict)) : Sequencer :=
  { q with condition := none }.withResult g
    { q.results.get g with chans := (q.results.get g).chans.set k ended, steps := steps }

/-- The gallery's result when a channel has ended and the DISABLED ones after it were SKIPPED. -/
def overResult (s : State) (g : Gallery) (k : Kind) (ended : Verdict) (steps : PerKind (PerStep Verdict)) : CheckResult :=
  { s.checkResult g with
    chans := skip ((s.checkResult g).chans.set k ended) ((kindsAfter k).takeWhile (s.off g)), steps := steps }

/-- The sequencer's record after the channel (R172, R173, R175). -/
def overSeq (s : State) (g : Gallery) (k : Kind) (r : CheckResult) : Sequencer :=
  match firstKind s g (kindsAfter k) with
  | some j => { s.seq with
      results := s.seq.results.set g r
      run := some (turnOf s g j)
      condition := some (⟨g, j⟩, (turnOf s g j).step) }
  | none => headsTaken s s.seq.queue { s.seq with
      results := s.seq.results.set g { r with summary := summaryOf r.chans }
      run := none
      condition := none }

/-- What is sent when the channel is over. -/
def nextNews (s : State) (g : Gallery) (k : Kind) : List Instr :=
  match firstKind s g (kindsAfter k) with
  | some j => [.channelEnterNotice ⟨g, j⟩]
  | none => attention s .checkDone (some g) ++ headsNews s s.seq.queue

theorem nextChannel_over {s : State} (inv : SeqInv s) (g : Gallery) (k : Kind) (ended : Verdict)
    (steps : PerKind (PerStep Verdict)) (l : List Instr) :
    (s.seqAt (s.seq.over g k ended steps) l).nextChannel g k =
      s.seqAt (overSeq s g k (overResult s g k ended steps)) (l ++ nextNews s g k) := by
  have skipped : (s.seq.over g k ended steps).skipped s g (kindsAfter k) =
      { s.seq with condition := none }.withResult g (overResult s g k ended steps) := by
    simp [Sequencer.skipped, Sequencer.over, overResult]
    rfl
  rw [nextChannel_seqAt inv.someStep (q := s.seq.over g k ended steps) inv.distinct rfl, skipped, overSeq, nextNews]
  cases firstKind s g (kindsAfter k) with
  | some j => rfl
  | none =>
    simp [Sequencer.completed]
    rfl
/-! ## The reading taken -/

/-- The verdict of a step is written (R174). -/
def stepsJudged (s : State) (y : CheckRun) (v : Verdict) : PerKind (PerStep Verdict) :=
  (s.checkResult y.g).steps.set y.k (((s.checkResult y.g).steps.get y.k).set y.step v)

/-- The step after one whose verdict is not a FAIL (R174). -/
def stepNext (s : State) (y : CheckRun) (v : Verdict) : Option CheckStep :=
  if failed v then none else enabledFrom s (stepCode y.step + 1)

/-- The verdict of the current step when another step follows it (R173, R174). -/
theorem judgeStep_next {s : State} {y : CheckRun} {v : Verdict} {z : CheckStep} (next : stepNext s y v = some z) :
    (s.seqAt { s.seq with condition := none } []).judgeStep y v =
      s.seqAt { s.seq with
        results := s.seq.results.set y.g { s.checkResult y.g with steps := stepsJudged s y v }
        run := some ⟨y.g, y.k, z, .dwell (dwellSeconds s.ret.setup.dwellIdx)⟩
        condition := some (⟨y.g, y.k⟩, z) } [] := by
  unfold stepNext at next
  split at next
  · cases next
  next passed =>
    unfold State.judgeStep
    rw [setStepVerdict_seqAt, isFail_eq, if_neg passed]
    dsimp only
    rw [steps_seqAt, next] <;> rfl

/-- The verdict of the current step when the channel ends with it (R174, R175). -/
theorem judgeStep_ends {s : State} (inv : SeqInv s) {y : CheckRun} {v : Verdict} (last : stepNext s y v = none) :
    (s.seqAt { s.seq with condition := none } []).judgeStep y v =
      s.seqAt (overSeq s y.g y.k (overResult s y.g y.k (worst ((stepsJudged s y v).get y.k)) (stepsJudged s y v)))
        (.verdictNotice ⟨y.g, y.k⟩ (noticeOf (worst ((stepsJudged s y v).get y.k))) :: nextNews s y.g y.k) := by
  have ends : (State.seqAt s (Sequencer.withResult { s.seq with condition := none } y.g
      { s.checkResult y.g with steps := stepsJudged s y v }) []).endChannel y.g y.k =
      s.seqAt (s.seq.over y.g y.k (worst ((stepsJudged s y v).get y.k)) (stepsJudged s y v))
        [.verdictNotice ⟨y.g, y.k⟩ (noticeOf (worst ((stepsJudged s y v).get y.k)))] := by
    rw [endChannel_seqAt, get_withResult, if_pos rfl, withResult_withResult]
    rfl
  have after_ := nextChannel_over inv y.g y.k (worst ((stepsJudged s y v).get y.k)) (stepsJudged s y v)
    [.verdictNotice ⟨y.g, y.k⟩ (noticeOf (worst ((stepsJudged s y v).get y.k)))]
  rw [← ends] at after_
  unfold State.judgeStep
  rw [setStepVerdict_seqAt, isFail_eq]
  dsimp only
  unfold stepNext at last
  split at last
  next fails => exact (if_pos fails).trans after_
  next passed =>
    rw [if_neg passed, steps_seqAt, last]
    exact after_

theorem setCondition_eq_seqAt (s : State) : s.setCondition none = s.seqAt { s.seq with condition := none } [] :=
  (State.sendAll_nil _).symm

/-- A reading for a channel that is CHECKING, whose step is followed by another. -/
theorem takeReading_next {s : State} {y : CheckRun} {r : Reading} {z : CheckStep} (wf : readingWf y.step r = true)
    (checking : (s.chan ⟨y.g, y.k⟩).state = .checking)
    (next : stepNext s y (verdictOf (s.cfg ⟨y.g, y.k⟩) y.k y.step r) = some z) :
    s.takeReading y r =
      s.seqAt { s.seq with
        results := s.seq.results.set y.g
          { s.checkResult y.g with steps := stepsJudged s y (verdictOf (s.cfg ⟨y.g, y.k⟩) y.k y.step r) }
        run := some ⟨y.g, y.k, z, .dwell (dwellSeconds s.ret.setup.dwellIdx)⟩
        condition := some (⟨y.g, y.k⟩, z) } [] := by
  unfold State.takeReading
  rw [stepVerdict_eq _ _ wf]
  dsimp only
  rw [setCondition_eq_seqAt]
  exact (if_pos checking).trans (judgeStep_next next)

/-- A reading for a channel that is CHECKING, which ends the channel. -/
theorem takeReading_ends {s : State} (inv : SeqInv s) {y : CheckRun} {r : Reading} (wf : readingWf y.step r = true)
    (checking : (s.chan ⟨y.g, y.k⟩).state = .checking) {v : Verdict} (is : verdictOf (s.cfg ⟨y.g, y.k⟩) y.k y.step r = v)
    (last : stepNext s y v = none) :
    s.takeReading y r =
      s.seqAt (overSeq s y.g y.k (overResult s y.g y.k (worst ((stepsJudged s y v).get y.k)) (stepsJudged s y v)))
        (.verdictNotice ⟨y.g, y.k⟩ (noticeOf (worst ((stepsJudged s y v).get y.k))) :: nextNews s y.g y.k) := by
  unfold State.takeReading
  rw [stepVerdict_eq _ _ wf, is]
  dsimp only
  rw [setCondition_eq_seqAt]
  exact (if_pos checking).trans (judgeStep_ends inv last)

/-- A reading for a channel that is no longer CHECKING (R174). -/
theorem takeReading_skips {s : State} (inv : SeqInv s) {y : CheckRun} {r : Reading} (wf : readingWf y.step r = true)
    (other : ¬(s.chan ⟨y.g, y.k⟩).state = .checking) :
    s.takeReading y r =
      s.seqAt (overSeq s y.g y.k (overResult s y.g y.k .skipped (s.checkResult y.g).steps)) (nextNews s y.g y.k) := by
  unfold State.takeReading
  rw [stepVerdict_eq _ _ wf]
  dsimp only
  rw [setCondition_eq_seqAt]
  refine (if_neg other).trans (Eq.trans ?_ (nextChannel_over inv y.g y.k .skipped (s.checkResult y.g).steps []))
  rfl

/-- Settles O54: the reading's verdict decides between the next step and the end of the channel. -/
theorem readingJudged : Obligations.ReadingJudged := by
  intro y r s ready inv runs phase wf c i checking v res steps next after' rest ended chans closed summary idle
  have awaits : awaited s c y.step = some y := by
    unfold awaited
    rw [runs]
    exact if_pos ⟨rfl, rfl, rfl, phase⟩
  have takes {q : Sequencer} {l : List Instr} (reads : (s.take i).takeReading y r = (s.take i).seqAt q l) :
      exec i s = .next (after s i (s.setSeq q) l) := by
    show execStepReading c y.step r s = _
    unfold execStepReading
    refine deliver_seqAt ready ?_
    show (match awaited s c y.step with | some run => _ | none => _) = _
    rw [awaits]
    exact reads
  have chansAre : chans = skip (res.chans.set y.k ended) ((kindsAfter y.k).takeWhile (s.off y.g)) :=
    (skip_ended s y.g y.k res.chans ended).symm
  have leaves (e : Verdict) (st : PerKind (PerStep Verdict)) (same : ended = e)
      (kept : (if checking then res.steps.set y.k steps else res.steps) = st) :
      overSeq s y.g y.k (overResult s y.g y.k e st) =
        match firstKind s y.g rest with
        | some k => after' closed (some (turnOf s y.g k))
        | none => headsTaken s s.seq.queue idle := by
    have closedIs : closed = overResult s y.g y.k e st := by
      show (⟨res.summary, chans, if checking then res.steps.set y.k steps else res.steps⟩ : CheckResult) = _
      rw [chansAre, kept, same] <;> rfl
    have summaryIs : summary = summaryOf closed.chans := (summaryOf_eq chans).symm
    rw [overSeq, kindsAfter_eq, ← closedIs, ← summaryIs]
    cases firstKind s y.g rest <;> rfl
  by_cases live : (s.chan c).state = .checking
  · have isChecking : checking = true := decide_eq_true live
    cases last : stepNext s y v with
    | some z =>
      have isNext : next = some z := last
      refine ⟨_, takes (takeReading_next (s := s.take i) wf live last), rfl, ?_, ?_⟩
      · rw [isChecking, isNext] <;> rfl
      · rw [isChecking, isNext] <;> rfl
    | none =>
      have isNext : next = none := last
      have worstIs : worst ((stepsJudged s y v).get y.k) = worst steps := by
        rw [stepsJudged, PerKind.get_set, if_pos rfl]
      have endedIs : ended = worst ((stepsJudged s y v).get y.k) := by
        rw [worstIs]
        exact if_pos isChecking
      refine ⟨_, takes (takeReading_ends (s := s.take i) inv wf live rfl last), rfl, ?_, ?_⟩
      · rw [isNext]
        refine (leaves _ _ endedIs (if_pos isChecking)).trans ?_
        rw [isChecking] <;> rfl
      · rw [isNext, isChecking]
        refine congrArg (_ ++ ·) ?_
        show Instr.verdictNotice c (noticeOf (worst ((stepsJudged s y v).get y.k))) :: nextNews s y.g y.k = _
        rw [worstIs, noticeOf, isFail_eq, nextNews, kindsAfter_eq] <;> rfl
  · have isChecking : checking = false := decide_eq_false live
    have unchecked : ¬checking = true := by rw [isChecking]; exact Bool.false_ne_true
    refine ⟨_, takes (takeReading_skips (s := s.take i) inv wf live), rfl, ?_, ?_⟩
    · refine (leaves _ _ (if_neg unchecked) (if_neg unchecked)).trans ?_
      rw [isChecking] <;> rfl
    · rw [isChecking]
      refine congrArg (_ ++ ·) ?_
      show nextNews s y.g y.k = _
      rw [nextNews, kindsAfter_eq] <;> rfl

end Sys2Proof.Machine
end

section
/-! SUPPORT. The sequencer's record stays consistent (O16). -/

namespace Sys2Proof.Machine
open Sys2Proof

/-! ## The record in order -/

/-- The sequencer's record is consistent (R170). -/
structure SeqOk (q : Sequencer) : Prop where
  distinct : q.queue.Nodup
  runs : ∀ r, q.run = some r → r.g ∉ q.queue ∧ (q.results.get r.g).summary = .running
  queued : ∀ g ∈ q.queue, (q.results.get g).summary = .queued
  dwells : ∀ r n, q.run = some r → r.phase = .dwell n → 1 ≤ n ∧ n ≤ 8
  idle : q.run = none → q.condition = none ∧ q.queue = []

/-- The record is consistent but for heads that an IDLE sequencer has yet to take. -/
structure SeqFree (q : Sequencer) : Prop where
  distinct : q.queue.Nodup
  idle : q.run = none
  queued : ∀ g ∈ q.queue, (q.results.get g).summary = .queued
  condition : q.condition = none

/-- The setup enables a step and has a dwell index of its table (R178). -/
def SetupOk (c : CheckSetup) : Prop := (∃ x, c.enables.get x = true) ∧ c.dwellIdx ≤ 3

theorem seqInv_iff (s : State) : SeqInv s ↔ SeqOk s.seq ∧ SetupOk s.ret.setup :=
  ⟨fun ⟨distinct, runs, queued, dwells, idle, enabled, index⟩ => ⟨⟨distinct, runs, queued, dwells, idle⟩, enabled, index⟩,
    fun ⟨⟨distinct, runs, queued, dwells, idle⟩, enabled, index⟩ => ⟨distinct, runs, queued, dwells, idle, enabled, index⟩⟩

theorem SeqInv.ok {s : State} (h : SeqInv s) : SeqOk s.seq := ((seqInv_iff s).1 h).1

theorem SeqInv.setupOk {s : State} (h : SeqInv s) : SetupOk s.ret.setup := ((seqInv_iff s).1 h).2

/-- What is left of a consistent state whose sequencer's record is replaced by a consistent one. -/
theorem SeqInv.seqAt {s : State} (h : SeqInv s) {q : Sequencer} (ok : SeqOk q) (l : List Instr) : SeqInv (s.seqAt q l) :=
  (seqInv_iff _).2 ⟨ok, h.setupOk⟩

theorem seqInv_own (s : State) : SeqInv s ↔ SeqInv (s.own .sequencer) := by rw [seqInv_iff, seqInv_iff]; rfl

/-! ## What keeps the record in order -/

theorem SeqOk.withCondition {q : Sequencer} (h : SeqOk q) : SeqOk { q with condition := none } :=
  ⟨h.distinct, h.runs, h.queued, h.dwells, fun idle => ⟨rfl, (h.idle idle).2⟩⟩

theorem dwellSeconds_range (n : Nat) : 1 ≤ dwellSeconds n ∧ dwellSeconds n ≤ 8 := by
  unfold dwellSeconds
  split <;> decide

/-- The current step changes, in a gallery whose result goes on RUNNING. -/
theorem SeqOk.goOn {q : Sequencer} (h : SeqOk q) {y : CheckRun} (runs : q.run = some y) {r : CheckResult}
    (same : r.summary = (q.results.get y.g).summary) (k : Kind) (x : CheckStep) {n : Nat} (dwell : 1 ≤ n ∧ n ≤ 8)
    (c : Option (Chan × CheckStep)) :
    SeqOk { q with
      results := q.results.set y.g r
      run := some ⟨y.g, k, x, .dwell n⟩
      condition := c } := by
  obtain ⟨out, running⟩ := h.runs y runs
  refine ⟨h.distinct, fun z eq => ?_, fun g mem => ?_, fun z m eq phase => ?_, nofun⟩
  · cases eq
    exact ⟨out, by rw [PerGallery.get_set, if_pos rfl, same, running]⟩
  · have other : g ≠ y.g := fun e => out (e ▸ mem)
    rw [PerGallery.get_set, if_neg other]
    exact h.queued g mem
  · cases eq
    cases phase
    exact dwell

/-- The running check ends with a result, the heads yet to be taken. -/
theorem SeqOk.ends {q : Sequencer} (h : SeqOk q) {y : CheckRun} (runs : q.run = some y) (r : CheckResult) :
    SeqFree { q with
      results := q.results.set y.g r
      run := none
      condition := none } := by
  obtain ⟨out, -⟩ := h.runs y runs
  refine ⟨h.distinct, rfl, fun g mem => ?_, rfl⟩
  have other : g ≠ y.g := fun e => out (e ▸ mem)
  rw [PerGallery.get_set, if_neg other]
  exact h.queued g mem

theorem queueOf_sublist (s : State) (l : List Gallery) : (queueOf s l).Sublist l :=
  (List.drop_sublist _ _).trans (List.dropWhile_sublist _)

/-- The check that runs is of a gallery that was queued and is queued no longer (R172). -/
theorem runOf_eq_some {s : State} {l : List Gallery} (distinct : l.Nodup) {r : CheckRun} (runs : runOf s l = some r) :
    r.g ∈ l ∧ r.g ∉ queueOf s l ∧ runsCheck s r.g = true ∧ r.phase = .dwell (dwellSeconds s.ret.setup.dwellIdx) := by
  induction l with
  | nil => cases runs
  | cons g l ih =>
    obtain ⟨fresh, rest⟩ := List.nodup_cons.1 distinct
    rw [runOf_cons] at runs
    rw [queueOf_cons]
    cases can : runsCheck s g <;> rw [can] at runs
    · obtain ⟨mem, out, able, phase⟩ := ih rest runs
      exact ⟨List.mem_cons_of_mem _ mem, out, able, phase⟩
    · cases runs
      exact ⟨List.mem_cons_self, fresh, can, rfl⟩

theorem queueOf_of_idle {s : State} {l : List Gallery} (idle : runOf s l = none) : queueOf s l = [] := by
  induction l with
  | nil => rfl
  | cons g l ih =>
    rw [runOf_cons] at idle
    rw [queueOf_cons]
    cases can : runsCheck s g <;> rw [can] at idle
    · exact ih idle
    · cases idle

theorem summary_headResult {s : State} {g : Gallery} (runs : runsCheck s g = true) : (headResult s g).summary = .running := by
  unfold runsCheck at runs
  obtain ⟨lit, live⟩ := Bool.and_eq_true_iff.1 runs
  rw [headResult, if_neg (by simpa using lit), if_pos live]

/-- An IDLE sequencer that has taken the heads of its queue is in order (R172). -/
theorem SeqFree.headsTaken {q : Sequencer} (h : SeqFree q) (s : State) : SeqOk (headsTaken s q.queue q) := by
  refine ⟨h.distinct.sublist (queueOf_sublist s _), fun r runs => ?_, fun g mem => ?_, fun r n runs phase => ?_, fun idle => ?_⟩
  · obtain ⟨mem, out, able, -⟩ := runOf_eq_some h.distinct runs
    refine ⟨out, ?_⟩
    simp only [Sys2Proof.Machine.headsTaken, PerGallery.get_ofFn]
    rw [if_pos ⟨mem, out⟩, summary_headResult able]
  · have inside : g ∈ queueOf s q.queue := mem
    simp only [Sys2Proof.Machine.headsTaken, PerGallery.get_ofFn]
    rw [if_neg fun both => both.2 inside]
    exact h.queued g (queueOf_subset s _ mem)
  · obtain ⟨-, -, -, is⟩ := runOf_eq_some h.distinct runs
    rw [is] at phase
    cases phase
    exact dwellSeconds_range _
  · have none : runOf s q.queue = none := idle
    simp only [Sys2Proof.Machine.headsTaken, none, queueOf_of_idle none]
    exact ⟨h.condition, trivial⟩

/-! ## What the block's commands leave -/

theorem SeqOk.aborted {q : Sequencer} (h : SeqOk q) {y : CheckRun} (runs : q.run = some y) (sm : Summary) :
    SeqFree (abortedWith sm y q) := h.ends runs _

/-- The record after a channel (R172, R173, R175). -/
theorem SeqInv.overSeq {s : State} (inv : SeqInv s) {y : CheckRun} (runs : s.seq.run = some y) {r : CheckResult}
    (same : r.summary = (s.checkResult y.g).summary) : SeqOk (overSeq s y.g y.k r) := by
  unfold Sys2Proof.Machine.overSeq
  split
  · exact inv.ok.goOn runs same _ _ (dwellSeconds_range _) _
  · exact (inv.ok.ends runs _).headsTaken s

theorem awaited_eq_some {s : State} {c : Chan} {x : CheckStep} {y : CheckRun} (h : awaited s c x = some y) :
    s.seq.run = some y := by
  unfold awaited at h
  split at h
  next run runs =>
    split at h
    · cases h
      exact runs
    · cases h
  · cases h

/-- A reading of another shape has no verdict (R174). -/
theorem stepVerdict_shape (f : ChanCfg) (k : Kind) {x : CheckStep} {r : Reading} (h : ¬readingWf x r = true) :
    stepVerdict f k x r = none := by
  cases x <;> cases r <;> simp_all [readingWf, stepVerdict]

/-- A reading taken leaves the record in order (R174, R175). -/
theorem SeqInv.takeReading {s : State} (inv : SeqInv s) {y : CheckRun} (runs : s.seq.run = some y) (r : Reading) :
    SeqInv (s.takeReading y r) := by
  by_cases wf : readingWf y.step r = true
  · by_cases checking : (s.chan ⟨y.g, y.k⟩).state = .checking
    · cases next : stepNext s y (verdictOf (s.cfg ⟨y.g, y.k⟩) y.k y.step r) with
      | some z =>
        rw [takeReading_next wf checking next]
        refine inv.seqAt (inv.ok.goOn runs ?_ _ _ (dwellSeconds_range _) _) _
        rfl
      | none =>
        rw [takeReading_ends inv wf checking rfl next]
        refine inv.seqAt (inv.overSeq runs ?_) _
        rfl
    · rw [takeReading_skips inv wf checking]
      refine inv.seqAt (inv.overSeq runs ?_) _
      rfl
  · unfold State.takeReading
    rw [stepVerdict_shape _ _ wf]
    exact inv

/-- The record with galleries queued (R171). -/
theorem SeqInv.enqueued {s : State} (inv : SeqInv s) {l : List Gallery} (distinct : l.Nodup) :
    (Sys2Proof.Machine.enqueued s l).queue.Nodup ∧
      ∀ g ∈ (Sys2Proof.Machine.enqueued s l).queue, ((Sys2Proof.Machine.enqueued s l).results.get g).summary = .queued := by
  have fresh (g : Gallery) (mem : g ∈ l.filter fun g => !s.inCheck g) : g ∈ l ∧ s.inCheck g = false := by simpa using mem
  refine ⟨List.nodup_append.2 ⟨inv.distinct, distinct.filter _, fun g mem h joins => ?_⟩, fun g mem => ?_⟩
  · rintro rfl
    have := (fresh _ joins).2
    rw [inCheck_eq, List.contains_iff_mem.2 mem, Bool.or_true] at this
    cases this
  · simp only [Sys2Proof.Machine.enqueued, PerGallery.get_ofFn]
    split
    · rfl
    next other =>
      rcases List.mem_append.1 mem with old | new
      · exact inv.ok.queued g old
      · obtain ⟨named, out⟩ := fresh g new
        simp [named, out] at other
/-- The record after a CHECK (R171, R172). -/
theorem SeqInv.checked {s : State} (inv : SeqInv s) {l : List Gallery} (distinct : l.Nodup)
    {q : Sequencer} (is : q = if (l.filter fun g => !s.inCheck g) = [] then s.seq
      else if s.seq.run = none then headsTaken s (l.filter fun g => !s.inCheck g) (Machine.enqueued s l)
      else Machine.enqueued s l) : SeqOk q := by
  obtain ⟨once, waits⟩ := inv.enqueued distinct
  subst is
  split
  · exact inv.ok
  split
  next idle =>
    have queue : (Machine.enqueued s l).queue = l.filter fun g => !s.inCheck g := by
      show s.seq.queue ++ _ = _
      rw [inv.waiting idle]
      rfl
    have free : SeqFree (Machine.enqueued s l) := ⟨once, idle, waits, (inv.ok.idle idle).1⟩
    have taken := free.headsTaken s
    rwa [queue] at taken
  next busy =>
    refine ⟨once, fun r runs => ?_, waits, inv.ok.dwells, fun idle => absurd idle busy⟩
    obtain ⟨out, running⟩ := inv.ok.runs r runs
    have inside : s.inCheck r.g = true := by
      rw [inCheck_eq, runsGallery_eq_true.2 ⟨r, runs, rfl⟩, Bool.true_or]
    refine ⟨fun mem => ?_, ?_⟩
    · rcases List.mem_append.1 mem with old | new
      · exact out old
      · simp [inside] at new
    · simp only [Machine.enqueued, PerGallery.get_ofFn, inside]
      rw [Bool.not_true, Bool.and_false, if_neg Bool.false_ne_true]
      exact running

/-- The record after a CANCEL CHECK (R176, R177). -/
theorem SeqInv.cancelled {s : State} (inv : SeqInv s) (b : BitVec 3) (l : List Gallery) :
    SeqOk (cancelSeq s b (cancelledBy s l)) := by
  have rest (g : Gallery) (mem : g ∈ (cancelledBy s l).queue) :
      g ∈ s.seq.queue ∧ (l.contains g && s.seq.queue.contains g) = false := by
    obtain ⟨old, kept⟩ := List.mem_filter.1 mem
    exact ⟨old, by rwa [Bool.not_eq_true'] at kept⟩
  have ok : SeqOk (cancelledBy s l) := by
    refine ⟨inv.distinct.filter _, fun r runs => ?_, fun g mem => ?_, inv.ok.dwells, fun idle => ⟨(inv.ok.idle idle).1, ?_⟩⟩
    · refine ⟨fun mem => (inv.ok.runs r runs).1 (rest r.g mem).1, ?_⟩
      simp only [cancelledBy, PerGallery.get_ofFn]
      rw [inv.runs_not_queued runs, Bool.and_false, if_neg Bool.false_ne_true]
      exact (inv.ok.runs r runs).2
    · obtain ⟨old, kept⟩ := rest g mem
      simp only [cancelledBy, PerGallery.get_ofFn]
      rw [kept, if_neg Bool.false_ne_true]
      exact inv.ok.queued g old
    · show s.seq.queue.filter _ = []
      rw [(inv.ok.idle idle).2]
      rfl
  unfold cancelSeq
  split
  next r runs =>
    split
    · exact (ok.aborted runs .cancelled).headsTaken s
    · exact ok
  · exact ok

/-- A second mark leaves the record in order (R173). -/
theorem SeqInv.second {s : State} (inv : SeqInv s) : SeqInv (s.setRun (s.seq.run.map CheckRun.second)) := by
  have keeps (y : CheckRun) : y.second.g = y.g := by
    unfold CheckRun.second
    split <;> rfl
  refine (seqInv_iff _).2 ⟨⟨inv.distinct, fun r runs => ?_, inv.ok.queued, fun r n runs phase => ?_, fun idle => ?_⟩,
    inv.setupOk⟩
  · obtain ⟨y, was, rfl⟩ := Option.map_eq_some_iff.1 runs
    rw [keeps]
    exact inv.ok.runs y was
  · obtain ⟨y, was, rfl⟩ := Option.map_eq_some_iff.1 runs
    unfold CheckRun.second at phase
    split at phase
    next m dwell =>
      obtain ⟨low, high⟩ := inv.ok.dwells y m was dwell
      dsimp only at phase
      split at phase
      · cases phase
      · cases phase
        omega
    next awaiting => rw [awaiting] at phase; cases phase
  · exact inv.ok.idle (Option.map_eq_none_iff.1 idle)

/-- A darkening notice leaves the record in order (R176). -/
theorem SeqInv.darkened {s : State} (inv : SeqInv s) (g : Gallery) (yes : Bool) {q : Sequencer}
    (is : q = { s.seq with dark := s.seq.dark.set g yes }) : SeqInv (s.setSeq q) := by
  subst is
  exact (seqInv_iff _).2 ⟨⟨inv.distinct, inv.ok.runs, inv.ok.queued, inv.ok.dwells, inv.ok.idle⟩, inv.setupOk⟩

/-- The running check's abort leaves the record in order (R176). -/
theorem SeqInv.abortRun {s : State} (inv : SeqInv s) {y : CheckRun} (runs : s.seq.run = some y) (sm : Summary) :
    SeqInv (s.abortRun y sm).takeHead := by
  have aborted := abortRun_takeHead inv.someStep inv.distinct rfl [] y sm
  rw [seqAt_self] at aborted
  rw [aborted]
  exact inv.seqAt ((inv.ok.aborted runs sm).headsTaken s) _

/-- A setup that is taken enables a step (R178). -/
theorem setupOf_ok {v : Half} (small : ¬64 ≤ v.toNat) (some : ¬v.toNat % 16 = 0) : SetupOk (setupOf v) := by
  rw [setupOf_eq (Nat.lt_of_not_le small)]
  refine ⟨?_, by dsimp only; omega⟩
  by_contra none
  have off (x : CheckStep) : ¬(PerStep.mk (v.toNat.testBit 0) (v.toNat.testBit 1) (v.toNat.testBit 2)
      (v.toNat.testBit 3)).get x = true := fun on => none ⟨x, on⟩
  have unset (n : Nat) (clear : ¬v.toNat.testBit n = true) : v.toNat / 2 ^ n % 2 = 0 := by
    rw [← Nat.toNat_testBit, Bool.eq_false_of_not_eq_true clear]
    rfl
  have first := unset 0 (off .openInput)
  have second := unset 1 (off .shortInput)
  have third := unset 2 (off .reference)
  have fourth := unset 3 (off .response)
  omega

/-- What the sequencer does with its own commands. -/
theorem seqInv_taken {c : Instr} {s t : State} (hb : blockOf c = some .sequencer) (ready : Ready s .sequencer)
    (hs : SeqInv s) (h : exec c s = .next t) : SeqInv t := by
  cases c <;> cases hb <;> dsimp only [exec] at h
  case check.refl q =>
    by_cases port : q.port = .conservation
    · cases (check_next ready hs port).symm.trans h
      exact (seqInv_iff _).2 ⟨hs.checked (galleries_nodup.filter _) rfl, hs.setupOk⟩
    · have barred : conservationOnly q.port = false := by cases p : q.port <;> simp_all [conservationOnly]
      unfold execCheck at h
      cases (request_refused ready _ _ barred _).symm.trans h
      exact hs
  case cancelCheck.refl q =>
    by_cases port : q.port = .conservation
    · cases (cancelCheck_next ready hs port).symm.trans h
      exact (seqInv_iff _).2 ⟨hs.cancelled _ _, hs.setupOk⟩
    · have barred : conservationOnly q.port = false := by cases p : q.port <;> simp_all [conservationOnly]
      unfold execCancelCheck at h
      cases (request_refused ready _ _ barred _).symm.trans h
      exact hs
  case checkSetup.refl q =>
    refine request_keeps seqInv_own hs (fun s ready hs => ?_) h
    split
    · exact hs
    split
    · exact hs
    next small some =>
      exact (seqInv_iff _).2 ⟨hs.ok, setupOf_ok small some⟩
  case secondMarkAtSequencer.refl m => exact deliver_keeps seqInv_own hs (fun s ready hs => hs.second) h
  case dwellExpiry.refl m =>
    exact onlyWhen_keeps hs (fun h => deliver_keeps seqInv_own hs (fun s ready hs => hs.second) h) h
  case stepReading.refl c x r =>
    refine deliver_keeps seqInv_own hs (fun s ready hs => ?_) h
    split
    next y awaits => exact hs.takeReading (awaited_eq_some awaits) r
    · split
      · exact (seqInv_iff _).2 ⟨hs.ok.withCondition, hs.setupOk⟩
      · exact hs
  case darkeningStateAtSequencer.refl g yes =>
    refine deliver_keeps seqInv_own hs (fun s ready hs => ?_) h
    have kept := hs.darkened g yes rfl
    dsimp only
    split
    next y runs =>
      split
      · exact kept.abortRun runs _
      · exact kept
    · exact kept

theorem seq_started (s : State) (b : Block) : (s.started b).seq = s.seq ∧ (s.started b).ret.setup = s.ret.setup := by
  unfold State.started
  dsimp only
  split <;> exact ⟨rfl, rfl⟩

theorem seq_starting (s : State) (b : Block) : (s.starting b).seq = s.seq ∧ (s.starting b).ret.setup = s.ret.setup := by
  unfold State.starting
  split <;> exact ⟨rfl, rfl⟩

theorem seqOk_start : SeqOk Sequencer.start := seqInv_reset.ok

/-- Settles O16: the queue loses its heads and the running check its gallery before another takes its place. -/
theorem sequencerKept : Obligations.SequencerKept := by
  intro s t hs h
  refine step_keeps_own (o := .sequencer) (by simp) (by simp) seqInv_own (fun hb ready hs h => seqInv_taken hb ready hs h)
    (fun e => by cases e) (fun e => by cases e) (fun e => by cases e) (fun {s} b i e running hs => ?starts)
    (fun {s} last off hs => hs) (fun {s} off hs => (seqInv_iff _).2 ⟨hs.ok, seqInv_reset.setupOk⟩)
    (fun {s} hs => (seqInv_iff _).2 ⟨seqOk_start, hs.setupOk⟩) (fun {s} hs => (seqInv_iff _).2 ⟨seqOk_start, hs.setupOk⟩) hs h
  case starts =>
    have same : b = .sequencer := by cases b <;> simp_all [startOwner]
    subst same
    obtain ⟨seq, setup⟩ := seq_started ((s.starting .sequencer).startSequencer i) .sequencer
    obtain ⟨-, kept⟩ := seq_starting s .sequencer
    refine (seqInv_iff _).2 ⟨?_, ?_⟩
    · exact seq ▸ seqOk_start
    · refine setup ▸ ?_
      unfold State.startSequencer
      cases i.kind with
      | cold => exact seqInv_reset.setupOk
      | warm => exact kept ▸ hs.setupOk

end Sys2Proof.Machine
end

section
/-! SUPPORT. The port controllers: what becomes of a port's record, what a change of presence tells, and the notices a port
takes (O55). -/

namespace Sys2Proof.Machine
open Sys2Proof

/-! ## The record of a port -/

@[simp] theorem setPort_setPort (s : State) (p : Port) (a b : PortRec) : (s.setPort p a).setPort p b = s.setPort p b :=
  congrArg (fun t => { s with ports := t }) (PerPort.set_set _ _ _ _)

theorem setPort_self (s : State) (p : Port) : s.setPort p (s.port p) = s :=
  congrArg (fun t => { s with ports := t }) (PerPort.ext_get fun q => by
    rw [PerPort.get_set]
    split
    next same => rw [same]; rfl
    next => rfl)

theorem routed_eq_heard (c : Cause) (p : Port) : routed c p = heard c p := by cases c <;> rfl

theorem drive_eq_driven (r : PortRec) : r.drive = driven r := by
  have lines (m : LineMode) (l : List Attention) :
      (m == .level && r.masterEnable && !l.isEmpty) = (decide (m = .level) && r.masterEnable && decide (l ≠ [])) := by
    cases m <;> cases l <;> rfl
  unfold PortRec.drive driven
  rw [lines]

/-! ## Presence -/

/-- What a change of presence tells the other two ports (R185). -/
def toldOthers (s : State) (p : Port) : List Instr :=
  if s.startComplete then (portList.filter (· != p)).map fun o => .attentionNotice o .masterPresence none else []

theorem tellOthers_eq (s : State) (p : Port) : s.tellOthers p = s.sendAll (toldOthers s p) := by
  unfold State.tellOthers toldOthers
  split
  · cases p <;> simp only [send_eq_sendAll, State.sendAll_sendAll] <;> rfl
  · exact (State.sendAll_nil s).symm

/-- What it tells the block that hears of the port's master (R185). -/
def toldBlock (p : Port) (v : Presence) : List Instr :=
  match p with
  | .climate => [.presenceNoticeAtClimate v]
  | .lighting => [.presenceNoticeAtDarkening v]
  | .conservation => []

theorem sendPresence_eq (s : State) (p : Port) (v : Presence) : s.sendPresence p v = s.sendAll (toldBlock p v) := by
  cases p
  · rfl
  · rfl
  · exact (State.sendAll_nil s).symm

/-- A port's judgement of its master (R185). -/
theorem setPresence_eq (s : State) (p : Port) (v : Presence) (n : Nat) :
    s.setPresence p v n =
      (s.setPort p { s.port p with presence := v, silence := n }).sendAll
        (if (s.port p).presence = v then [] else toldOthers s p ++ toldBlock p v) := by
  unfold State.setPresence
  dsimp only
  split
  · exact (State.sendAll_nil _).symm
  · rw [tellOthers_eq, sendPresence_eq]
    exact State.sendAll_sendAll _ _ _

theorem timeoutSeconds_eq (n : Nat) : timeoutSeconds n = match n with | 0 => 2 | 1 => 10 | 2 => 60 | _ => 300 := by
  match n with
  | 0 | 1 | 2 | _ + 3 => rfl

/-! ## The notices a port takes -/

/-- A second mark at a port (R185). -/
theorem portSecond_eq (s : State) (p : Port) :
    State.portSecond p s =
      if (s.port p).presence = .absent then s
      else if timeoutSeconds (s.ret.timeouts.get p) ≤ (s.port p).silence + 1 then
        (s.setPort p { s.port p with presence := .absent, silence := (s.port p).silence + 1 }).sendAll
          (toldOthers s p ++ toldBlock p .absent)
      else s.setPort p { s.port p with silence := (s.port p).silence + 1 } := by
  unfold State.portSecond
  dsimp only
  split
  · rfl
  next here =>
    rw [setPresence_eq]
    by_cases late : timeoutSeconds (s.ret.timeouts.get p) ≤ (s.port p).silence + 1
    · have falls : fallsSilent s p = true := by simpa [fallsSilent, here] using late
      rw [if_pos falls, if_neg here, if_pos late]
    · have stays : ¬fallsSilent s p = true := by simpa [fallsSilent, here] using late
      rw [if_neg stays, if_pos rfl, if_neg late]
      exact State.sendAll_nil _

theorem portOf_eq (n : Nat) : portOf n = portList[n]? := by
  match n with
  | 0 | 1 | 2 | _ + 3 => rfl

/-- Settles O55: a notice changes the record of its own port; the silence that ends is told once. -/
theorem portNoticesTaken : Obligations.PortNoticesTaken := by
  intro p r c g m s ready k fresh i j limit ends told heardBy
  have limitIs : limit = timeoutSeconds (s.ret.timeouts.get p) := (timeoutSeconds_eq _).symm
  have takesReply : exec (.replyNotice p r) s = .next (after s (.replyNotice p r) (s.setPort p { k with reply := r }) []) := by
    show execReplyNotice p r s = _
    unfold execReplyNotice
    exact deliver_silent ready rfl
  have attends : exec i s = .next (after s i
      (if fresh then
        s.setPort p (driven { k with
          pending := k.pending ++ [⟨c, g⟩]
          pulses := if k.mode = .pulse ∧ k.masterEnable = true then k.pulses + 1 else k.pulses })
      else s) []) := by
    have joins : k.record p ⟨c, g⟩ = if fresh then driven { k with
        pending := k.pending ++ [⟨c, g⟩]
        pulses := if k.mode = .pulse ∧ k.masterEnable = true then k.pulses + 1 else k.pulses } else k := by
      unfold PortRec.record PortRec.join
      rw [drive_eq_driven, routed_eq_heard]
    show execAttentionNotice p c g s = _
    unfold execAttentionNotice
    refine deliver_silent ready ?_ ?_
    · show (s.take i).setPort p (k.record p ⟨c, g⟩) = _
      rw [joins]
      split
      · rfl
      · exact setPort_self (s.take i) p
    · split <;> rfl
  have counts : exec j s = .next (
      if k.presence = .absent then after s j s []
      else if limit ≤ k.silence + 1 then
        after s j (s.setPort p { k with presence := .absent, silence := k.silence + 1 }) (told ++ heardBy)
      else after s j (s.setPort p { k with silence := k.silence + 1 }) []) := by
    have second := portSecond_eq (s.take j) p
    show portMark p m s = _
    unfold portMark
    rw [limitIs]
    by_cases absent : k.presence = .absent
    · rw [if_pos absent]
      exact deliver_silent ready (second.trans (if_pos absent))
    · rw [if_neg absent]
      by_cases late : timeoutSeconds (s.ret.timeouts.get p) ≤ k.silence + 1
      · rw [if_pos late]
        exact deliver_sends ready (second.trans ((if_neg absent).trans (if_pos late)))
      · rw [if_neg late]
        exact deliver_silent ready (second.trans ((if_neg absent).trans (if_neg late)))
  refine ⟨takesReply, attends, counts, ?_, fun q conservation => ⟨fun named => ?_, fun none last => ?_⟩⟩
  · show onlyWhen (fallsSilent s p) s (exec j s) = _
    unfold onlyWhen ends fallsSilent
    rw [limitIs]
  · have port : portOf q.sub.toNat = some p := (portOf_eq _).trans named
    have allowed : conservationOnly q.port = true := by rw [conservation]; rfl
    show execSilenceSetup q s = _
    unfold execSilenceSetup
    rw [port]
    by_cases small : q.value.toNat ≤ 3
    · have least : min 3 q.value.toNat = q.value.toNat := min_eq_right small
      rw [least, if_pos small]
      exact request_answers ready allowed rfl (if_neg (Nat.not_lt.2 small))
    · have least : min 3 q.value.toNat = 3 := min_eq_left (Nat.le_of_not_le small)
      rw [least, if_neg small]
      exact request_answers ready allowed rfl (if_pos (Nat.lt_of_not_le small))
  · subst last
    have allowed : conservationOnly q.port = true := by rw [conservation]; rfl
    have port : portOf q.sub.toNat = Option.none := by
      rw [portOf_eq]
      exact List.getElem?_eq_none none
    show execSilenceSetup q s = _
    unfold execSilenceSetup
    rw [port]
    exact request_answers ready allowed rfl rfl

end Sys2Proof.Machine
end

section
/-! SUPPORT. The general requests at a port (O56). -/

namespace Sys2Proof.Machine
open Sys2Proof

/-! ## Answers -/

/-- An answer on a record just written. -/
theorem answer_setPort (s : State) (q : Req) (k : PortRec) (code : Nat) (r : Result) (d : Nat) :
    (s.setPort q.port k).answer q code r d = s.setPort q.port { k with reply := replyTo q code r d } := by
  unfold State.answer State.setReply
  rw [setPort_setPort, State.port_setPort, if_pos rfl]

/-! ## The highest entry -/

/-- The place of an entry's gallery among those of its cause (R188). -/
def galleryPlace (a : Attention) : Nat := match a.g with | some g => 1 + galleryNum g | none => 0

theorem attentionRank_eq (r : PortRec) (a : Attention) :
    attentionRank r a = 1000 * (2 - levelCode (r.causes.get a.cause).level) + 8 * causeNum a.cause + galleryPlace a := by
  unfold attentionRank galleryPlace
  cases a.g with
  | none => rfl
  | some g => exact congrArg (_ + ·) (Nat.add_comm _ _)

theorem levelCode_le (l : Level) : levelCode l ≤ 2 := by cases l <;> decide

theorem causeNum_le (c : Cause) : causeNum c ≤ 15 := by cases c <;> decide

theorem galleryPlace_le (a : Attention) : galleryPlace a ≤ 6 := by
  unfold galleryPlace
  cases a.g with
  | none => exact Nat.zero_le _
  | some g =>
    have := galleryNum_lt g
    dsimp only
    omega

theorem causeNum_inj {c d : Cause} (h : causeNum c = causeNum d) : c = d := by
  have read (c : Cause) : causeOf (causeNum c) = some c := by cases c <;> rfl
  exact Option.some.inj ((read c).symm.trans ((congrArg causeOf h).trans (read d)))

theorem galleryPlace_inj {a b : Attention} (h : galleryPlace a = galleryPlace b) : a.g = b.g := by
  obtain ⟨c, x⟩ := a
  obtain ⟨d, y⟩ := b
  unfold galleryPlace at h
  cases x with
  | none =>
    cases y with
    | none => rfl
    | some e =>
      dsimp only at h
      omega
  | some g =>
    cases y with
    | none =>
      dsimp only at h
      omega
    | some e => exact congrArg some (galleryNum_inj.1 (Nat.add_left_cancel h))

/-- The order of the entries by level, cause and gallery is that of their ranks (R188). -/
theorem attentionRank_le_iff (r : PortRec) (a b : Attention) :
    attentionRank r a ≤ attentionRank r b ↔
      levelCode (r.causes.get b.cause).level < levelCode (r.causes.get a.cause).level ∨
      levelCode (r.causes.get a.cause).level = levelCode (r.causes.get b.cause).level ∧
        (causeNum a.cause < causeNum b.cause ∨ causeNum a.cause = causeNum b.cause ∧ galleryPlace a ≤ galleryPlace b) := by
  have la := levelCode_le (r.causes.get a.cause).level
  have lb := levelCode_le (r.causes.get b.cause).level
  have ca := causeNum_le a.cause
  have cb := causeNum_le b.cause
  have ga := galleryPlace_le a
  have gb := galleryPlace_le b
  rw [attentionRank_eq, attentionRank_eq]
  omega

theorem attentionRank_inj {r : PortRec} {a b : Attention} (h : attentionRank r a = attentionRank r b) : a = b := by
  have ab := (attentionRank_le_iff r a b).1 h.le
  have ba := (attentionRank_le_iff r b a).1 h.ge
  obtain ⟨c, g⟩ := a
  obtain ⟨d, e⟩ := b
  dsimp only at ab ba
  have cause : c = d := causeNum_inj (by omega)
  have gallery : g = e := galleryPlace_inj (a := ⟨c, g⟩) (b := ⟨d, e⟩) (by omega)
  rw [cause, gallery]

theorem highestOf_mem (r : PortRec) (a : Attention) (l : List Attention) : highestOf r a l ∈ a :: l := by
  induction l generalizing a with
  | nil => exact List.mem_singleton.2 rfl
  | cons b l ih =>
    unfold highestOf
    rcases List.mem_cons.1 (ih (if attentionRank r b < attentionRank r a then b else a)) with is | inside
    · rw [is]
      split <;> simp
    · exact List.mem_cons_of_mem _ (List.mem_cons_of_mem _ inside)

theorem highestOf_le (r : PortRec) (a : Attention) (l : List Attention) (b : Attention) (mem : b ∈ a :: l) :
    attentionRank r (highestOf r a l) ≤ attentionRank r b := by
  induction l generalizing a b with
  | nil => rw [List.mem_singleton.1 mem]; rfl
  | cons d l ih =>
    unfold highestOf
    have best := ih (if attentionRank r d < attentionRank r a then d else a)
    have first := best _ List.mem_cons_self
    rcases List.mem_cons.1 mem with rfl | mem
    · refine first.trans ?_
      split <;> omega
    rcases List.mem_cons.1 mem with rfl | mem
    · refine first.trans ?_
      split <;> omega
    · exact best b (List.mem_cons_of_mem _ mem)

/-- The highest entry is the one no other is above (R188). -/
theorem highest_eq_find (r : PortRec) (above : Attention → Attention → Bool)
    (order : ∀ a b, above a b = decide (attentionRank r a ≤ attentionRank r b)) :
    r.highest = r.pending.find? fun a => r.pending.all (above a) := by
  unfold PortRec.highest
  cases pending : r.pending with
  | nil => rfl
  | cons a l =>
    have tops : (a :: l).all (above (highestOf r a l)) = true := by
      rw [List.all_eq_true]
      intro b mem
      rw [order]
      exact decide_eq_true (highestOf_le r a l b mem)
    refine Eq.symm ?_
    cases found : (a :: l).find? fun x => (a :: l).all (above x) with
    | none => exact absurd tops (List.find?_eq_none.1 found _ (highestOf_mem r a l))
    | some x =>
      have top := List.all_eq_true.1 (List.find?_some (p := fun x => (a :: l).all (above x)) found) _ (highestOf_mem r a l)
      rw [order] at top
      have low := highestOf_le r a l x (List.mem_of_find?_eq_some found)
      exact congrArg some (attentionRank_inj (Nat.le_antisymm (of_decide_eq_true top) low))

/-! ## Snapshots -/

theorem galleryItem_eq (b : BitVec 3) (f : Gallery → Item) :
    galleryItem b f = match galleryOf b.toNat with | some g => f g | none => .error .range := by
  unfold galleryItem gallerySel
  cases galleryOf b.toNat with
  | some g => rfl
  | none =>
    dsimp only
    by_cases all : b.toNat = 7
    · rw [if_pos all]
    · rw [if_neg all]

theorem foundItem_getElem (s : State) (v : Nat) :
    foundItem itemEntry s.ret.log.pool[v]? =
      if h : v < s.ret.log.pool.length then .ok (itemEntry s.ret.log.pool[v]) else .error .notFound := by
  by_cases inside : v < s.ret.log.pool.length
  · rw [dif_pos inside, List.getElem?_eq_getElem inside]
    rfl
  · rw [dif_neg inside, List.getElem?_eq_none (Nat.le_of_not_lt inside)]
    rfl

theorem channelItem_eq (s : State) (g : Gallery) (v : Nat) :
    channelItem s g v = if v ≤ 3 then .ok (itemChannel s ⟨g, kindOf v⟩) else .error .notFound := by
  unfold channelItem
  by_cases small : v ≤ 3
  · rw [if_pos small, if_neg (Nat.not_lt.2 small)]
  · rw [if_neg small, if_pos (Nat.lt_of_not_le small)]

theorem recordItem_eq (s : State) (g : Gallery) (v : Nat) :
    foundItem itemRecord (s.record g v) =
      match s.record g v with
      | some x => .ok (itemRecord x)
      | none => .error .notFound := by
  cases s.record g v <;> rfl

theorem unreadItem_eq (s : State) (g : Gallery) (v : Nat) :
    foundItem itemRecord (s.unreadRecord g v) =
      if v < (s.ring g).unread then
        match s.record g ((s.ring g).unread - 1 - v) with
        | some x => .ok (itemRecord x)
        | none => .error .notFound
      else .error .notFound := by
  unfold State.unreadRecord
  by_cases inside : v < (s.ring g).unread
  · rw [if_pos inside, if_pos inside]
    cases s.record g ((s.ring g).unread - 1 - v) <;> rfl
  · rw [if_neg inside, if_neg inside]
    rfl

/-- What a SELECT copies (R132, R183). -/
theorem selectItem_eq (s : State) (q : Req) : selectItem s q.port q.sub.toNat q.gallery q.value.toNat = copied s q := by
  unfold copied
  dsimp only
  generalize q.sub.toNat = k
  match k with
  | 0 | _ + 15 => rfl
  | 1 | 2 | 3 | 5 | 8 | 11 | 12 =>
    simp only [selectItem, galleryItem_eq]
    cases galleryOf q.gallery.toNat <;> rfl
  | 4 =>
    simp only [selectItem, galleryItem_eq]
    cases galleryOf q.gallery.toNat with
    | none => rfl
    | some g => exact channelItem_eq s g _
  | 6 =>
    simp only [selectItem, galleryItem_eq]
    cases galleryOf q.gallery.toNat with
    | none => rfl
    | some g => exact unreadItem_eq s g _
  | 7 =>
    simp only [selectItem, galleryItem_eq]
    cases galleryOf q.gallery.toNat with
    | none => rfl
    | some g => exact recordItem_eq s g _
  | 9 => exact foundItem_getElem s _
  | 10 | 13 | 14 => rfl

/-! ## The requests -/

theorem sub_eq_zero (q : Req) : q.sub.toNat = 0 ↔ q.sub = 0 := by
  rw [← BitVec.toNat_inj]
  rfl

/-- SELECT replaces the snapshot; that of the pool status on the Conservation port clears the marker (R149, R183). -/
theorem takeSelect_eq (q : Req) (s : State) :
    State.takeSelect q s =
      if q.sub = 0 then s.setPort q.port { s.port q.port with selection := none, reply := replyTo q 0x01 .ok 0 }
      else
        match copied s q with
        | .error r => s.setPort q.port { s.port q.port with selection := none, reply := replyTo q 0x01 r 0 }
        | .ok l =>
          if q.sub = 10 ∧ q.port = .conservation then
            (s.setPort q.port { s.port q.port with
              selection := some ⟨q.sub.toNat, l⟩, reply := replyTo q 0x01 .ok l.length }).setMarker false
          else s.setPort q.port { s.port q.port with
              selection := some ⟨q.sub.toNat, l⟩, reply := replyTo q 0x01 .ok l.length } := by
  have ten : (q.sub.toNat = 10) = (q.sub = 10) := by
    rw [← BitVec.toNat_inj]
    rfl
  unfold State.takeSelect State.setSelection
  dsimp only
  simp only [selectItem_eq, answer_setPort, sub_eq_zero, ten]
  split
  · rfl
  · cases copied s q <;> rfl

/-- A FETCH that reads the pool's overflow flag as set, with the marker clear, clears it (R149, R184). -/
theorem clearsOverflow_eq (s : State) (p : Port) (x : Snapshot) {v : Nat} (inside : v < x.fields.length) :
    clearsOverflow s p x v = decide (p = .conservation ∧ x.kind = 10 ∧ v = 4 ∧ (x.fields.getD v 0).toNat = 1 ∧
      s.log.sinceSelection = false) := by
  unfold clearsOverflow
  by_cases four : v = 4
  · subst four
    have one : (x.fields[4]? == some 1) = decide ((x.fields.getD 4 0).toNat = 1) := by
      rw [List.getD_eq_getElem _ _ inside, List.getElem?_eq_getElem inside]
      rw [Bool.eq_iff_iff, beq_iff_eq, decide_eq_true_iff, Option.some.injEq, ← BitVec.toNat_inj]
      rfl
    rw [one]
    rw [Bool.eq_iff_iff]
    simp [Bool.and_eq_true, and_assoc]
  · simp [four]

/-- FETCH reads one field of the snapshot (R149, R184). -/
theorem takeFetch_eq (q : Req) (s : State) :
    State.takeFetch q s =
      match (s.port q.port).selection with
      | none => s.answer q 0x02 .noSelection 0
      | some x =>
        if q.value.toNat < x.fields.length then
          let f : Nat := (x.fields.getD q.value.toNat 0).toNat
          if q.port = .conservation ∧ x.kind = 10 ∧ q.value.toNat = 4 ∧ f = 1 ∧ s.log.sinceSelection = false then
            (s.answer q 0x02 .ok f).setLogRet { s.ret.log with overflow := false }
          else s.answer q 0x02 .ok f
        else s.answer q 0x02 .range 0 := by
  unfold State.takeFetch
  cases (s.port q.port).selection with
  | none => rfl
  | some x =>
    dsimp only
    by_cases inside : q.value.toNat < x.fields.length
    · rw [if_pos inside, List.getElem?_eq_getElem inside]
      simp only [clearsOverflow_eq _ _ _ inside, decide_eq_true_eq, List.getD_eq_getElem _ _ inside] <;> rfl
    · rw [if_neg inside, List.getElem?_eq_none (Nat.le_of_not_lt inside)]

/-- NEXT ATTENTION removes the highest entry (R188). -/
theorem takeNext_eq (q : Req) (s : State) :
    State.takeNext q s =
      match (s.port q.port).highest with
      | none => s.answer q 0x03 .ok 255
      | some a => s.setPort q.port
          { driven { s.port q.port with pending := (s.port q.port).pending.erase a } with
            reply := replyTo q 0x03 .ok (attentionData a) } := by
  unfold State.takeNext
  dsimp only
  cases (s.port q.port).highest with
  | none => rfl
  | some a =>
    dsimp only
    rw [answer_setPort, drive_eq_driven]

theorem levelOf_eq (v : Nat) :
    levelOf (v / 2) = if 6 ≤ v then none else some (match v / 2 with | 0 => .low | 1 => .mid | _ => .high) := by
  by_cases large : 6 ≤ v
  · rw [if_pos large]
    obtain ⟨n, is⟩ : ∃ n, v / 2 = n + 3 := ⟨v / 2 - 3, by omega⟩
    rw [is]
    rfl
  · rw [if_neg large]
    have small : v / 2 = 0 ∨ v / 2 = 1 ∨ v / 2 = 2 := by omega
    rcases small with is | is | is <;> rw [is] <;> rfl

/-- SET ATTENTION writes a cause that is routed to the port (R190). -/
theorem takeSet_eq (q : Req) (s : State) :
    State.takeSet q s =
      match causeOf q.sub.toNat with
      | none => s.answer q 0x04 .range 0
      | some c =>
        if heard c q.port = false then s.answer q 0x04 .notPermitted 0
        else if 6 ≤ q.value.toNat then s.answer q 0x04 .range 0
        else s.setPort q.port { driven { s.port q.port with
            causes := (s.port q.port).causes.set c ⟨q.value.toNat.testBit 0,
              match q.value.toNat / 2 with | 0 => .low | 1 => .mid | _ => .high⟩
            pending := if q.value.toNat.testBit 0 then (s.port q.port).pending
              else (s.port q.port).pending.filter fun a => a.cause != c } with
          reply := replyTo q 0x04 .ok q.value.toNat } := by
  unfold State.takeSet
  cases causeOf q.sub.toNat with
  | none => rfl
  | some c =>
    dsimp only
    rw [routed_eq_heard, levelOf_eq]
    cases heard c q.port
    · rfl
    · rw [if_pos rfl, if_neg (by decide : ¬true = false)]
      by_cases large : 6 ≤ q.value.toNat
      · rw [if_pos large, if_pos large]
      · rw [if_neg large, if_neg large]
        dsimp only
        rw [answer_setPort, PortRec.setCause, drive_eq_driven] <;> rfl

/-- NOP, SELECT, FETCH, NEXT ATTENTION, SET ATTENTION and ATTENTION MODE, by what they make of the records. -/
theorem portRequestsTaken : Obligations.PortRequestsTaken := by
  intro q s ready k v put level place above
  have order (a b : Attention) : above a b = decide (attentionRank k a ≤ attentionRank k b) :=
    decide_eq_decide.2 (attentionRank_le_iff k a b).symm
  refine ⟨?_, ?_, ?_, ?_, ?_, ?_⟩
  · show execNop q s = _
    unfold execNop
    exact deliver_silent ready rfl
  · have acts := takeSelect_eq q (s.take (.select q))
    have same : copied (s.take (.select q)) q = copied s q := rfl
    rw [same] at acts
    show execSelect q s = _
    unfold execSelect
    by_cases zero : q.sub = 0
    · rw [if_pos zero]
      exact deliver_silent ready (acts.trans (if_pos zero))
    · rw [if_neg zero] at acts ⊢
      cases item : copied s q with
      | error r =>
        rw [item] at acts
        exact deliver_silent ready acts
      | ok l =>
        rw [item] at acts
        dsimp only at acts ⊢
        by_cases pool : q.sub = 10 ∧ q.port = .conservation
        · rw [if_pos pool] at acts ⊢
          exact deliver_silent ready acts
        · rw [if_neg pool] at acts ⊢
          exact deliver_silent ready acts
  · have acts := takeFetch_eq q (s.take (.fetch q))
    show execFetch q s = _
    unfold execFetch
    have same : (s.take (.fetch q)).port q.port = k := rfl
    rw [same] at acts
    cases item : k.selection with
    | none =>
      rw [item] at acts
      exact deliver_silent ready acts
    | some x =>
      rw [item] at acts
      dsimp only at acts ⊢
      by_cases inside : v < x.fields.length
      · rw [if_pos inside] at acts ⊢
        by_cases clears : q.port = .conservation ∧ x.kind = 10 ∧ v = 4 ∧ (x.fields.getD v 0).toNat = 1 ∧
            s.log.sinceSelection = false
        · rw [if_pos clears]
          exact deliver_silent ready (acts.trans (if_pos clears))
        · rw [if_neg clears]
          exact deliver_silent ready (acts.trans (if_neg clears))
      · rw [if_neg inside] at acts ⊢
        exact deliver_silent ready acts
  · show execNextAttention q s = _
    unfold execNextAttention
    rw [← highest_eq_find k above order]
    have acts := takeNext_eq q (s.take (.nextAttention q))
    have same : (s.take (.nextAttention q)).port q.port = k := rfl
    rw [same] at acts
    cases top : k.highest with
    | none =>
      rw [top] at acts
      exact deliver_silent ready acts
    | some a =>
      rw [top] at acts
      exact deliver_silent ready acts
  · have acts := takeSet_eq q (s.take (.setAttention q))
    show execSetAttention q s = _
    unfold execSetAttention
    cases named : causeOf q.sub.toNat with
    | none =>
      rw [named] at acts
      exact deliver_silent ready acts
    | some c =>
      rw [named] at acts
      dsimp only at acts ⊢
      by_cases away : heard c q.port = false
      · rw [if_pos away] at acts ⊢
        exact deliver_silent ready acts
      · rw [if_neg away] at acts ⊢
        by_cases large : 6 ≤ v
        · rw [if_pos large]
          exact deliver_silent ready (acts.trans (if_pos large))
        · rw [if_neg large]
          exact deliver_silent ready (acts.trans (if_neg large))
  · show execAttentionMode q s = _
    unfold execAttentionMode
    by_cases large : 4 ≤ v
    · rw [if_pos large]
      exact deliver_silent ready (if_pos large)
    · rw [if_neg large]
      refine deliver_silent ready ((if_neg large).trans ?_)
      rw [answer_setPort, drive_eq_driven]
      rfl

end Sys2Proof.Machine
end

section
/-! SUPPORT. Frames: what is shifted out, how a frame is judged and what becomes of its request (O57). -/

namespace Sys2Proof.Machine
open Sys2Proof

/-! ## What a frame shifts out -/

/-- The master addressed the part (R180). -/
theorem addressed_eq (straps : BitVec 2) (bits : List Bool) :
    addressed straps bits = (bits.take 2 == [straps.getLsbD 1, straps.getLsbD 0]) := by
  unfold addressed
  rw [Bool.eq_iff_iff]
  match bits with
  | [] | [_] | _ :: _ :: _ => simp

theorem length_replyBits (n : Nat) (r : Reply) : ((replyBytes n r).flatMap byteBits).length = 48 := rfl

/-- The bits shifted out: those of the reply, and past them the free ones (R180). -/
theorem shiftedOut_bits (sent : List Bool) (beyond : Nat → Bool) (long : sent.length = 48) (n : Nat) :
    (sent ++ (List.range (n - 48)).map beyond).take n =
      (List.range n).map fun i => if h : i < sent.length then sent[i] else beyond (i - 48) := by
  refine List.ext_getElem (by simp; omega) fun i low high => ?_
  have inside : i < n := by simpa using high
  rw [List.getElem_take, List.getElem_map, List.getElem_range, List.getElem_append]
  split
  · rfl
  · rw [List.getElem_map, List.getElem_range, long]

theorem closed_eq (w : PortLines) (p : Port) (straps : BitVec 2) (r : Reply) (bits : List Bool) :
    w.closed p straps r bits =
      ⟨none,
        if bits.take 2 == [straps.getLsbD 1, straps.getLsbD 0] then
          some ((List.range bits.length).map fun n =>
            if h : n < ((replyBytes (resultCode r.result) r).flatMap byteBits).length then
              ((replyBytes (resultCode r.result) r).flatMap byteBits)[n] else Config.dataOutBeyond p w.overruns (n - 48))
        else none,
        w.overruns + (if 48 < bits.length then 1 else 0)⟩ := by
  unfold PortLines.closed shiftedOut
  rw [addressed_eq, shiftedOut_bits _ _ (length_replyBits _ _)]
  split <;> split <;> rfl

/-! ## The judgement of a frame -/

theorem crcAgrees_eq (bits : List Bool) :
    crcAgrees bits = decide ((frameByte bits 5).toNat =
      (crc8 [frameByte bits 0, frameByte bits 1, frameByte bits 2, frameByte bits 3, frameByte bits 4]).toNat) := by
  unfold crcAgrees
  rw [Bool.eq_iff_iff, beq_iff_eq, decide_eq_true_iff, BitVec.toNat_inj]

/-- Why a frame is discarded (R181). -/
theorem frameFault_eq (straps : BitVec 2) (bits : List Bool) :
    frameFault straps bits =
      if bits.length ≠ 48 ∨ (frameByte bits 5).toNat ≠
          (crc8 [frameByte bits 0, frameByte bits 1, frameByte bits 2, frameByte bits 3, frameByte bits 4]).toNat then
        some .frameError
      else if (bits.take 2 == [straps.getLsbD 1, straps.getLsbD 0]) = false then some .panelMismatch
      else none := by
  unfold frameFault
  rw [crcAgrees_eq, addressed_eq]
  simp only [Bool.not_eq_true', decide_eq_false_iff_not]
  by_cases long : bits.length ≠ 48
  · rw [if_pos long, if_pos (.inl long)]
  · rw [if_neg long]
    simp only [long, false_or]

theorem frameReq_eq (p : Port) (bits : List Bool) :
    frameReq p bits = ⟨p, BitVec.ofNat 3 ((frameByte bits 1).toNat / 32), BitVec.ofNat 5 ((frameByte bits 1).toNat % 32),
      BitVec.ofNat 16 (256 * (frameByte bits 2).toNat + (frameByte bits 3).toNat), BitVec.ofNat 8 (frameByte bits 4).toNat⟩ := by
  have sub (n : Nat) : BitVec.ofNat 5 n = BitVec.ofNat 5 (n % 32) := by
    refine BitVec.eq_of_toNat_eq ?_
    rw [BitVec.toNat_ofNat, BitVec.toNat_ofNat, Nat.mod_mod]
  have tag (b : Byte) : BitVec.ofNat 8 b.toNat = b := by simp
  unfold frameReq
  dsimp only
  rw [← sub, tag, Nat.mul_comm]

/-! ## Requests of other owners -/

/-- What a request that a port does not take itself sends (R182). -/
def ownerSends (n : Nat) (q : Req) : List Instr :=
  match ownerCmd n q with
  | some c => [c]
  | none => reply q n .range 0

theorem ownerSends_writeChannel (q : Req) : ownerSends 0x18 q = forwarded 0x18 q := by
  show (match writeChannelCmd (q.sub.toNat % 8) q with | some c => [c] | none => reply q 0x18 .range 0) = [_]
  have small : q.sub.toNat % 8 < 8 := Nat.mod_lt _ (by decide)
  generalize q.sub.toNat % 8 = m at small ⊢
  interval_cases m <;> rfl

theorem ownerSends_writeHold (q : Req) : ownerSends 0x19 q = forwarded 0x19 q := by
  show (match writeChannelCmd (8 + q.sub.toNat % 8) q with | some c => [c] | none => reply q 0x19 .range 0) =
    if q.sub.toNat % 8 = 0 then [.writeChannelHold q] else reply q 0x19 .range 0
  have small : q.sub.toNat % 8 < 8 := Nat.mod_lt _ (by decide)
  generalize q.sub.toNat % 8 = m at small ⊢
  interval_cases m <;> rfl

theorem ownerSends_calibrate (q : Req) : ownerSends 0x1A q = forwarded 0x1A q := by
  have odd : (q.sub.getLsbD 0 = true) = (q.sub.toNat % 2 = 1) := by
    rw [← BitVec.testBit_toNat, Nat.testBit_zero, decide_eq_true_eq]
  show [if q.sub.getLsbD 0 = true then Instr.calibrateSpan q else .calibrateZero q] = [_]
  simp only [odd]

theorem sub_eq_one (q : Req) : q.sub.toNat = 1 ↔ q.sub = 1 := by
  rw [← BitVec.toNat_inj]
  rfl

theorem ownerSends_partition (q : Req) : ownerSends 0x1E q = forwarded 0x1E q := by
  show (match (if q.sub = 0 then some (Instr.partitionSet q) else if q.sub = 1 then some (.partitionWithdraw q) else none) with
    | some c => [c] | none => reply q 0x1E .range 0) = _
  simp only [← sub_eq_zero, ← sub_eq_one, forwarded]
  match q.sub.toNat with
  | 0 | 1 | _ + 2 => rfl

theorem ownerSends_ack (q : Req) : ownerSends 0x20 q = forwarded 0x20 q := by
  show (match (if q.sub = 0 then some (Instr.ackExcursionOne q) else if q.sub = 1 then some (.ackExcursionAllClosed q)
    else none) with | some c => [c] | none => reply q 0x20 .range 0) = _
  simp only [← sub_eq_zero, ← sub_eq_one, forwarded]
  match q.sub.toNat with
  | 0 | 1 | _ + 2 => rfl

/-- A request that a port does not take itself goes to its owner, or is refused where no command carries it (R182). -/
theorem ownerSends_eq (n : Nat) (q : Req) : ownerSends n q = forwarded n q := by
  match n with
  | 0x18 => exact ownerSends_writeChannel q
  | 0x19 => exact ownerSends_writeHold q
  | 0x1A => exact ownerSends_calibrate q
  | 0x1E => exact ownerSends_partition q
  | 0x20 => exact ownerSends_ack q
  | 0 | 1 | 2 | 3 | 4 | 5 | 6 | 7 | 8 | 9 | 10 | 11 | 12 | 13 | 14 | 15 | 16 | 17 | 18 | 19 | 20 | 21 | 22 | 23 | 27 | 28 | 29
  | 31 | 33 | 34 | _ + 35 => rfl

theorem forward_eq (s : State) (n : Nat) (q : Req) :
    s.forward n q = (s.answer q n .none 0).sendAll (forwarded n q) := by
  rw [← ownerSends_eq]
  unfold State.forward ownerSends
  cases ownerCmd n q <;> rfl

/-! ## Requests taken at once -/

/-- What a port makes of a request it takes itself does not depend on what is in flight, and sends nothing. -/
def FlightFree (act : State → State) : Prop := ∀ (s : State) (l : List Instr), act { s with inFlight := l } = { act s with inFlight := l }

theorem FlightFree.ite {p : Prop} [Decidable p] {f g : State → State} (hf : FlightFree f) (hg : FlightFree g) :
    FlightFree fun s => if p then f s else g s := by
  intro s l
  dsimp only
  split
  · exact hf s l
  · exact hg s l

theorem flightFree_takeNop (q : Req) : FlightFree (State.takeNop q) := fun _ _ => rfl

theorem flightFree_takeSelect (q : Req) : FlightFree (State.takeSelect q) := by
  intro s l
  rw [takeSelect_eq, takeSelect_eq]
  have same : copied { s with inFlight := l } q = copied s q := rfl
  rw [same]
  split
  · rfl
  cases copied s q with
  | error r => rfl
  | ok m =>
    dsimp only
    split <;> rfl

theorem flightFree_takeFetch (q : Req) : FlightFree (State.takeFetch q) := by
  intro s l
  rw [takeFetch_eq, takeFetch_eq]
  have same : State.port { s with inFlight := l } q.port = s.port q.port := rfl
  rw [same]
  cases (s.port q.port).selection with
  | none => rfl
  | some x =>
    dsimp only
    split
    · split <;> rfl
    · rfl

theorem flightFree_takeNext (q : Req) : FlightFree (State.takeNext q) := by
  intro s l
  rw [takeNext_eq, takeNext_eq]
  have same : State.port { s with inFlight := l } q.port = s.port q.port := rfl
  rw [same]
  cases (s.port q.port).highest <;> rfl

theorem flightFree_takeSet (q : Req) : FlightFree (State.takeSet q) := by
  intro s l
  rw [takeSet_eq, takeSet_eq]
  cases causeOf q.sub.toNat with
  | none => rfl
  | some c =>
    dsimp only
    split
    · rfl
    · split <;> rfl

theorem flightFree_takeMode (q : Req) : FlightFree (State.takeMode q) := by
  intro s l
  unfold State.takeMode
  split <;> rfl

/-- An answer with what is in flight replaced. -/
def withFlight (l : List Instr) : Answer → Answer
  | .next u => .next { u with inFlight := l }
  | a => a

/-- A request that the port takes at once, as a command of its own would be. -/
theorem withFlight_deliver {act : State → State} (free : FlightFree act) {h : State} {b : Block} (ready : Ready h b) (i : Instr) :
    withFlight h.inFlight (deliver b i { h with inFlight := [] } act) = .next (act h).seal := by
  have ready' : Ready { h with inFlight := [] } b := ready
  rw [deliver_ready ready']
  have taken : State.take { h with inFlight := [] } i = { h with inFlight := [] } := rfl
  have kept : act h = { act h with inFlight := h.inFlight } := free h h.inFlight
  rw [taken, free, kept]
  rfl

/-! ## The frame -/

theorem frameEnd_outside {p : Port} {s : State} (idle : (s.lines.get p).frame = none) (bits : List Bool) :
    execFrameEnd p bits s = .next s := by
  unfold execFrameEnd
  dsimp only
  rw [idle]

theorem frameEnd_inside {p : Port} {s : State} {f : Frame} (begun : (s.lines.get p).frame = some f) (bits : List Bool) :
    execFrameEnd p bits s =
      if (f.discard || !s.startComplete) = true then .next (s.setLines p { s.lines.get p with frame := none })
      else .next ((s.setLines p ((s.lines.get p).closed p s.straps f.reply bits)).judgeFrame p bits).seal := by
  unfold execFrameEnd
  dsimp only
  rw [begun]

theorem frameBegin_eq (p : Port) (s : State) :
    execFrameBegin p s = .next (if (s.lines.get p).frame = none then
      s.setLines p { s.lines.get p with frame := some ⟨(s.port p).reply, !s.startComplete⟩ } else s) := by
  unfold execFrameBegin
  cases (s.lines.get p).frame <;> rfl

/-- The frame is judged by its faults first (R181). -/
theorem judgeFrame_eq (s : State) (p : Port) (bits : List Bool) :
    s.judgeFrame p bits =
      if bits.length ≠ 48 ∨ (frameByte bits 5).toNat ≠
          (crc8 [frameByte bits 0, frameByte bits 1, frameByte bits 2, frameByte bits 3, frameByte bits 4]).toNat then
        s.setReply p (discardReply bits .frameError)
      else if (bits.take 2 == [s.straps.getLsbD 1, s.straps.getLsbD 0]) = false then
        s.setReply p (discardReply bits .panelMismatch)
      else (s.setPresence p .present 0).judgeRequest (frameCode bits) (frameReq p bits) := by
  unfold State.judgeFrame
  rw [frameFault_eq]
  by_cases bad : bits.length ≠ 48 ∨ (frameByte bits 5).toNat ≠
      (crc8 [frameByte bits 0, frameByte bits 1, frameByte bits 2, frameByte bits 3, frameByte bits 4]).toNat
  · rw [if_pos bad, if_pos bad]
  · rw [if_neg bad, if_neg bad]
    by_cases other : (bits.take 2 == [s.straps.getLsbD 1, s.straps.getLsbD 0]) = false
    · rw [if_pos other, if_pos other]
    · rw [if_neg other, if_neg other]

/-- A change of presence after a start has completed is told to the other two ports (R185). -/
theorem toldOthers_started {s : State} (complete : s.startComplete = true) (p : Port) :
    toldOthers s p = (portList.filter (· != p)).map fun o => .attentionNotice o .masterPresence none := if_pos complete

theorem ready_of_startComplete {s : State} (complete : s.startComplete = true) (b : Block) : Ready s b := by
  obtain ⟨running, all⟩ := Bool.and_eq_true_iff.1 complete
  refine ⟨by simpa using running, ?_⟩
  rw [List.isEmpty_iff.1 all]
  exact List.not_mem_nil

/-- Settles O57: the frame's bits are judged first, and the request of a frame that passes goes where its code says. -/
theorem framesJudged : Obligations.FramesJudged := by
  intro p bits s w k lined byte crc mine code q plain told sealed
  refine ⟨frameBegin_eq p s, fun idle => frameEnd_outside idle bits, fun f begun => ⟨fun lost => ?_, ?_⟩⟩
  · exact (frameEnd_inside begun bits).trans (if_pos (by rcases lost with d | d <;> simp [d]))
  intro kept complete sent out t heard answered taken
  have lines : s.setLines p (w.closed p s.straps f.reply bits) = t := by
    rw [closed_eq]
    rfl
  have judged : exec (.frameEnd p bits) s = .next (t.judgeFrame p bits).seal := by
    rw [← lines]
    exact (frameEnd_inside begun bits).trans (if_neg (by simp [kept, complete]))
  have tag : BitVec.ofNat 8 (byte 4) = frameByte bits 4 := by simp [byte]
  have discards (r : Result) : t.setReply p (discardReply bits r) = t.setPort p { k with reply := plain r } := by
    unfold plain
    rw [tag]
    rfl
  have runs : Ready heard (.port p) := ready_of_startComplete complete _
  have present : t.setPresence p .present 0 = heard := by
    rw [setPresence_eq, toldOthers_started (s := t) complete]
    rfl
  have request : frameReq p bits = q := frameReq_eq p bits
  have takes {i : Instr} {act : State → State} (free : FlightFree act) (is : ∀ s, exec i s = deliver (.port p) i s act) :
      taken i = .next (act heard).seal := by
    have same := withFlight_deliver free runs i
    rw [← is] at same
    exact same
  rw [judged, judgeFrame_eq, present, request]
  by_cases bad : bits.length ≠ 48 ∨ byte 5 ≠ crc
  · rw [if_pos bad, if_pos bad, discards]
    rfl
  rw [if_neg bad, if_neg bad]
  by_cases other : mine = false
  · rw [if_pos other, if_pos other, discards]
    rfl
  rw [if_neg other, if_neg other]
  have answers (r : Result) : heard.answer q code r 0 = answered r := rfl
  show Host.Outcome.next (heard.judgeRequest code q).seal = _
  unfold State.judgeRequest
  cases asked : requestPorts code with
  | none => rfl
  | some permitted =>
    dsimp only
    show Host.Outcome.next (if permitted p = true then heard.takeRequest code q else heard.answer q code .notPermitted 0).seal = _
    by_cases allowed : permitted p = true
    · rw [if_pos allowed, if_pos allowed]
      have codes : code = 0 ∨ code = 1 ∨ code = 2 ∨ code = 3 ∨ code = 4 ∨ code = 5 ∨ ∃ m, code = m + 6 := by
        by_cases large : 6 ≤ code
        · exact .inr (.inr (.inr (.inr (.inr (.inr ⟨code - 6, by omega⟩)))))
        · omega
      have sends : heard.forward code q = { answered .none with inFlight := heard.inFlight ++ forwarded code q } :=
        forward_eq heard code q
      rcases codes with is | is | is | is | is | is | ⟨m, is⟩
      · rw [is]
        exact (takes (flightFree_takeNop q) fun _ => rfl).symm
      · rw [is]
        exact (takes (flightFree_takeSelect q) fun _ => rfl).symm
      · rw [is]
        exact (takes (flightFree_takeFetch q) fun _ => rfl).symm
      · rw [is]
        exact (takes (flightFree_takeNext q) fun _ => rfl).symm
      · rw [is]
        exact (takes (flightFree_takeSet q) fun _ => rfl).symm
      · rw [is]
        exact (takes (flightFree_takeMode q) fun _ => rfl).symm
      · have takesNone : heard.takeRequest code q = heard.forward code q := by
          rw [is]
          rfl
        rw [takesNone, sends, is] <;> rfl
    · rw [if_neg allowed, if_neg allowed]
      rfl

end Sys2Proof.Machine
end

section
/-! SUPPORT. Every step keeps a port's record in order (O17). -/

namespace Sys2Proof.Machine
open Sys2Proof

/-! ## The record in order -/

/-- A port's record is in order but for its line. -/
structure PortCore (p : Port) (r : PortRec) : Prop where
  distinct : r.pending.Nodup
  allowed : ∀ a ∈ r.pending, routed a.cause p = true ∧ (r.causes.get a.cause).enabled = true
  silence : r.silence ≤ 300
  present : r.presence ≠ .absent → r.silence < 300

theorem PortOk.core {p : Port} {r : PortRec} (h : PortOk p r) : PortCore p r := by
  obtain ⟨distinct, allowed, -, silence, present⟩ := h
  exact ⟨distinct, allowed, silence, present⟩

theorem PortOk.line {p : Port} {r : PortRec} (h : PortOk p r) :
    r.line = true ↔ r.mode = .level ∧ r.masterEnable = true ∧ r.pending ≠ [] := by
  obtain ⟨-, -, line, -⟩ := h
  exact line

/-- A record whose line has been driven is in order (R189). -/
theorem PortCore.driven {p : Port} {r : PortRec} (h : PortCore p r) : PortOk p (driven r) := by
  refine ⟨h.distinct, h.allowed, ?_, h.silence, h.present⟩
  show (decide (r.mode = .level) && r.masterEnable && decide (r.pending ≠ [])) = true ↔
    r.mode = .level ∧ r.masterEnable = true ∧ r.pending ≠ []
  rw [Bool.and_eq_true, Bool.and_eq_true, decide_eq_true_eq, decide_eq_true_eq, and_assoc]

theorem PortOk.withReply {p : Port} {k : PortRec} (h : PortOk p k) (r : Reply) : PortOk p { k with reply := r } := h

theorem PortOk.withSelection {p : Port} {k : PortRec} (h : PortOk p k) (x : Option Snapshot) (r : Reply) :
    PortOk p { k with selection := x, reply := r } := h

/-- An attention notice (R187). -/
theorem PortOk.record {p : Port} {k : PortRec} (h : PortOk p k) (a : Attention) : PortOk p (k.record p a) := by
  unfold PortRec.record
  split
  next heard =>
    obtain ⟨both, fresh⟩ := Bool.and_eq_true_iff.1 heard
    obtain ⟨named, enabled⟩ := Bool.and_eq_true_iff.1 both
    have out : a ∉ k.pending := by simpa using fresh
    unfold PortRec.join
    rw [drive_eq_driven]
    refine PortCore.driven ⟨?_, fun b mem => ?_, h.core.silence, h.core.present⟩
    · refine List.nodup_append.2 ⟨h.core.distinct, List.nodup_singleton a, fun b mem d is => ?_⟩
      rintro rfl
      exact out (List.mem_singleton.1 is ▸ mem)
    · rcases List.mem_append.1 mem with old | new
      · exact h.core.allowed b old
      · rw [List.mem_singleton.1 new]
        exact ⟨named, enabled⟩
  · exact h

/-- An entry leaves the set (R188). -/
theorem PortOk.erased {p : Port} {k : PortRec} (h : PortOk p k) (a : Attention) :
    PortOk p (Machine.driven { k with pending := k.pending.erase a }) :=
  PortCore.driven ⟨h.core.distinct.erase a, fun b mem => h.core.allowed b (List.mem_of_mem_erase mem), h.core.silence,
    h.core.present⟩

/-- A cause is written (R190). -/
theorem PortOk.setCause {p : Port} {k : PortRec} (h : PortOk p k) (c : Cause) (l : Level) (on : Bool) :
    PortOk p (Machine.driven { k with
      causes := k.causes.set c ⟨on, l⟩
      pending := if on then k.pending else k.pending.filter fun a => a.cause != c }) := by
  refine PortCore.driven ⟨?_, fun a mem => ?_, h.core.silence, h.core.present⟩
  · cases on
    · exact h.core.distinct.filter _
    · exact h.core.distinct
  · show routed a.cause p = true ∧ ((k.causes.set c ⟨on, l⟩).get a.cause).enabled = true
    rw [PerCause.get_set]
    cases on
    · obtain ⟨old, other⟩ := List.mem_filter.1 mem
      rw [if_neg (by simpa using other)]
      exact h.core.allowed a old
    · obtain ⟨named, enabled⟩ := h.core.allowed a mem
      refine ⟨named, ?_⟩
      split
      · rfl
      · exact enabled

/-- The mode and the master enable are written (R189). -/
theorem PortOk.setMode {p : Port} {k : PortRec} (h : PortOk p k) (m : LineMode) (on : Bool) :
    PortOk p (Machine.driven { k with mode := m, masterEnable := on }) :=
  PortCore.driven ⟨h.core.distinct, h.core.allowed, h.core.silence, h.core.present⟩

theorem PortOk.withPresence {p : Port} {k : PortRec} (h : PortOk p k) {v : Presence} {n : Nat} (silence : n ≤ 300)
    (present : v ≠ .absent → n < 300) : PortOk p { k with presence := v, silence := n } :=
  ⟨h.core.distinct, h.core.allowed, h.line, silence, present⟩

/-! ## What a port does with its record -/

/-- The record of port `p` after an action on it. -/
def KeepsPort (p : Port) (act : State → State) : Prop := ∀ s, PortOk p (s.port p) → PortOk p ((act s).port p)

theorem port_setPort_self (s : State) (p : Port) (k : PortRec) : (s.setPort p k).port p = k := by
  rw [State.port_setPort, if_pos rfl]

theorem portOk_setPort {p : Port} {k : PortRec} (h : PortOk p k) (s : State) : PortOk p ((s.setPort p k).port p) := by
  rwa [port_setPort_self]

theorem portOk_answer {s : State} {q : Req} (h : PortOk q.port (s.port q.port)) (code : Nat) (r : Result) (d : Nat) :
    PortOk q.port ((s.answer q code r d).port q.port) := portOk_setPort (h.withReply _) s

theorem timeoutSeconds_le (n : Nat) : timeoutSeconds n ≤ 300 := by
  unfold timeoutSeconds
  split <;> decide

theorem keepsPort_second (p : Port) : KeepsPort p (State.portSecond p) := by
  intro s h
  rw [portSecond_eq]
  split
  · exact h
  next here =>
    have short := h.core.present here
    split
    · exact portOk_setPort (h.withPresence (by omega) (absurd rfl)) s
    next early =>
      have := timeoutSeconds_le (s.ret.timeouts.get p)
      exact portOk_setPort (h.withPresence (v := (s.port p).presence) (by omega) (fun _ => by omega)) s

theorem keepsPort_takeNop (q : Req) : KeepsPort q.port (State.takeNop q) := fun _ h => portOk_answer h _ _ _

theorem keepsPort_takeSelect (q : Req) : KeepsPort q.port (State.takeSelect q) := by
  intro s h
  rw [takeSelect_eq]
  split
  · exact portOk_setPort (h.withSelection _ _) s
  cases copied s q with
  | error r => exact portOk_setPort (h.withSelection _ _) s
  | ok l =>
    dsimp only
    split
    · exact portOk_setPort (h.withSelection _ _) s
    · exact portOk_setPort (h.withSelection _ _) s

theorem keepsPort_takeFetch (q : Req) : KeepsPort q.port (State.takeFetch q) := by
  intro s h
  rw [takeFetch_eq]
  cases (s.port q.port).selection with
  | none => exact portOk_answer h _ _ _
  | some x =>
    dsimp only
    split
    · split
      · exact portOk_answer h _ _ _
      · exact portOk_answer h _ _ _
    · exact portOk_answer h _ _ _

theorem keepsPort_takeNext (q : Req) : KeepsPort q.port (State.takeNext q) := by
  intro s h
  rw [takeNext_eq]
  cases (s.port q.port).highest with
  | none => exact portOk_answer h _ _ _
  | some a => exact portOk_setPort ((h.erased a).withReply _) s

theorem keepsPort_takeSet (q : Req) : KeepsPort q.port (State.takeSet q) := by
  intro s h
  rw [takeSet_eq]
  cases causeOf q.sub.toNat with
  | none => exact portOk_answer h _ _ _
  | some c =>
    dsimp only
    split
    · exact portOk_answer h _ _ _
    · split
      · exact portOk_answer h _ _ _
      · exact portOk_setPort ((h.setCause c _ _).withReply _) s

theorem keepsPort_takeMode (q : Req) : KeepsPort q.port (State.takeMode q) := by
  intro s h
  unfold State.takeMode
  split
  · exact portOk_answer h _ _ _
  · rw [answer_setPort, drive_eq_driven]
    exact portOk_setPort ((h.setMode _ _).withReply _) s

theorem keepsPort_forward (n : Nat) (q : Req) : KeepsPort q.port fun s => s.forward n q := by
  intro s h
  dsimp only
  rw [forward_eq]
  exact portOk_answer h _ _ _

theorem keepsPort_takeRequest (n : Nat) (q : Req) : KeepsPort q.port fun s => s.takeRequest n q := by
  intro s h
  dsimp only
  unfold State.takeRequest
  split
  · exact keepsPort_takeNop q s h
  · exact keepsPort_takeSelect q s h
  · exact keepsPort_takeFetch q s h
  · exact keepsPort_takeNext q s h
  · exact keepsPort_takeSet q s h
  · exact keepsPort_takeMode q s h
  · exact keepsPort_forward n q s h

/-- A frame that ends (R181, R182, R185). -/
theorem keepsPort_judgeFrame (p : Port) (bits : List Bool) : KeepsPort p fun s => s.judgeFrame p bits := by
  intro s h
  have present : PortOk p ((s.setPresence p .present 0).port p) := by
    rw [setPresence_eq]
    exact portOk_setPort (h.withPresence (by omega) fun _ => by omega) s
  dsimp only
  rw [judgeFrame_eq]
  split
  · exact portOk_setPort (h.withReply _) s
  split
  · exact portOk_setPort (h.withReply _) s
  unfold State.judgeRequest
  split
  · exact portOk_answer (q := frameReq p bits) present _ _ _
  split
  · exact keepsPort_takeRequest _ (frameReq p bits) _ present
  · exact portOk_answer (q := frameReq p bits) present _ _ _

/-! ## Every step -/

/-- Port `p` is in order once it has started. -/
def PortInvAt (p : Port) (s : State) : Prop := Ready s (.port p) → PortOk p (s.port p)

theorem portInvAt_own (p : Port) (s : State) : PortInvAt p s ↔ PortInvAt p (s.own (.port p)) := by
  unfold PortInvAt
  rw [ready_own]
  have same : (s.own (.port p)).port p = s.port p := PerPort.get_all _ _
  rw [same]

theorem KeepsPort.inv {p : Port} {act : State → State} (h : KeepsPort p act) {s : State} (ready : Ready s (.port p))
    (hs : PortInvAt p s) : PortInvAt p (act s) := fun _ => h s (hs ready)

/-- What a port does with its own commands. -/
theorem portInvAt_taken {p : Port} {c : Instr} {s t : State} (hb : blockOf c = some (.port p)) (hs : PortInvAt p s)
    (h : exec c s = .next t) : PortInvAt p t := by
  have takes {i : Instr} {act : State → State} (keeps : KeepsPort p act) {b : Block} (own : b = .port p)
      (h : deliver b i s act = .next t) : PortInvAt p t :=
    deliver_keeps (portInvAt_own p) hs (fun _ ready hs => keeps.inv (own ▸ ready) hs) h
  cases c <;> cases hb
  case nop.refl q => exact takes (keepsPort_takeNop q) rfl h
  case select.refl q => exact takes (keepsPort_takeSelect q) rfl h
  case fetch.refl q => exact takes (keepsPort_takeFetch q) rfl h
  case nextAttention.refl q => exact takes (keepsPort_takeNext q) rfl h
  case setAttention.refl q => exact takes (keepsPort_takeSet q) rfl h
  case attentionMode.refl q => exact takes (keepsPort_takeMode q) rfl h
  case replyNotice.refl r => exact takes (fun s h => portOk_setPort (h.withReply r) s) rfl h
  case attentionNotice.refl c g => exact takes (fun s h => portOk_setPort (h.record _) s) rfl h
  case secondMarkAtPort.refl m => exact takes (keepsPort_second p) rfl h
  case silenceTimeout.refl m =>
    exact onlyWhen_keeps hs (fun h => takes (i := .secondMarkAtPort p m) (keepsPort_second p) rfl h) h
  case silenceSetup.refl q =>
    dsimp only [exec] at h
    unfold execSilenceSetup at h
    refine request_keeps (portInvAt_own _) hs (fun s ready hs => ?_) h
    split
    · exact hs
    · split <;> exact hs

theorem port_started (s : State) (b : Block) (p : Port) : (s.started b).port p = s.port p := by
  unfold State.started
  dsimp only
  split <;> rfl

/-- Settles O17: a port's record changes by its own commands, frames and starts alone, and each leaves it in order. -/
theorem portsKept : Obligations.PortsKept := by
  intro s t hs h p
  refine step_keeps_own (o := .port p) (by simp) (by simp) (P := PortInvAt p) (portInvAt_own p)
    (fun hb _ hs h => portInvAt_taken hb hs h)
    (fun e => by cases e) (fun e => by cases e) (fun {p'} e {s} bits hs ready => ?_) (fun {s} b i e running hs _ => ?_)
    (fun {s} last off hs ready => absurd ready (not_ready_beginStart _ _ _ _))
    (fun {s} off hs ready => absurd ready (not_ready_beginStart _ _ _ _)) (fun {s} hs ready => nomatch ready.1)
    (fun {s} hs ready => nomatch ready.1) (hs p) h
  · cases e
    have blank := State.blank_judgeFrame s p bits
    have phase := congrArg State.phase blank
    have awaiting := congrArg State.awaiting blank
    have phase : (s.judgeFrame p bits).phase = s.phase := phase
    have awaiting : (s.judgeFrame p bits).awaiting = s.awaiting := awaiting
    have before : Ready s (.port p) := by
      unfold Ready at ready ⊢
      rwa [phase, awaiting] at ready
    exact keepsPort_judgeFrame p bits s (hs before)
  · have same : b = .port p := by cases b <;> simp_all [startOwner]
    subst same
    rw [port_started]
    show PortOk p (State.port (State.sendPresence (State.setPort _ p .start) p .unknown) p)
    rw [sendPresence_eq]
    exact portOk_setPort (portOk_start p) _

end Sys2Proof.Machine
end

section
/-! SUPPORT. The losses and returns of supply and reset (O58). -/

namespace Sys2Proof.Machine
open Sys2Proof

/-- The retained domain is judged by its latch and its check code (R49). -/
theorem valid_iff (s : State) : s.valid = true ↔ s.latch = false ∧ s.checkCode = Config.checkCodeOf s.ret := by
  rw [State.valid, Bool.and_eq_true, Bool.not_eq_true', decide_eq_true_eq]

theorem lines_lose (s : State) (p : Port) :
    s.lose.lines.get p =
      { s.lines.get p with
        frame := (s.lines.get p).frame.map fun f => ⟨f.reply, true⟩ } := PerPort.get_ofFn _ _

/-- Settles O58: POWER_UP and RESETN_RELEASE begin a start, the losses clear what the retained domain does not hold. -/
theorem supplyAndReset : Obligations.SupplyAndReset := by
  intro s infos starts lost
  refine ⟨?_, ?_, ?_, fun off => if_pos off, fun on => ?_, fun idle => if_neg idle, fun runs => ?_⟩
  · show execPowerUp s = _
    unfold execPowerUp
    by_cases off : s.phase = .unpowered
    · rw [if_pos off, if_neg (not_not.2 off)]
      by_cases valid : s.latch = false ∧ s.checkCode = Config.checkCodeOf s.ret
      · rw [if_pos ((valid_iff s).2 valid), if_pos valid]
        rfl
      · rw [if_neg (mt (valid_iff s).1 valid), if_neg valid]
        rfl
    · rw [if_neg off, if_pos off]
  · show execSupplyLossLatch s = _
    unfold execSupplyLossLatch
    split <;> rfl
  · show execResetnRelease s = _
    unfold execResetnRelease
    split <;> rfl
  · exact ⟨_, if_neg on, ⟨rfl, rfl, rfl, rfl, rfl, rfl, lines_lose s⟩, rfl, fun g => PerGallery.get_all _ g⟩
  · refine ⟨_, if_pos runs, ⟨rfl, rfl, rfl, rfl, rfl, rfl, lines_lose s⟩, rfl, fun g => ?_⟩
    show (PerGallery.ofFn fun g => !(s.sources g).isEmpty).get g = _
    rw [PerGallery.get_ofFn, SourceSet.isEmpty]
    rw [Bool.eq_iff_iff]
    simp

end Sys2Proof.Machine
end

section
/-! SUPPORT. What every start notice does around its block's own state: who is awaited, the clock, and what is in flight (R52). -/

namespace Sys2Proof.Machine
open Sys2Proof

/-! ## The start around a block -/

/-- The blocks that are awaited once a block has taken its start notice (R52). -/
def awaitedAfter (s : State) (b : Block) : List Block := s.awaiting.filter (· ≠ b)

/-- The clock once a block has taken its start notice: the last one writes the last mark stamp (R52). -/
def clockAfter (s : State) (b : Block) : Clock :=
  if awaitedAfter s b = [] then { s.clock with lastMarkDay := s.clock.day, lastMarkHour := s.clock.minute / 60 } else s.clock

/-- The state in which a block acts on its start notice. -/
def beginning (s : State) (b : Block) (i : StartInfo) : State :=
  { s with
    awaiting := if s.awaiting.contains b then s.awaiting else b :: s.awaiting
    inFlight := s.inFlight.erase (.startNotice b i) }

theorem beginning_eq (s : State) (b : Block) (i : StartInfo) : (s.take (.startNotice b i)).starting b = beginning s b i := by
  unfold State.starting beginning
  show (if s.awaiting.contains b then _ else _) = _
  split <;> rfl

/-- What becomes of the state that the block has made, once it has taken its start notice (R52, log entry 1). -/
def takenBy (b : Block) (s v : State) : State :=
  { v with
    awaiting := awaitedAfter s b
    ret := { v.ret with clock := clockAfter s b }
    waiting := s.waiting.filter (blockOf · ≠ some b)
    inFlight := s.waiting.filter (blockOf · = some b) ++ v.inFlight
    checkCode := Config.checkCodeOf { v.ret with clock := clockAfter s b } }

theorem awaiting_beginning (s : State) (b : Block) (i : StartInfo) :
    ((beginning s b i).awaiting.filter fun x => x ≠ b) = awaitedAfter s b := by
  unfold beginning awaitedAfter
  dsimp only
  split
  · rfl
  · simp

theorem started_eq_takenBy {s v : State} {b : Block} {i : StartInfo} (awaiting : v.awaiting = (beginning s b i).awaiting)
    (clock : v.clock = s.clock) (waiting : v.waiting = s.waiting) : (v.started b).seal = takenBy b s v := by
  have left : (v.awaiting.filter fun x => x ≠ b) = awaitedAfter s b := by rw [awaiting, awaiting_beginning]
  have retained : v.ret.clock = s.clock := clock
  unfold State.started takenBy State.admitWaiting
  dsimp only
  rw [left, waiting]
  by_cases last : awaitedAfter s b = []
  · have written : clockAfter s b = { s.clock with lastMarkDay := s.clock.day, lastMarkHour := s.clock.minute / 60 } := if_pos last
    rw [if_pos (List.isEmpty_iff.2 last), written, ← retained]
    rfl
  · have kept : clockAfter s b = v.ret.clock := (if_neg last).trans retained.symm
    rw [if_neg (mt List.isEmpty_iff.1 last), kept]
    rfl

theorem awaiting_startBlock (s : State) (b : Block) (i : StartInfo) : (s.startBlock b i).awaiting = s.awaiting := by
  have same := congrArg State.awaiting (s.blank_startBlock b i)
  have blank (u : State) : (u.blank (startOwner b)).awaiting = u.awaiting := by cases startOwner b <;> rfl
  rwa [blank, blank] at same

theorem waiting_startBlock (s : State) (b : Block) (i : StartInfo) : (s.startBlock b i).waiting = s.waiting := by
  have same := congrArg State.waiting (s.blank_startBlock b i)
  have blank (u : State) : (u.blank (startOwner b)).waiting = u.waiting := by cases startOwner b <;> rfl
  rwa [blank, blank] at same

theorem clock_startBlock (s : State) (b : Block) (i : StartInfo) : (s.startBlock b i).clock = s.clock := by
  by_cases time : b = .timeBase
  · subst time
    rfl
  · have other : startOwner b ≠ .timeBase := by
      unfold startOwner
      split
      · exact nofun
      · exact time
    have same := congrArg State.clock (s.blank_startBlock b i)
    have blank (u : State) : (u.blank (startOwner b)).clock = u.clock := by
      cases owner : startOwner b with
      | timeBase => exact absurd owner other
      | _ => rfl
    rwa [blank, blank] at same

/-- A start notice that a running part takes (R52). -/
theorem exec_startNotice {s : State} (running : s.phase = .running) (b : Block) (i : StartInfo) :
    exec (.startNotice b i) s = .next (takenBy b s ((beginning s b i).startBlock b i)) := by
  show execStartNotice b i s = _
  unfold execStartNotice
  rw [if_pos running, beginning_eq,
    started_eq_takenBy (awaiting_startBlock _ b i) (clock_startBlock _ b i) (waiting_startBlock _ b i)]

/-! ## What the block alone changes -/

theorem rest_takenBy {o b : Block} (s : State) {v u : State} (same : v.blank o = u.blank o) :
    (takenBy b s v).rest o = (takenBy b s u).rest o := by
  have through (x : State) : (takenBy b s x).rest o = (takenBy b s (x.rest o)).rest o := by
    cases o
    case port p =>
      simp only [State.rest, State.blank, takenBy, PerPort.set_set]
    all_goals rfl
  rw [through v, through u, rest_eq_of_blank same]

/-- Nothing but the block's own state changes with its start notice (R52). -/
theorem owned_startNotice (s : State) (b : Block) (i : StartInfo) :
    Owned (startOwner b) { s with
      awaiting := awaitedAfter s b
      ret := { s.ret with clock := clockAfter s b }
      waiting := s.waiting.filter (blockOf · ≠ some b) } (takenBy b s ((beginning s b i).startBlock b i)) := by
  refine owned_of_rest ((rest_takenBy s ((beginning s b i).blank_startBlock b i)).trans ?_)
  cases startOwner b <;> rfl

/-! ## What a start sends -/

/-- Only notices have been sent, at the newest end. -/
def Sends (s t : State) : Prop := ∃ l, t.inFlight = s.inFlight ++ l

theorem Sends.of_eq {s t : State} (h : t.inFlight = s.inFlight) : Sends s t := ⟨[], by rw [h, List.append_nil]⟩

/-- What the tracking filter bank sends of a channel at a start (R36). -/
def updateNews (s : State) (c : Chan) : List Instr := trackedNotices ⟨c, .state, none, s.startState c, (s.cfg c).du⟩

theorem startUpdate_eq (s : State) (c : Chan) : s.startUpdate c = s.sendAll (updateNews s c) := sendTracked_eq_sendAll s _

theorem startUpdates_eq (s : State) (g : Gallery) : startUpdates g s = s.sendAll (kinds.flatMap fun k => updateNews s ⟨g, k⟩) := by
  have same (l : List Instr) (c : Chan) : updateNews (s.sendAll l) c = updateNews s c := rfl
  simp only [startUpdates, kinds, List.foldl_cons, List.foldl_nil, startUpdate_eq, State.sendAll_sendAll, same,
    List.flatMap_cons, List.flatMap_nil, List.append_nil, List.append_assoc]

theorem forGalleries_startUpdates (s : State) :
    forGalleries startUpdates s = s.sendAll (galleries.flatMap fun g => kinds.flatMap fun k => updateNews s ⟨g, k⟩) := by
  have same (l : List Instr) (c : Chan) : updateNews (s.sendAll l) c = updateNews s c := rfl
  simp only [forGalleries, galleries, startUpdates_eq, State.sendAll_sendAll, same, List.flatMap_cons, List.flatMap_nil,
    List.append_nil, List.append_assoc]

theorem sends_startLog (s : State) (i : StartInfo) : Sends s (s.startLog i) := by
  unfold State.startLog
  cases i.kind with
  | cold => exact .of_eq rfl
  | warm =>
    refine .of_eq ((forGalleries_same State.inFlight (fun g s => ?_) _).trans rfl)
    unfold State.reevalFault State.closeExc
    dsimp only
    rw [Bool.and_false]
    split <;> rfl

/-- A block adds what it sends at its start to the newest end of what is in flight. -/
theorem sends_startBlock (s : State) (b : Block) (i : StartInfo) : Sends s (s.startBlock b i) := by
  cases b with
  | timeBase => exact .of_eq rfl
  | acquisition =>
    refine .of_eq ?_
    unfold State.startBlock State.startAcquisition
    cases i.kind <;> rfl
  | filter =>
    unfold State.startBlock State.startFilter
    cases i.kind <;> exact ⟨_, congrArg State.inFlight (forGalleries_startUpdates _)⟩
  | envelope =>
    refine .of_eq ?_
    unfold State.startBlock State.startEnvelope
    cases i.kind <;> rfl
  | light => exact ⟨_, (startLight_made s i).inFlight⟩
  | climate => exact ⟨_, ((startClimate_acts i).forGalleries s).inFlight⟩
  | history =>
    refine .of_eq ?_
    unfold State.startBlock State.startHistory
    cases i.kind with
    | cold => rfl
    | warm => dsimp only; split <;> rfl
  | log => exact sends_startLog s i
  | darkening =>
    have made := (startDarkening_made s i).inFlight
    cases kind : i.kind <;> rw [kind] at made <;> exact ⟨_, made⟩
  | sequencer =>
    refine .of_eq ?_
    unfold State.startBlock State.startSequencer
    cases i.kind <;> rfl
  | port p =>
    show Sends s (State.sendPresence (State.setPort _ p .start) p .unknown)
    rw [sendPresence_eq]
    cases i.kind <;> exact ⟨_, rfl⟩

end Sys2Proof.Machine
end

section
/-! SUPPORT. What the blocks make of their own state at a start (O59). -/

namespace Sys2Proof.Machine
open Sys2Proof

/-! ## The acquisition unit and the tracking filter bank -/

/-- The acquisition unit's records after its start (R20, R21). -/
theorem startAcquisition_chan (s : State) (i : StartInfo) (c : Chan) :
    (s.startAcquisition i).cfg c = (if i.kind = .cold then ChanCfg.default c.k else s.cfg c) ∧
    (s.startAcquisition i).checkFault c = (!decide (i.kind = .cold) && s.checkFault c) ∧
    (s.startAcquisition i).chan c = ⟨begun (s.startAcquisition i) c, 0, 0, none, none, none, ⟨none, .none, none, none⟩⟩ := by
  unfold State.startAcquisition
  obtain ⟨g, k⟩ := c
  cases i.kind with
  | cold =>
    refine ⟨?_, ?_, ?_⟩
    · cases g <;> cases k <;> rfl
    · cases g <;> cases k <;> rfl
    · refine (getChan_chanTable (fun c => ChanRec.start (State.startState _ c)) ⟨g, k⟩).trans ?_
      rw [startState_eq_begun]
      rfl
  | warm =>
    refine ⟨rfl, rfl, ?_⟩
    refine (getChan_chanTable (fun c => ChanRec.start (State.startState s c)) ⟨g, k⟩).trans ?_
    rw [startState_eq_begun]
    rfl

theorem startAcquisition_faulted (s : State) (i : StartInfo) (g : Gallery) :
    (s.startAcquisition i).acq.faulted.get g =
      (kinds.filter fun k => begun (s.startAcquisition i) ⟨g, k⟩ = .fault .check).length := by
  unfold State.startAcquisition
  cases i.kind with
  | cold =>
    refine (PerGallery.get_ofFn (State.startFaulted _) g).trans ?_
    unfold State.startFaulted
    simp only [startState_eq_begun]
    rfl
  | warm =>
    refine (PerGallery.get_ofFn (State.startFaulted s) g).trans ?_
    unfold State.startFaulted
    simp only [startState_eq_begun]
    rfl

theorem startAcquisition_cal (s : State) (i : StartInfo) : (s.startAcquisition i).acq.cal = none := by
  unfold State.startAcquisition
  cases i.kind <;> rfl

/-- The state of the tracking filter bank's start before its notices (R36). -/
def filterBegun (s : State) (i : StartInfo) : State :=
  let s := match i.kind with
    | .cold => { s with ret := { s.ret with cfg := .ofFn fun g => .ofFn fun k => (s.cfg ⟨g, k⟩).defaultFilter k } }
    | .warm => s
  { s with trackers := .ofFn fun g => .ofFn fun k => .start (s.startState ⟨g, k⟩) }

theorem startFilter_eq (s : State) (i : StartInfo) :
    s.startFilter i =
      (filterBegun s i).sendAll (galleries.flatMap fun g => kinds.flatMap fun k => updateNews (filterBegun s i) ⟨g, k⟩) :=
  forGalleries_startUpdates (filterBegun s i)

theorem filterBegun_cfg (s : State) (i : StartInfo) (c : Chan) :
    (filterBegun s i).cfg c = if i.kind = .cold then
      { s.cfg c with mode := .stepped, fast := defaultFast c.k, slow := defaultSlow c.k, hold := false } else s.cfg c := by
  unfold filterBegun
  cases i.kind with
  | cold => exact getChan_chanTable (fun c => (s.cfg c).defaultFilter c.k) c
  | warm => rfl

theorem filterBegun_startState (s : State) (i : StartInfo) (c : Chan) : (filterBegun s i).startState c = begun s c := by
  have flags : (filterBegun s i).checkFault c = s.checkFault c := by
    unfold filterBegun
    cases i.kind <;> rfl
  have enabled : ((filterBegun s i).cfg c).enabled = (s.cfg c).enabled := by
    rw [filterBegun_cfg]
    split <;> rfl
  rw [startState_eq_begun, begun, flags, enabled]
  rfl

theorem filterBegun_du (s : State) (i : StartInfo) (c : Chan) : ((filterBegun s i).cfg c).du = (s.cfg c).du := by
  rw [filterBegun_cfg]
  split <;> rfl

theorem filterBegun_tracker (s : State) (i : StartInfo) (c : Chan) :
    (filterBegun s i).tracker c = ⟨false, 0, 0, false, none, begun s c⟩ := by
  have started : (filterBegun s i).tracker c = Tracker.start ((filterBegun s i).startState c) := by
    unfold filterBegun
    cases i.kind with
    | cold => exact getChan_chanTable (fun c => Tracker.start (State.startState _ c)) c
    | warm => exact getChan_chanTable (fun c => Tracker.start (State.startState s c)) c
  rw [started, filterBegun_startState]
  rfl

/-- Every channel's tracked update is sent at a start (R36). -/
theorem mem_startFilter (s : State) (i : StartInfo) (c : Chan) {n : Instr}
    (mem : n ∈ trackedNotices ⟨c, .state, none, begun s c, (s.cfg c).du⟩) : n ∈ (s.startFilter i).inFlight := by
  rw [startFilter_eq]
  refine List.mem_append_right _ (List.mem_flatMap.2 ⟨c.g, mem_galleries c.g, List.mem_flatMap.2 ⟨c.k, ?_, ?_⟩⟩)
  · cases c.k <;> decide
  · rw [updateNews, filterBegun_startState, filterBegun_du]
    exact mem

theorem startFilter_acq (s : State) (i : StartInfo) :
    (s.startFilter i).acq = s.acq ∧ (s.startFilter i).ret.checkFault = s.ret.checkFault := by
  rw [startFilter_eq]
  unfold filterBegun
  cases i.kind <;> exact ⟨rfl, rfl⟩

theorem startFilter_cfg (s : State) (i : StartInfo) (c : Chan) :
    (s.startFilter i).cfg c = if i.kind = .cold then
      { s.cfg c with mode := .stepped, fast := defaultFast c.k, slow := defaultSlow c.k, hold := false } else s.cfg c := by
  rw [startFilter_eq]
  exact filterBegun_cfg s i c

theorem startFilter_tracker (s : State) (i : StartInfo) (c : Chan) :
    (s.startFilter i).tracker c = ⟨false, 0, 0, false, none, begun s c⟩ := by
  rw [startFilter_eq]
  exact filterBegun_tracker s i c

/-! ## The envelope table, the history store, the sequencer and the ports -/

theorem startEnvelope_gallery (s : State) (i : StartInfo) (g : Gallery) :
    (s.startEnvelope i).active g = (if i.kind = .cold then defaultEnvelope else s.active g) ∧
    (s.startEnvelope i).loanLock g = (!decide (i.kind = .cold) && s.loanLock g) ∧
    (s.startEnvelope i).envStaged g = ⟨(s.startEnvelope i).active g, false⟩ := by
  unfold State.startEnvelope
  cases i.kind <;> cases g <;> exact ⟨rfl, rfl, rfl⟩

theorem startHistory_aggregates (s : State) (i : StartInfo) (g : Gallery) :
    (s.startHistory i).aggregates g =
      ⟨none, none, none, none, none, none, true, true, begun s ⟨g, .rh⟩, none, begun s ⟨g, .temp⟩, none⟩ := by
  have started (u : State) (same : ∀ c, u.startState c = begun s c) :
      (PerGallery.ofFn fun g => Aggregates.start (u.startState ⟨g, .rh⟩) (u.startState ⟨g, .temp⟩)).get g =
        ⟨none, none, none, none, none, none, true, true, begun s ⟨g, .rh⟩, none, begun s ⟨g, .temp⟩, none⟩ := by
    rw [PerGallery.get_ofFn, same, same]
    rfl
  unfold State.startHistory
  cases i.kind with
  | cold => exact started _ fun c => startState_eq_begun s c
  | warm =>
    refine started _ fun c => ?_
    dsimp only
    split <;> exact startState_eq_begun s c

theorem startHistory_history (s : State) (i : StartInfo) :
    (s.startHistory i).ret.history =
      match i.kind with
      | .cold => History.cold
      | .warm => if i.day = i.lastMarkDay then s.ret.history else s.ret.history.applyPartition none := by
  unfold State.startHistory
  cases i.kind with
  | cold => rfl
  | warm =>
    dsimp only
    split <;> rfl

theorem carried_none (h : History) (ls : PerGallery Nat) (g : Gallery) : carried h ls none g = none := by
  unfold carried
  split <;> rfl

/-- A partition applied at a start keeps no record of a ring that it moves (R137). -/
theorem applyPartition_start {h : History} {ls : PerGallery Nat} (due : h.pendingPartition = some ls) :
    (h.applyPartition none).pendingPartition = none ∧ (h.applyPartition none).slots = h.slots ∧
    ∀ g : Gallery, (h.applyPartition none).rings.get g =
      if (h.rings.get g).base = ((galleries.take (galleryNum g)).map ls.get).sum ∧ (h.rings.get g).length = ls.get g then
        h.rings.get g
      else ⟨((galleries.take (galleryNum g)).map ls.get).sum, ls.get g, 0, none, 0, false⟩ := by
  refine ⟨applyPartition_pending none due, ?_, fun g => ?_⟩
  · refine Vector.ext fun i within => ?_
    have same := applyPartition_slots (i := i) none due fun g moves => absurd (carried_none h ls g) moves
    rw [Vector.getElem?_eq_getElem within, Vector.getElem?_eq_getElem within] at same
    exact Option.some.inj same
  · rw [applyPartition_rings none due, relaid, carried_none, keepsPlace, ringBase_eq_sum]
    simp only [decide_eq_true_eq]
    rfl

theorem applyPartition_idle {h : History} (idle : h.pendingPartition = none) (ending : Option (Nat × Nat)) :
    h.applyPartition ending = h := by
  unfold History.applyPartition
  rw [idle]

/-- The history store's records after its start (R136, R137). -/
theorem startHistory_kept (s : State) {i : StartInfo} (warm : ¬i.kind = .cold)
    (still : i.day = i.lastMarkDay ∨ s.ret.history.pendingPartition = none) :
    (s.startHistory i).ret.history = s.ret.history := by
  rw [startHistory_history]
  cases kind : i.kind with
  | cold => exact absurd kind warm
  | warm =>
    dsimp only
    split
    · rfl
    next moved => exact applyPartition_idle (still.resolve_left moved) none

theorem startHistory_applied (s : State) {i : StartInfo} (warm : ¬i.kind = .cold) (moved : i.day ≠ i.lastMarkDay) :
    (s.startHistory i).ret.history = s.ret.history.applyPartition none := by
  rw [startHistory_history]
  cases kind : i.kind with
  | cold => exact absurd kind warm
  | warm => exact if_neg moved

theorem startSequencer_made (s : State) (i : StartInfo) :
    (s.startSequencer i).seq = .start ∧
    (s.startSequencer i).ret.setup = if i.kind = .cold then ⟨⟨true, true, true, true⟩, 1⟩ else s.ret.setup := by
  unfold State.startSequencer
  cases i.kind <;> exact ⟨rfl, rfl⟩

/-- A port's start (R191). -/
theorem startPort_eq (s : State) (p : Port) (i : StartInfo) :
    s.startPort p i =
      ((if i.kind = .cold then s.setTimeout p 2 else s).setPort p .start).sendAll (toldBlock p .unknown) := by
  unfold State.startPort
  rw [sendPresence_eq]
  cases i.kind <;> rfl

theorem startPort_made (s : State) (p : Port) (i : StartInfo) :
    (s.startPort p i).port p = .start ∧
    (s.startPort p i).ret.timeouts.get p = (if i.kind = .cold then 2 else s.ret.timeouts.get p) ∧
    (s.startPort p i).ret.log = s.ret.log ∧ (s.startPort p i).log = s.log ∧
    ∀ n ∈ toldBlock p .unknown, n ∈ (s.startPort p i).inFlight := by
  rw [startPort_eq]
  refine ⟨port_setPort_self _ p .start, ?_, ?_, ?_, fun n mem => List.mem_append_right _ mem⟩
  · split
    · exact PerPort.get_set_self _ _ _
    · rfl
  · split <;> rfl
  · split <;> rfl

end Sys2Proof.Machine
end

section
/-! SUPPORT. The excursion log's start: the types it finds active and the SENSOR_FAULT entries it closes (R150, R151), and the
start notices of seven kinds of block (O59). -/

namespace Sys2Proof.Machine
open Sys2Proof

/-! ## Galleries in turn -/

/-- When each gallery takes the state a list of galleries has built to the state it builds with that gallery at its end, the
six build the state of their list. -/
theorem forGalleries_builds {f : Gallery → State → State} {build : List Gallery → State}
    (next : ∀ l g, g ∉ l → f g (build l) = build (l ++ [g])) : forGalleries f (build []) = build galleries := by
  unfold forGalleries
  rw [next [] Gallery.g0 (by decide), next ([] ++ [Gallery.g0]) Gallery.g1 (by decide),
    next ([] ++ [Gallery.g0] ++ [Gallery.g1]) Gallery.g2 (by decide),
    next ([] ++ [Gallery.g0] ++ [Gallery.g1] ++ [Gallery.g2]) Gallery.g3 (by decide),
    next ([] ++ [Gallery.g0] ++ [Gallery.g1] ++ [Gallery.g2] ++ [Gallery.g3]) Gallery.g4 (by decide),
    next ([] ++ [Gallery.g0] ++ [Gallery.g1] ++ [Gallery.g2] ++ [Gallery.g3] ++ [Gallery.g4]) Gallery.g5 (by decide)]
  rfl

/-! ## Entries closed together -/

/-- The pool with some OPEN entries closed at a stamp, those of them that are acknowledged removed (R143). -/
def sweptPool (p : Entry → Bool) (st : SecondStamp) (l : List Entry) : List Entry :=
  (l.filter fun e => !(p e && e.acked)).map fun e => if p e then { e with closed := some st } else e

theorem LogGood.swept {l : LogRetained} (good : LogGood l) (p : Entry → Bool) (st : SecondStamp) :
    LogGood { l with pool := sweptPool p st l.pool } := by
  have kept := good.sub (p := l.pool.filter fun e => !(p e && e.acked)) List.filter_sublist l.overflow
  refine kept.mapped (fun e => if p e then { e with closed := some st } else e) (fun e => ?_) (fun e => ?_) (fun e => ?_)
    (fun e mem => ?_)
  · split <;> exact ⟨rfl, rfl, rfl⟩
  · split
    · exact nofun
    · exact id
  · split <;> exact id
  · split
    next named =>
      intro _
      have unacked := (List.mem_filter.1 mem).2
      simpa [named] using unacked
    next => exact kept.acked e mem

/-- Entries closed after others that are named apart from them. -/
theorem sweptPool_sweptPool {p q : Entry → Bool} {st : SecondStamp} (l : List Entry)
    (apart : ∀ e, p e = true → q { e with closed := some st } = false) :
    sweptPool q st (sweptPool p st l) = sweptPool (fun e => p e || q e) st l := by
  unfold sweptPool
  rw [List.filter_map, List.filter_filter, List.map_map]
  have left : ∀ e ∈ l, (((fun e : Entry => !(q e && e.acked)) ∘ fun e => if p e then { e with closed := some st } else e) e &&
      !(p e && e.acked)) = !((p e || q e) && e.acked) := fun e _ => by
    cases named : p e
    · simp [named]
    · simp [named, apart e named]
  rw [List.filter_congr left]
  refine List.map_congr_left fun e _ => ?_
  cases named : p e
  · simp [named]
  · simp [named, apart e named]

theorem sweptPool_congr {p q : Entry → Bool} (st : SecondStamp) {l : List Entry} (same : ∀ e ∈ l, p e = q e) :
    sweptPool p st l = sweptPool q st l := by
  unfold sweptPool
  rw [List.filter_congr fun e mem => by rw [same e mem]]
  exact List.map_congr_left fun e mem => by rw [same e (List.mem_of_mem_filter mem)]

/-! ## The start of the log -/

/-- No channel of a gallery starts in FAULT (R151). -/
def soundStart (s : State) (g : Gallery) : Bool := kinds.all fun k => begun s ⟨g, k⟩ != .fault .check

theorem startFaulted_eq_zero (s : State) (g : Gallery) : s.startFaulted g = 0 ↔ soundStart s g = true := by
  unfold State.startFaulted soundStart
  rw [List.length_eq_zero_iff, List.filter_eq_nil_iff, List.all_eq_true]
  simp only [startState_eq_begun, decide_eq_true_eq, bne_iff_ne, ne_eq]

/-- The OPEN SENSOR_FAULT entries of those galleries of a list in which no channel starts in FAULT. -/
def faultEnds (s : State) (l : List Gallery) (e : Entry) : Bool :=
  l.contains e.g && e.type == .sensorFault && e.isOpen && soundStart s e.g

/-- The log's state at a warm start with the galleries of a list re-evaluated (R151). -/
def logSwept (s : State) (st : SecondStamp) (l : List Gallery) : State :=
  { s with
    ret := { s.ret with log := { s.ret.log with pool := sweptPool (faultEnds s l) st s.ret.log.pool } }
    log := ⟨.ofFn fun g => .ofFn fun y =>
      s.openAtStart g y && !(l.contains g && y == .sensorFault && soundStart s g), true⟩ }

theorem isActive_logSwept (s : State) (st : SecondStamp) (l : List Gallery) (g : Gallery) (y : ExcType) :
    (logSwept s st l).isActive g y =
      (s.openAtStart g y && !(l.contains g && y == .sensorFault && soundStart s g)) := by
  show ((PerGallery.ofFn fun g => PerType.ofFn fun y => _).get g).get y = _
  rw [PerGallery.get_ofFn, PerType.get_ofFn]

theorem logSwept_congr {s : State} {st : SecondStamp} {l m : List Gallery}
    (pool : ∀ e ∈ s.ret.log.pool, faultEnds s l e = faultEnds s m e)
    (active : ∀ g y, (s.openAtStart g y && !(l.contains g && y == .sensorFault && soundStart s g)) =
      (s.openAtStart g y && !(m.contains g && y == .sensorFault && soundStart s g))) : logSwept s st l = logSwept s st m := by
  unfold logSwept
  simp only [sweptPool_congr st pool, active]

theorem contains_append_self (l : List Gallery) (g h : Gallery) : (l ++ [g]).contains h = (l.contains h || h == g) := by
  rw [List.contains_append, List.contains_cons, List.contains_nil, Bool.or_false]

/-- A gallery that needs no closing leaves the log as it is (R151). -/
theorem logSwept_idle {s : State} {st : SecondStamp} {l : List Gallery} {g : Gallery}
    (idle : ¬(soundStart s g = true ∧ s.openAtStart g .sensorFault = true)) : logSwept s st l = logSwept s st (l ++ [g]) := by
  refine logSwept_congr (fun e mem => ?_) fun h y => ?_
  · unfold faultEnds
    rw [contains_append_self]
    by_cases here : e.g = g
    · have quiet : (e.type == .sensorFault && e.isOpen && soundStart s e.g) = false := by
        rw [Bool.eq_false_iff]
        intro ends
        obtain ⟨both, sound⟩ := Bool.and_eq_true_iff.1 ends
        obtain ⟨fault, stands⟩ := Bool.and_eq_true_iff.1 both
        refine idle ⟨here ▸ sound, List.any_eq_true.2 ⟨e, mem, (isOpenOf_iff _ _ e).2 ⟨here, by simpa using fault, stands⟩⟩⟩
      rw [Bool.and_assoc, Bool.and_assoc, ← Bool.and_assoc (e.type == _), quiet, Bool.and_false, Bool.and_assoc, Bool.and_assoc,
        ← Bool.and_assoc (e.type == _), quiet, Bool.and_false]
    · have other : (e.g == g) = false := by simpa using here
      rw [other, Bool.or_false]
  · rw [contains_append_self]
    by_cases here : h = g
    · subst here
      by_cases fault : y = .sensorFault
      · subst fault
        cases sound : soundStart s h
        · simp
        · have none : s.openAtStart h .sensorFault = false := by
            rw [Bool.eq_false_iff]
            exact fun stands => idle ⟨sound, stands⟩
          rw [none, Bool.false_and, Bool.false_and]
      · have other : (y == ExcType.sensorFault) = false := by simpa using fault
        simp [other]
    · have other : (h == g) = false := by simpa using here
      rw [other, Bool.or_false]

/-- A gallery whose SENSOR_FAULT stands while no channel starts in FAULT has it closed (R151). -/
theorem logSwept_closes {s : State} (good : LogGood s.ret.log) {st : SecondStamp} {l : List Gallery} {g : Gallery}
    (sound : soundStart s g = true) :
    (logSwept s st l).closeExc g .sensorFault st false = logSwept s st (l ++ [g]) := by
  have ends (e : Entry) : (faultEnds s l e || isOpenOf g .sensorFault e) = faultEnds s (l ++ [g]) e := by
    unfold faultEnds isOpenOf
    have type : (e.type == ExcType.sensorFault) = decide (e.type = .sensorFault) := rfl
    rw [contains_append_self, type]
    by_cases here : e.g = g
    · cases l.contains e.g <;> cases e.isOpen <;> simp [here, sound]
    · have other : (e.g == g) = false := by simpa using here
      simp [other, here]
  have pool : sweptPool (isOpenOf g .sensorFault) st (sweptPool (faultEnds s l) st s.ret.log.pool) =
      sweptPool (faultEnds s (l ++ [g])) st s.ret.log.pool := by
    rw [sweptPool_sweptPool _ fun e _ => by simp [isOpenOf, Entry.isOpen], funext ends]
  have active : ((logSwept s st l).setActiveType g .sensorFault false).log.active = (logSwept s st (l ++ [g])).log.active := by
    refine PerGallery.ext_get fun h => PerType.ext_get fun y => ?_
    have was : (((logSwept s st l).setActiveType g .sensorFault false).log.active.get h).get y =
        if h = g ∧ y = .sensorFault then false else (logSwept s st l).isActive h y := isActive_setActiveType _ g h _ y false
    have goes : ((logSwept s st (l ++ [g])).log.active.get h).get y = (logSwept s st (l ++ [g])).isActive h y := rfl
    rw [was, goes, isActive_logSwept, isActive_logSwept, contains_append_self]
    by_cases both : h = g ∧ y = .sensorFault
    · obtain ⟨rfl, rfl⟩ := both
      simp [sound]
    · rw [if_neg both]
      by_cases here : h = g
      · have other : (y == ExcType.sensorFault) = false := by simpa using fun e => both ⟨here, e⟩
        simp [other]
      · have other : (h == g) = false := by simpa using here
        rw [other, Bool.or_false]
  rw [closeExc_eq (good.swept (faultEnds s l) st), Bool.and_false, if_neg Bool.false_ne_true, State.sendAll_nil]
  show ({ (logSwept s st l).setActiveType g .sensorFault false with
    ret := { s.ret with log := { s.ret.log with
      pool := sweptPool (isOpenOf g .sensorFault) st (sweptPool (faultEnds s l) st s.ret.log.pool) } } } : State) = _
  rw [pool]
  show ({ logSwept s st (l ++ [g]) with
    log := ⟨((logSwept s st l).setActiveType g .sensorFault false).log.active, true⟩ } : State) = _
  rw [active]
  rfl

/-- A gallery's SENSOR_FAULT is re-evaluated (R151). -/
theorem reevalFault_logSwept {s : State} (good : LogGood s.ret.log) (i : StartInfo) (l : List Gallery) (g : Gallery)
    (fresh : g ∉ l) : State.reevalFault i g (logSwept s (infoStamp i) l) = logSwept s (infoStamp i) (l ++ [g]) := by
  have faults : (logSwept s (infoStamp i) l).startFaulted g = s.startFaulted g := rfl
  have active : (logSwept s (infoStamp i) l).isActive g .sensorFault = s.openAtStart g .sensorFault := by
    rw [isActive_logSwept, List.contains_eq_mem, decide_eq_false fresh]
    simp
  unfold State.reevalFault
  simp only [faults, active, startFaulted_eq_zero]
  split
  next due => exact logSwept_closes good due.1
  next idle => exact logSwept_idle idle

/-- The log's start (R150, R151). -/
theorem startLog_warm {s : State} (good : LogGood s.ret.log) {i : StartInfo} (warm : ¬i.kind = .cold) :
    s.startLog i = logSwept s (infoStamp i) galleries := by
  have none : logSwept s (infoStamp i) [] =
      { s with log := ⟨.ofFn fun g => .ofFn (s.openAtStart g), true⟩ } := by
    have pool : sweptPool (faultEnds s []) (infoStamp i) s.ret.log.pool = s.ret.log.pool := by
      unfold sweptPool faultEnds
      simp
    unfold logSwept
    rw [pool]
    simp
  unfold State.startLog
  cases kind : i.kind with
  | cold => exact absurd kind warm
  | warm =>
    dsimp only
    rw [← none]
    exact forGalleries_builds fun l g fresh => reevalFault_logSwept good i l g fresh

/-- What the log's start leaves (R150, R151). -/
theorem startLog_made {s : State} (good : LogGood s.ret.log) (i : StartInfo) :
    (s.startLog i).log.sinceSelection = (!decide (i.kind = .cold)) ∧
    (∀ g y, (s.startLog i).isActive g y =
      (!decide (i.kind = .cold) && s.openAtStart g y && !(y == .sensorFault && soundStart s g))) ∧
    (s.startLog i).ret.log = if i.kind = .cold then ⟨[], 0, false⟩
      else { s.ret.log with pool := sweptPool (faultEnds s galleries) (infoStamp i) s.ret.log.pool } := by
  by_cases cold : i.kind = .cold
  · unfold State.startLog
    rw [cold]
    refine ⟨rfl, fun g y => ?_, rfl⟩
    cases g <;> cases y <;> rfl
  · rw [startLog_warm good cold, if_neg cold, decide_eq_false cold]
    refine ⟨rfl, fun g y => ?_, rfl⟩
    rw [isActive_logSwept, List.contains_eq_mem, decide_eq_true (mem_galleries g)]
    rfl

theorem faultEnds_galleries (s : State) (e : Entry) :
    faultEnds s galleries e = (e.type == .sensorFault && e.closed == none && soundStart s e.g) := by
  unfold faultEnds
  rw [List.contains_eq_mem, decide_eq_true (mem_galleries e.g), Bool.true_and]
  cases closed : e.closed <;> simp [Entry.isOpen, closed]

/-! ## The seven kinds of block -/

/-- Settles O59: a start notice sets its block's own state, lets what waited come next and leaves everything else. -/
theorem startNoticesTaken : Obligations.StartNoticesTaken := by
  intro b i s running inv cold others clock base opened sound ends
  obtain ⟨v, is⟩ : ∃ v, v = (beginning s b i).startBlock b i := ⟨_, rfl⟩
  have owned := owned_startNotice s b i
  have sends := sends_startBlock (beginning s b i) b i
  rw [← is] at owned sends
  refine ⟨takenBy b s v, is ▸ exec_startNotice running b i, owned, rfl, ?_, ?_, ?_, ?_, ?_, ?_, ?_, ?_⟩
  · obtain ⟨l, sent⟩ := sends
    exact ⟨l, congrArg (_ ++ ·) sent⟩
  · rintro rfl
    have chan := startAcquisition_chan (beginning s .acquisition i) i
    have idle := startAcquisition_cal (beginning s .acquisition i) i
    have counts := startAcquisition_faulted (beginning s .acquisition i) i
    have is : v = (beginning s .acquisition i).startAcquisition i := is
    rw [← is] at chan idle counts
    refine ⟨fun c => ?_, idle, counts⟩
    obtain ⟨cfg, fault, record⟩ := chan c
    refine ⟨?_, fault, record⟩
    simp only [cold, decide_eq_true_eq]
    exact cfg
  · rintro rfl
    have kept := startFilter_acq (beginning s .filter i) i
    have cfg := startFilter_cfg (beginning s .filter i) i
    have tracker := startFilter_tracker (beginning s .filter i) i
    have news (c : Chan) (n : Instr) := mem_startFilter (beginning s .filter i) i c (n := n)
    have is : v = (beginning s .filter i).startFilter i := is
    rw [← is] at kept cfg tracker news
    obtain ⟨acq, fault⟩ := kept
    refine ⟨acq, fault, fun c => ⟨?_, tracker c, fun n mem => List.mem_append_right _ (news c n mem)⟩⟩
    simp only [cold, decide_eq_true_eq]
    exact cfg c
  · rintro rfl g
    have gallery := startEnvelope_gallery (beginning s .envelope i) i g
    have is : v = (beginning s .envelope i).startEnvelope i := is
    rw [← is] at gallery
    obtain ⟨active, lock, staged⟩ := gallery
    refine ⟨?_, lock, staged⟩
    simp only [cold, decide_eq_true_eq]
    exact active
  · rintro rfl
    have aggregates := startHistory_aggregates (beginning s .history i) i
    have history := startHistory_history (beginning s .history i) i
    have is : v = (beginning s .history i).startHistory i := is
    have kept := fun warm still => startHistory_kept (beginning s .history i) (i := i) warm still
    have applied := fun warm moved => startHistory_applied (beginning s .history i) (i := i) warm moved
    rw [← is] at aggregates history kept applied
    refine ⟨aggregates, fun isCold => ?_, fun isWarm => kept (of_decide_eq_false isWarm), fun ls due isWarm moved => ?_⟩
    · rw [of_decide_eq_true isCold] at history
      exact history
    · obtain ⟨idle, slots, rings⟩ := applyPartition_start due
      have made : v.ret.history = s.ret.history.applyPartition none := applied (of_decide_eq_false isWarm) moved
      rw [← made] at idle slots rings
      exact ⟨idle, slots, rings⟩
  · rintro rfl
    have made := startLog_made (s := beginning s .log i) ((logInv_iff s).1 inv).1 i
    have is : v = (beginning s .log i).startLog i := is
    rw [← is] at made
    obtain ⟨marker, active, pool⟩ := made
    refine ⟨marker, fun g y => ?_, ?_⟩
    · exact (active g y).trans (by rw [openAtStart_eq] <;> rfl)
    · simp only [cold, decide_eq_true_eq]
      have same : faultEnds (beginning s .log i) galleries = ends := funext fun e => faultEnds_galleries _ e
      rw [same, infoStamp_eq_beganAt] at pool
      exact pool
  · rintro rfl
    have made := startSequencer_made (beginning s .sequencer i) i
    have is : v = (beginning s .sequencer i).startSequencer i := is
    rw [← is] at made
    obtain ⟨seq, setup⟩ := made
    refine ⟨seq, ?_⟩
    simp only [cold, decide_eq_true_eq]
    exact setup
  · rintro p rfl
    have made := startPort_made (beginning s (.port p) i) p i
    have is : v = (beginning s (.port p) i).startPort p i := is
    rw [← is] at made
    obtain ⟨port, timeout, retained, log, told⟩ := made
    refine ⟨port, ?_, retained, log, ?_, ?_⟩
    · simp only [cold, decide_eq_true_eq]
      exact timeout
    · rintro rfl
      exact List.mem_append_right _ (told _ List.mem_cons_self)
    · rintro rfl
      exact List.mem_append_right _ (told _ List.mem_cons_self)

end Sys2Proof.Machine
end

section
/-! SUPPORT. A warm start's catch-up as day steps of the dose fields (R91, R92), and the start notices of the light account
unit, the climate unit and the darkening controller (O60). -/

namespace Sys2Proof.Machine
open Sys2Proof

/-! ## The account caught up -/

/-- The fields of an account that a day step reads and writes (R83). -/
def doseOf (a : Account) : Option Nat × Nat × Nat × Option Nat := (a.period, a.used, a.carry, a.lastUsed)

/-- An account with those fields and the exhausted flag written. -/
def dosed (a : Account) (x : Option Nat × Nat × Nat × Option Nat) (exhausted : Bool) : Account :=
  { a with period := x.1, used := x.2.1, carry := x.2.2.1, lastUsed := x.2.2.2, exhausted := exhausted }

theorem dayStepped_dosed (x : LightPart) :
    ∃ exhausted, (dayStepped x).1 = dosed x.1 (dayOn x.2.env.period (doseOf x.1)) exhausted := by
  unfold dayStepped dayOn doseOf
  cases period : x.1.period with
  | none => exact ⟨x.1.exhausted, by simp only [dosed, ← period]⟩
  | some d =>
    by_cases more : d + 1 < x.2.env.period
    · exact ⟨x.1.exhausted, by simp only [if_pos more]; rfl⟩
    · exact ⟨overBudget (rolledOver x).1 x.2.env, by simp only [if_neg more]; rfl⟩

/-- A number of day steps writes the dose fields and the exhausted flag alone (R92). -/
theorem daysStepped_dosed (n : Nat) (x : LightPart) :
    ∃ exhausted, (daysStepped n x).1 = dosed x.1 (daysOn x.2.env.period n (doseOf x.1)) exhausted := by
  induction n generalizing x with
  | zero => exact ⟨x.1.exhausted, rfl⟩
  | succ n ih =>
    obtain ⟨first, stepped⟩ := dayStepped_dosed x
    have env : (dayStepped x).2.env = x.2.env := congrArg LightRec.env (lightRec_daysStepped 1 x)
    obtain ⟨last, rest⟩ := ih (dayStepped x)
    rw [env, stepped] at rest
    exact ⟨last, rest⟩

/-- The dose fields of an account before the day steps of a catch-up (R91). -/
def doseGapped (i : StartInfo) (a : Account) : Option Nat × Nat × Nat × Option Nat :=
  if sameHour i a then doseOf a else (a.period, usedFolded a, (a.carry + a.hourAcc) % 36000, a.lastUsed)

theorem gapFolded_account (i : StartInfo) (x : LightPart) :
    (gapFolded i x).1 =
      { dosed x.1 (doseGapped i x.1) x.1.exhausted with hourAcc := if sameHour i x.1 then x.1.hourAcc else 0 } := by
  unfold gapFolded doseGapped
  cases sameHour i x.1
  · exact fold_eq x.1
  · rfl

/-- The dose fields of an account caught up under an envelope (R91, R92). -/
def doseCaughtUp (i : StartInfo) (a : Account) (e : Envelope) : Option Nat × Nat × Nat × Option Nat :=
  daysOn e.period (daysPassed a.stamp.day i.day) (doseGapped i a)

theorem caughtUp_account (i : StartInfo) (x : LightPart) : ∃ exhausted, (caughtUp i x).1 =
    { dosed x.1 (doseCaughtUp i x.1 x.2.env) exhausted with hourAcc := if sameHour i x.1 then x.1.hourAcc else 0 } := by
  have env : (gapFolded i x).2.env = x.2.env := by
    unfold gapFolded
    split <;> rfl
  obtain ⟨exhausted, stepped⟩ := daysStepped_dosed (daysPassed x.1.stamp.day i.day) (gapFolded i x)
  refine ⟨exhausted, stepped.trans ?_⟩
  rw [env, gapFolded_account]
  rfl

/-- The share a warm start recomputes (R91 to R93). -/
def lightReady (i : StartInfo) (x : LightPart) : LightPart := reevaluated (renewed (infoHour i) false false (caughtUp i x))

theorem lightReady_rec (i : StartInfo) (x : LightPart) : (lightReady i x).2 = x.2 := lightRec_caughtUp i x

/-- The account a warm start leaves, caught up, in a new hour and with exhaustion re-evaluated (R91 to R93). -/
theorem lightReady_account (i : StartInfo) (x : LightPart) :
    let y := doseCaughtUp i x.1 x.2.env
    let b := (lightReady i x).1
    b = ⟨y.1, y.2.1, y.2.2.1, if sameHour i x.1 then x.1.hourAcc else 0, overBudget b x.2.env, y.2.2.2, infoHour i,
      scheduleOf x.2.env, false, false, false, x.1.uvHigh, x.1.doseShort, x.1.luxOver⟩ := by
  obtain ⟨exhausted, made⟩ := caughtUp_account i x
  have same : (caughtUp i x).2 = x.2 := lightRec_caughtUp i x
  simp only [lightReady, reevaluated, renewed, same, made]
  rfl

/-! ## What the blocks find at their starts -/

/-- What is sent of a gallery is in flight. -/
theorem mem_of_made {α : Type} {S : Slice α} {s t : State} {φ : Gallery → α → α} {news : Gallery → α → List Instr}
    (made : S.Made s t φ news) (g : Gallery) {n : Instr} (mem : n ∈ news g (S.part s g)) : n ∈ t.inFlight := by
  rw [made.inFlight]
  exact List.mem_append_right _ (List.mem_flatMap.2 ⟨g, mem_galleries g, mem⟩)

theorem startLightRec_eq (s : State) (g : Gallery) : s.startLightRec g = { LightRec.cold with
    lState := begun s ⟨g, .lux⟩, uState := begun s ⟨g, .uv⟩, uDu := (s.cfg ⟨g, .uv⟩).du, env := s.active g } := by
  rw [State.startLightRec, startState_eq_begun, startState_eq_begun]

/-- The start notice of another block does not change what the log is found to hold. -/
theorem foundActive_beginning {b : Block} (other : b ≠ .log) (s : State) (i : StartInfo) (g : Gallery) (y : ExcType) :
    foundActive (beginning s b i) g y = foundActive s g y := by
  have awaited : Block.log ∈ (beginning s b i).awaiting ↔ .log ∈ s.awaiting := by
    unfold beginning
    dsimp only
    split
    · rfl
    · simp [other.symm]
  unfold foundActive
  simp only [awaited]
  rfl

theorem startClimateRec_eq (s : State) (i : StartInfo) (g : Gallery) :
    s.startClimateRec i g = { climateBegun s i.kind g with rh := ClimateRec.cold.rh, t := ClimateRec.cold.t } := by
  unfold State.startClimateRec climateBegun State.startCopy
  simp only [startState_eq_begun, activeAtStart_eq_foundActive]
  cases i.kind <;> rfl

/-- The bands a climate record held before have no part in those computed on the windows (R114). -/
theorem bandedOn_startClimateRec (s : State) (i : StartInfo) (g : Gallery) :
    bandedOn s g (s.startClimateRec i g) = bandedOn s g (climateBegun s i.kind g) := by
  rw [startClimateRec_eq]
  rfl

theorem climateBegun_beginning (s : State) (i : StartInfo) (g : Gallery) :
    climateBegun (beginning s .climate i) i.kind g = climateBegun s i.kind g := by
  unfold climateBegun
  simp only [foundActive_beginning (by simp : Block.climate ≠ .log)]
  rfl

theorem redarkenedBy_beginning (s : State) (i : StartInfo) (g : Gallery) (x : SourceSet) :
    redarkenedBy (beginning s .darkening i) i g x = redarkenedBy s i g x := by
  unfold redarkenedBy
  rw [foundActive_beginning (by simp)]
  rfl

/-- The windows of a gallery whose climate record is `r` (R111). -/
theorem bandedOn_eq (s : State) (g : Gallery) (r : ClimateRec) :
    bandedOn s g r = banded r ((s.setClimate g r).rhWindow g) ((s.setClimate g r).tWindow g) := by
  rw [rhWindow_eq, tWindow_eq, State.climateRec_setClimate, if_pos rfl]
  rfl

theorem sources_redarkenedBy (s : State) (i : StartInfo) (g : Gallery) (x : SourceSet) : (redarkenedBy s i g x).2.1 = x := by
  unfold redarkenedBy
  dsimp only
  split <;> rfl

theorem mem_redarkenNews {s : State} {g : Gallery} {x : DarkPart} {n : Instr}
    (told : n ∈ darkNotices g (decide (keptSources s x.2.1 ≠ .empty))) : n ∈ redarkenNews s g x := by
  unfold redarkenNews
  dsimp only
  split
  next none => simpa [none] using told
  next held => exact List.mem_append_right _ (by simpa [held] using told)

/-! ## The light account unit -/

theorem recomputedFrom_clockAfter (s : State) (b : Block) (d : Option Nat) (short : Bool) (x : LightPart) :
    RecomputedFrom (clockAfter s b) d short x ↔ RecomputedFrom s.clock d short x := by
  unfold clockAfter
  split <;> rfl

/-- What a start of the light account unit makes of a gallery: the account that it recomputes, cold or caught up, under the
copies it begins with (R90 to R93, R100). -/
def lightBegun (s : State) (i : StartInfo) (g : Gallery) : LightPart :=
  match i.kind with
  | .cold => (.cold, s.startLightRec g)
  | .warm => lightReady i (s.account g, s.startLightRec g)

theorem startLight_part (s : State) (i : StartInfo) (g : Gallery) :
    ((s.startLight i).account g, (s.startLight i).lightRec g) = recomputed s.clock (lightBegun s i g) := by
  refine ((startLight_made s i).part g).trans ?_
  unfold lightBegun
  cases i.kind <;> rfl

theorem lightBegun_rec (s : State) (i : StartInfo) (g : Gallery) : (lightBegun s i g).2 = s.startLightRec g := by
  unfold lightBegun
  cases i.kind
  · rfl
  · exact lightReady_rec i _

theorem lightBegun_doseShort (s : State) (i : StartInfo) (g : Gallery) :
    (lightBegun s i g).1.doseShort = (if i.kind = .cold then Account.cold else s.account g).doseShort := by
  unfold lightBegun
  cases i.kind
  · rfl
  · exact (congrArg Account.doseShort (lightReady_account i (s.account g, s.startLightRec g)) :)

/-- A catch-up in another hour folds, and closes the account's hour with POWER_GAP (R91). -/
theorem hourClose_mem_startLight (s : State) {i : StartInfo} {g : Gallery} (warm : i.kind = .warm)
    (gap : sameHour i (s.account g) = false) :
    Instr.hourCloseNotice ⟨g, (s.account g).stamp.day, (s.account g).stamp.hour,
      ((s.account g).carry + (s.account g).hourAcc) / 36000,
      ⟨isOpen (s.account g).schedule (s.account g).stamp.weekday (s.account g).stamp.hour, (s.account g).darkened,
        (s.account g).lSub, (s.account g).begunByChange, true, (s.account g).period = none⟩⟩ ∈ (s.startLight i).inFlight := by
  refine mem_of_made (startLight_made s i) g ?_
  rw [warm]
  refine List.mem_append_left _ (List.mem_append_left _ (List.mem_append_left _ ?_))
  show _ ∈ gapNews i g (s.account g, s.startLightRec g)
  rw [gapNews, if_neg (Bool.eq_false_iff.1 gap), foldedNews_eq, Bool.or_false]
  exact List.mem_append_left _ (List.mem_singleton_self _)

/-- The account a cold start leaves (R90). -/
theorem recomputed_cold (c : Clock) (r : LightRec) :
    (recomputed c (.cold, r)).1 = ⟨none, 0, 0, 0, false, none, ⟨0, 0, 0⟩, ⟨10, 18, 127⟩, false, false, false, false, false,
      false⟩ := rfl

/-- The account a warm start leaves (R91 to R93). -/
theorem recomputed_lightReady (c : Clock) (i : StartInfo) (x : LightPart) :
    let y := doseCaughtUp i x.1 x.2.env
    let b := (recomputed c (lightReady i x)).1
    b = ⟨y.1, y.2.1, y.2.2.1, if sameHour i x.1 then x.1.hourAcc else 0, overBudget b x.2.env, y.2.2.2, infoHour i,
      scheduleOf x.2.env, false, false, false, x.1.uvHigh, b.doseShort, x.1.luxOver⟩ := by
  intro y b
  have ready := lightReady_account i x
  have budget : overBudget b x.2.env = overBudget (lightReady i x).1 x.2.env := rfl
  have made : b = { (lightReady i x).1 with doseShort := b.doseShort } := rfl
  rw [budget]
  exact made.trans (congrArg (fun a : Account => { a with doseShort := b.doseShort }) ready)

theorem keepsCopies_recomputed (c : Clock) (x : LightPart) : keepsCopies x.2 (recomputed c x).2 := rfl

theorem warm_of_ne_cold {k : StartKind} (h : k ≠ .cold) : k = .warm := by
  cases k with
  | cold => exact absurd rfl h
  | warm => rfl

theorem sameHour_eq (i : StartInfo) (a : Account) :
    sameHour i a = (decide (a.stamp.day = i.day) && decide (a.stamp.hour = i.minute / 60)) := Bool.decide_and _ _

/-- Settles O60: each block's start is what it makes of the galleries' shares as the start finds them. -/
theorem startsCaughtUp : Obligations.StartsCaughtUp := by
  unfold Obligations.StartsCaughtUp
  intro i s running clock cold
  refine ⟨?_, ?_, ?_⟩
  · obtain ⟨v, is⟩ : ∃ v, v = (beginning s .light i).startBlock .light i := ⟨_, rfl⟩
    refine ⟨takenBy .light s v, is ▸ exec_startNotice running .light i, fun g => ?_⟩
    have part := startLight_part (beginning s .light i) i g
    have told := fun warm gap => hourClose_mem_startLight (beginning s .light i) (i := i) (g := g) warm gap
    have is : v = (beginning s .light i).startLight i := is
    rw [← is] at part told
    have share : (v.account g, v.lightRec g) = recomputed s.clock (lightBegun s i g) := part
    have account : v.account g = (recomputed s.clock (lightBegun s i g)).1 := congrArg Prod.fst share
    have record : v.lightRec g = (recomputed s.clock (lightBegun s i g)).2 := congrArg Prod.snd share
    have begun := (lightBegun_rec s i g).trans (startLightRec_eq s g)
    intro a b e total same folded x flags was
    refine ⟨?_, ?_, ?_, ?_, fun isCold => ?_, fun isWarm => ⟨?_, fun gap => ?_⟩⟩
    · exact (congrArg₂ keepsCopies begun record.symm).mp (keepsCopies_recomputed s.clock (lightBegun s i g))
    · exact (congrArg LightRec.overCount record).trans (congrArg LightRec.overCount begun)
    · exact (congrArg LightRec.startPending record).trans (congrArg LightRec.startPending begun)
    · refine (recomputed_iff was _ g).2 ((recomputedFrom_clockAfter s .light _ _ _).2 ?_)
      have made := recomputed_from s.clock clock.2.1 (lightBegun s i g)
      have level : (was.lightRec g).declared = none := congrArg LightRec.declared (PerGallery.get_set_self _ _ _)
      have short : (was.account g).doseShort = (lightBegun s i g).1.doseShort := by
        rw [lightBegun_doseShort]
        refine congrArg Account.doseShort ((PerGallery.get_set_self _ _ _).trans ?_)
        simp only [cold, decide_eq_true_eq, a]
      rw [← share, begun] at made
      rw [level, short]
      exact made
    · have isCold : i.kind = .cold := of_decide_eq_true isCold
      unfold lightBegun at account
      rw [isCold] at account
      exact account.trans (recomputed_cold s.clock _)
    · have isWarm := warm_of_ne_cold (of_decide_eq_false isWarm)
      have ready := recomputed_lightReady s.clock i (s.account g, s.startLightRec g)
      unfold lightBegun at account
      rw [isWarm] at account
      have here : sameHour i (s.account g) = same := sameHour_eq i a
      dsimp only at ready account
      rw [← account] at ready
      unfold doseCaughtUp doseGapped at ready
      simp only [here] at ready
      exact ready
    · have isWarm := warm_of_ne_cold (of_decide_eq_false isWarm)
      exact List.mem_append_right _ (told isWarm ((sameHour_eq i a).trans gap))
  · obtain ⟨v, is⟩ : ∃ v, v = (beginning s .climate i).startBlock .climate i := ⟨_, rfl⟩
    refine ⟨takenBy .climate s v, is ▸ exec_startNotice running .climate i, fun g => ?_⟩
    have made := (startClimate_acts i).forGalleries (beginning s .climate i)
    have is : v = (beginning s .climate i).startClimate i := is
    change climateSlice.Made _ (State.startClimate (beginning s .climate i) i) _ _ at made
    rw [← is] at made
    intro s1 b
    have computed : bandedOn (beginning s .climate i) g ((beginning s .climate i).startClimateRec i g) = b := by
      rw [bandedOn_startClimateRec, climateBegun_beginning, bandedOn_eq]
      rfl
    have part := made.part g
    rw [computed] at part
    refine ⟨part, fun n mem => List.mem_append_right _ ?_⟩
    exact mem_of_made made g ((congrArg (n ∈ swingNotices g ·) computed).mpr mem)
  · obtain ⟨v, is⟩ : ∃ v, v = (beginning s .darkening i).startBlock .darkening i := ⟨_, rfl⟩
    refine ⟨takenBy .darkening s v, is ▸ exec_startNotice running .darkening i, ?_⟩
    have made := startDarkening_made (beginning s .darkening i) i
    have is : v = (beginning s .darkening i).startDarkening i := is
    rw [← is] at made
    cases kind : i.kind with
    | cold =>
      have isCold : cold = true := decide_eq_true kind
      simp only [kind] at made
      refine ⟨fun x => ?_, fun g => ?_⟩
      · have same := (congrArg (fun u : State => u.ret.triggers.get x) made.around :)
        rw [if_pos isCold]
        refine same.trans ?_
        cases x <;> rfl
      · intro fell kept
        rw [if_pos isCold]
        have part : darkOf v g = (darkBegun s g false, .empty, false) := made.part g
        have none : v.sources g = .empty := congrArg (fun x => x.2.1) part
        have dark : decide ((takenBy .darkening s v).sources g ≠ .empty) = false := decide_eq_false (not_not.2 none)
        rw [dark]
        exact ⟨part, fun n mem => List.mem_append_right _ (mem_of_made made g mem)⟩
    | warm =>
      have isWarm : ¬cold = true := by simp [cold, kind]
      simp only [kind] at made
      refine ⟨fun x => ?_, fun g => ?_⟩
      · rw [if_neg isWarm]
        exact (congrArg (fun u : State => u.ret.triggers.get x) made.around :)
      · intro fell kept
        rw [if_neg isWarm]
        have part : darkOf v g = redarkenedBy s i g kept := (made.part g).trans (redarkenedBy_beginning s i g kept)
        have set : (takenBy .darkening s v).sources g = kept :=
          (congrArg (fun x => x.2.1) part).trans (sources_redarkenedBy s i g kept)
        rw [set]
        exact ⟨part, fun n mem => List.mem_append_right _ (mem_of_made made g (mem_redarkenNews mem))⟩

end Sys2Proof.Machine
end
